-- ==== Sys2Proof/Word.lean ====
section
/-! DEFINITION. The words of the M220's records, registers and frames (spec/11_record_and_frame_layouts.md, R183). -/

namespace Sys2Proof

/-- An octet of a host record or of a line frame. -/
abbrev Byte := BitVec 8

/-- A 16-bit field: a free-running ring index, a sequence number, a tag, the frame CRC. -/
abbrev Half := BitVec 16

/-- A 32-bit field: a register, a cycle number, a line counter. -/
abbrev Word := BitVec 32

/-- A 64-bit host memory address (R183). -/
abbrev Addr := BitVec 64

end Sys2Proof
end

