-- ==== Sys2Proof/Syntax.lean ====
section
/-! DEFINITION. The commands and events of spec/opcode_table.json, one constructor a row, with the operands the
cited rules give them. The table names no operand fields; the operands are read from the rules. -/

namespace Sys2Proof

/-- One of the two multidrop lines (spec/00_scope.md, "Line n"). -/
inductive LineId where
  | line0
  | line1
deriving DecidableEq, Repr

/-- One of the three interrupt vectors (R95). -/
inductive VectorId where
  | vector0
  | vector1
  | vector2
deriving DecidableEq, Repr

/-- How a host memory read ended as the bus reports it: the octets that returned, or a completer error (R180). -/
inductive ReadResult where
  | octets (data : List Byte)
  | error
deriving DecidableEq, Repr

/-- One received frame as the receiver marked it out (R6): the octets decoded from its first octet on, and whether an
octet of it had a coding error (R1). -/
structure Reception where
  octets : List Byte
  codingError : Bool
deriving DecidableEq, Repr

/-- A tone that a line's wake detector recognises (R148). `wakeAsked` says that a WAKE request acted at REST in the same moment, the recognition being
taken first (R152; log entry 37). -/
structure ToneRecognition where
  line : LineId
  wakeAsked : Bool
deriving DecidableEq, Repr

/-- The registers a plain write may name: those whose writes have no row of their own in the table (R169). -/
inductive PlainRegister where
  | ident
  | dstat
  | faultinfo
  | ctxlo
  | ctxhi
deriving DecidableEq, Repr

/-- The commands, one constructor per row of spec/opcode_table.json, in the table's order.

Where an operand `id` stands, it names the host memory read that ends (log entry 4).
`cycleFirst` says which of two blocks acts first where the spec allows either order (R162, R81; log entries 7 and 8);
`line1First` says the same of the two lines at the entry to STOPPING. -/
inductive Instr where
  | powerOn
  | nReset
  | dctlEnableSet
  | dctlEnableClear (line1First cycleFirst : Bool)
  | dctlReset (enable : Bool)
  | notifyRequestProducer (l : LineId) (value : Half)
  | notifyCompletionConsumer (l : LineId) (value : Half)
  | notifyBufferProducer (l : LineId) (value : Half)
  | notifyEventConsumer (value : Half)
  | notifyRingId7 (value : Half)
  | irqpendAcknowledge (v0 v1 v2 : Bool)
  | registerWrite (r : PlainRegister) (value : Word)
  | contextReadDone (id : Nat) (result : ReadResult)
  | hostReadTimeout (id : Nat)
  | requestFetchIssue (l : LineId)
  | requestFetchDone (l : LineId) (id : Nat) (result : ReadResult)
  | stagedRecordAppend (l : LineId)
  | slotTableReadDone (l : LineId) (id : Nat) (result : ReadResult)
  | trafficSelect (l : LineId)
  | payloadReadDone (l : LineId) (id : Nat) (result : ReadResult)
  | holdoffExpiry (l : LineId) (ringIndex : Half)
  | stationSet (l : LineId)
  | stationRead (l : LineId)
  | lineConfig (l : LineId)
  | lineParameterBlockReadDone (l : LineId) (id : Nat) (result : ReadResult)
  | rest (l : LineId)
  | wake (l : LineId)
  | lineRecover (l : LineId)
  | fence (l : LineId)
  | lineGrant (l : LineId)
  | slotOutputReadDone (l : LineId) (id : Nat) (result : ReadResult)
  | gapElapsed (l : LineId)
  | collision (l : LineId) (cycleFirst : Bool)
  | cmdSent (l : LineId)
  | datSent (l : LineId)
  | quietSent (l : LineId)
  | wackSent (l : LineId)
  | receivedFrameStart (l : LineId)
  | responseTimeout (l : LineId)
  | frameReceived (l : LineId) (rx : Reception)
  | descriptorFetchIssue (l : LineId)
  | descriptorFetchDone (l : LineId) (id : Nat) (result : ReadResult)
  | eventBacklogDrain
  | holdTimerExpiry (v : VectorId)
  | cycleTimerExpiry (l : LineId)
  | syncRisingEdge (l : LineId)
  | quiesceTimerExpiry (l : LineId)
  | toneRecognised (r : ToneRecognition)
  | toneEnd (l : LineId)
  | overlongTone (l : LineId) (cycleFirst : Bool)
  | masterToneEnd (l : LineId)
  | listenWindowExpiry (l : LineId)
  | stuckLine (l : LineId) (cycleFirst : Bool)
  | recoveryWatchExpiry (l : LineId)
  | recoveryWatchActivity (l : LineId)
  | bufferReturnAtStop (l : LineId)
  | stopLineWorkEnd
  | eventDrainExpiry
deriving DecidableEq, Repr

end Sys2Proof
end

