-- ==== Sys2Proof/Decode.lean ====
section
/-! DEFINITION. The commands that words spell. No row of spec/opcode_table.json gives bits, so no table word spells a command. What the
manual does give bits is the register window: a 32-bit write to one of its offsets spells a command (spec/11, Registers; R169, R184). -/

namespace Sys2Proof

/-- The command a table word spells: none, since no row of the table gives bits. -/
def decodeTableWord (_nbits _w : Nat) : Option Instr := none

/-- The ring id and the index of a NOTIFY write (spec/11, Registers: bits 18 to 16 and 15 to 0). -/
def decodeNotify (value : Word) : Instr :=
  let index : Half := value.setWidth 16
  match (value.toNat / 0x10000) % 8 with
  | 0 => .notifyEventConsumer index
  | 1 => .notifyRequestProducer .line0 index
  | 2 => .notifyCompletionConsumer .line0 index
  | 3 => .notifyBufferProducer .line0 index
  | 4 => .notifyRequestProducer .line1 index
  | 5 => .notifyCompletionConsumer .line1 index
  | 6 => .notifyBufferProducer .line1 index
  | _ => .notifyRingId7 index

/-- The DCTL write: RESET wins over ENABLE (R170; spec/11, Registers: bit 0 ENABLE, bit 1 RESET). A stop takes line 0 and the request
engine first; the command's own operands let either order be asked for (log entry 8). -/
def decodeDctl (value : Word) : Instr :=
  if value.getLsbD 1 then .dctlReset (value.getLsbD 0)
  else if value.getLsbD 0 then .dctlEnableSet
  else .dctlEnableClear false false

/-- The command that a 32-bit write to an offset of the register window spells; none where no register stands (spec/11, Registers).
Reserved bits are ignored (R184). -/
def decodeRegisterWrite (offset : Nat) (value : Word) : Option Instr :=
  match offset with
  | 0x00 => some (.registerWrite .ident value)
  | 0x04 => some (decodeDctl value)
  | 0x08 => some (.registerWrite .dstat value)
  | 0x0C => some (.registerWrite .faultinfo value)
  | 0x10 => some (.registerWrite .ctxlo value)
  | 0x14 => some (.registerWrite .ctxhi value)
  | 0x18 => some (decodeNotify value)
  | 0x1C => some (.irqpendAcknowledge (value.getLsbD 0) (value.getLsbD 1) (value.getLsbD 2))
  | _ => none

end Sys2Proof
end

