-- ==== Sys2Proof/Config.lean ====
section
/-! DEFINITION. The fixed numbers of the part, each with the rule that gives it. No value here is open in the manual. -/

namespace Sys2Proof.Config

/-- IDENT bits 31 to 16 (spec/11, Registers). -/
def familyCode : Nat := 0x0220

/-- IDENT bits 15 to 0 for the part this edition describes (spec/11, Registers). -/
def revision : Nat := 0x0001

/-- The line address of the master (spec/00_scope.md, Terms). -/
def masterAddress : Nat := 63

/-- A line's pending list never holds more than this many entries (R61). -/
def pendingMax : Nat := 8

/-- The buffer unit holds fewer than this many descriptors when it issues a fetch (R85). -/
def heldMax : Nat := 2

/-- The event backlog holds at most this many events (R89). -/
def backlogMax : Nat := 16

/-- The FUNCTION of a FETCH (R3, R135). -/
def fetchFunction : Byte := 240

/-- The FUNCTION of a QUERY (R3, R155). -/
def queryFunction : Byte := 241

/-- The recovery watch of a LINE_RECOVER, in µs (R166). -/
def recoveryWatch : Nat := 1000

/-- The event drain at the end of a stop, in ms (R178). -/
def eventDrain : Nat := 10

/-- The generator polynomial of the frame CRC without its leading term (R4). -/
def crcPolynomial : Half := 0x3D65

end Sys2Proof.Config
end

