-- ==== Sys2Proof/Machine/Types.lean ====
section
/-! DEFINITION. The types of the M220's state: every list, record, mode, timer and counter of its blocks, as plain data. -/

namespace Sys2Proof.Machine

/-! ## Codes -/

/-- Device run state (R170). -/
inductive RunState where
  | off | starting | running | stopping | fault
deriving DecidableEq, Repr

/-- Line state (R142). -/
inductive LineState where
  | off | active | quiescing | rest | waking | faulted
deriving DecidableEq, Repr

/-- Health state of a station (R37). -/
inductive Health where
  | unknown | online | suspect | offline | disabled
deriving DecidableEq, Repr

/-- Fault codes of FAULTINFO (R173). -/
inductive FaultCode where
  | none | badContextAddress | contextReadError | badSignature | badVersion | badAlignment | badRingSize
  | badParameter | badVectorSetting | badDeliveryMode
deriving DecidableEq, Repr

/-- Contents of FAULTINFO (spec/11, Registers): the line is that of BAD_PARAMETER. -/
structure FaultInfo where
  code : FaultCode
  detail : Nat
  line : Nat
deriving DecidableEq, Repr

/-- Reason of a LINE_STATE event (R142, R159 to R161, R166). -/
inductive LineReason where
  | start | restRequest | stationWake | masterWake | wakeDone | collisionLimit | stuckLine | overlongTone | recover
  | deviceStop
deriving DecidableEq, Repr

/-- Cause of a STATION_STATE event (R43). -/
inductive HealthCause where
  | exchange | threshold | stationSet
deriving DecidableEq, Repr

/-- Source of an ATTENTION event (R44). -/
inductive AttentionSource where
  | rsp | wake
deriving DecidableEq, Repr

/-- Initiator of a WAKE event (R156). -/
inductive Initiator where
  | master | station | masterAndStation
deriving DecidableEq, Repr

/-- The sixteen completion statuses (R78). -/
inductive Status where
  | ok | noResponse | badFrame | refused | busyExpired | stationOffline | stationDisabled | aborted | badRequest
  | badAddress | lineAtRest | lineFault | busySchedule | attentionPending | woken | stillFaulted
deriving DecidableEq, Repr

/-- Last status of a slot (R120). -/
inductive SlotResult where
  | none | ok | noResponse | badFrame | nakBusy | refused | skippedOffline | skippedDisabled | skippedOverrun
  | skippedStop | skippedFault | hostError
deriving DecidableEq, Repr

/-- Line coding (R1). -/
inductive Coding where
  | nrz | manchester
deriving DecidableEq, Repr

/-- One of the two schedule banks (R102). -/
inductive BankId where
  | bank0 | bank1
deriving DecidableEq, Repr

/-! ## The Device Context Block -/

/-- Base and size of a ring (R172). -/
structure RingSpec where
  base : Addr
  size : Nat
deriving DecidableEq, Repr

/-- One line section of the Device Context Block (R172). The Line Parameter Block is kept as read. -/
structure LineSection where
  enable : Bool
  defaults : Bool
  parameters : List Byte
  requestRing : RingSpec
  completionRing : RingSpec
  bufferRing : RingSpec
deriving DecidableEq, Repr

/-- Moderation count and hold time of a vector (R95). -/
structure VectorSetting where
  moderation : Nat
  holdTime : Nat
deriving DecidableEq, Repr

/-- Run control's copy of the Device Context Block (R172). `level` is delivery mode LEVEL (R98). -/
structure ContextBlock where
  level : Bool
  setting0 : VectorSetting
  setting1 : VectorSetting
  setting2 : VectorSetting
  eventRing : RingSpec
  indexPage : Addr
  section0 : LineSection
  section1 : LineSection
deriving DecidableEq, Repr

/-! ## Line parameters and station records -/

/-- The parameter set of a line, in index order (R24). -/
structure Params where
  rate : Nat
  coding : Coding
  gap : Nat
  responseTimeout : Nat
  retryLimit : Nat
  slotRetryLimit : Nat
  busyHoldoff : Nat
  busyLimit : Nat
  offlineThreshold : Nat
  rejoinInterval : Nat
  collisionLimit : Nat
  wakeToneLength : Nat
  listenWindow : Nat
  quiesceTime : Nat
  autoWake : Bool
  attentionCollection : Bool
deriving DecidableEq, Repr

/-- One station record (R37). -/
structure Station where
  state : Health
  failures : Nat
  seq : Bool
  resync : Bool
  attention : Bool
  wakeCapable : Bool
  timeoutOverride : Nat
  good : Nat
  failed : Nat
  busy : Nat
deriving DecidableEq, Repr

/-! ## Requests -/

/-- The groups a LINE_CONFIG names (R24, R31). -/
structure GroupMask where
  link : Bool
  timing : Bool
  health : Bool
  rest : Bool
deriving DecidableEq, Repr

/-- The action of a STATION_SET with its argument (R51). -/
inductive SetAction where
  | enable | disable | forget
  | wakeCapable (value : Bool)
  | timeoutOverride (value : Nat)
deriving DecidableEq, Repr

/-- Start source of the cycle engine (R101, R108). -/
inductive StartSource where
  | timer (period : Nat)
  | sync
  | manual
deriving DecidableEq, Repr

/-- The action of a SCHEDULE_CONTROL (R108). -/
inductive ScheduleAction where
  | start (source : StartSource)
  | stop
  | switch
  | trigger
deriving DecidableEq, Repr

/-- The selector of an ABORT with its argument (R74). -/
inductive AbortSelector where
  | tag (value : Half)
  | station (address : Nat)
  | all
deriving DecidableEq, Repr

/-- A request record that passed its checks, by kind (R60; layouts in spec/11). -/
inductive Body where
  | exchange (probe noRetry : Bool) (station : Nat) (function : Byte) (outLength : Nat) (outAddress : Addr)
      (inCapacity : Nat) (inAddress : Addr)
  | send (station : Nat) (function : Byte) (outLength : Nat) (outAddress : Addr)
  | stationSet (first last : Nat) (action : SetAction)
  | stationRead (first last : Nat) (clear : Bool) (inAddress : Addr)
  | lineConfig (mask : GroupMask) (defaults : Bool) (outAddress : Addr) (inCapacity : Nat) (inAddress : Addr)
  | rest
  | wake
  | lineRecover
  | fence
  | scheduleLoad (slotCount imageSize : Nat) (table statusArray imageBase : Addr)
  | scheduleControl (action : ScheduleAction)
  | abort (selector : AbortSelector)
deriving DecidableEq, Repr

/-- The work that takes time and that an IN_FLIGHT entry is doing (R62, R71, R73). -/
inductive Work where
  /-- Traffic: its out payload is being read (R65). -/
  | payloadRead (id : Nat)
  /-- Traffic: it holds its payload and waits for the grant (R65). -/
  | awaitGrant (payload : List Byte)
  /-- Traffic: its order is in flight on the line. -/
  | onLine
  /-- LINE_CONFIG: its Line Parameter Block is being read (R33). -/
  | blockRead (id : Nat)
  /-- REST: its BARRIER claim waits (R145). -/
  | restClaim
  /-- REST: its QUIET frames and quiesce time (R147). -/
  | quiescing
  /-- WAKE: the wake it asked for is under way (R151). -/
  | waking
  /-- LINE_RECOVER: its recovery watch runs (R166). -/
  | watching
  /-- SCHEDULE_LOAD: its slot table is being read (R105). -/
  | tableRead (id : Nat)
  /-- STOP: it waits for the slot in flight (R125). -/
  | stopWait
deriving DecidableEq, Repr

/-- State of a pending entry (R62). The holdoff timer runs exactly in HOLDOFF and stands there as started. -/
inductive EntryState where
  | waiting
  | holdoff (timer : Nat)
  | inFlight (work : Work)
  | parked
deriving DecidableEq, Repr

/-- A pending entry (R62): the request as taken and its working values. -/
structure Entry where
  tag : Half
  ringIndex : Half
  kind : Byte
  body : Body
  state : EntryState
  busyCount : Nat
  attempts : Nat
  abortMark : Bool
deriving DecidableEq, Repr

/-- Request intake of a line (R56). -/
structure Intake where
  producer : Half
  consumer : Half
  errored : Bool
  fetch : Option Nat
  staged : Option Entry
deriving DecidableEq, Repr

/-- The completion writer of a line (R79). -/
structure CompletionWriter where
  producer : Half
  consumer : Half
  credit : Nat
deriving DecidableEq, Repr

/-- A held buffer descriptor: address and length as read, and whether it is usable (R83, R85). -/
structure Descriptor where
  address : Addr
  length : Nat
  usable : Bool
deriving DecidableEq, Repr

/-- The buffer unit of a line (R83). -/
structure BufferUnit where
  producer : Half
  consumer : Half
  writeBack : Half
  held : List Descriptor
  errored : Bool
  fetch : Option Nat
deriving DecidableEq, Repr

/-! ## The cyclic schedule -/

/-- What a slot does (R103). -/
inductive SlotKind where
  | poll | output
deriving DecidableEq, Repr

/-- One slot of a bank (R103). -/
structure Slot where
  kind : SlotKind
  station : Nat
  function : Byte
  divisor : Nat
  phase : Nat
  outOffset : Nat
  outLength : Nat
  inOffset : Nat
  inLength : Nat
deriving DecidableEq, Repr

/-- The status of a slot as last written to its slot status record (R120). -/
structure SlotStatus where
  lastAttempt : Word
  lastSuccess : Word
  result : SlotResult
  newestHalf : Nat
  newestLength : Nat
  misses : Nat
  updates : Half
deriving DecidableEq, Repr

/-- A slot with its status: the status travels with the bank (R124). -/
structure SlotCell where
  slot : Slot
  status : SlotStatus
deriving DecidableEq, Repr

/-- State of a schedule bank (R102). -/
inductive BankState where
  | empty | loading | loaded | committed | active
deriving DecidableEq, Repr

/-- A schedule bank: its slots with their statuses and its settings (R102). -/
structure Bank where
  state : BankState
  slots : List SlotCell
  imageBase : Addr
  imageSize : Nat
  statusArray : Addr
deriving DecidableEq, Repr

/-- State of the cycle engine (R101). -/
inductive EngineState where
  | stopped | waiting | inCycle | halted
deriving DecidableEq, Repr

/-- Where the slot at the cursor stands (R116). -/
inductive SlotStage where
  | idle
  | outputRead (id : Nat)
  | claiming (payload : List Byte)
  | inFlight
deriving DecidableEq, Repr

/-- The cycle engine of a line (R101) with the counters of its cycle record (R121). `startLate` remembers that an order was in
flight when the pending start was raised (R112), and `stopRequested` that the engine becomes STOPPED when the slot in flight
ends (R125, R127): both are the model's own fields (log entry 22). -/
structure Engine where
  state : EngineState
  active : BankId
  bank0 : Bank
  bank1 : Bank
  source : Option StartSource
  timer : Option Nat
  cycle : Word
  pendingStart : Bool
  startLate : Bool
  due : List Nat
  cursor : Nat
  stage : SlotStage
  stopRequested : Bool
  lastCompleted : Word
  overruns : Word
  mergedStarts : Word
  lateStarts : Word
deriving DecidableEq, Repr

/-! ## Arbiter, collector, line controller, wake sequence -/

/-- Last acyclic grantee (R128). -/
inductive Grantee where
  | requestEngine | collector
deriving DecidableEq, Repr

/-- The attention collector of a line (R133) with its claim (R128). -/
structure Collector where
  claim : Bool
  rotation : Nat
  starved : Bool
deriving DecidableEq, Repr

/-- Who receives the outcome of an order (R10). -/
inductive Claimant where
  | requestEngine | cycleEngine | collector | wakeSequence
deriving DecidableEq, Repr

/-- An EXCHANGE order and its working values (R10, R12, R14 to R16): `resync` is the RESYNC flag of the next CMD, `used` the
budget used, `cmds` the CMD frames begun, `nakSeqSeen` that a first NAK_SEQ was met. -/
structure Exchange where
  station : Nat
  function : Byte
  payload : List Byte
  retryLimit : Nat
  claimant : Claimant
  stopMark : Bool
  seq : Bool
  resync : Bool
  timeout : Nat
  used : Nat
  cmds : Nat
  nakSeqSeen : Bool
deriving DecidableEq, Repr

/-- A DATA order (R21). -/
structure DataOrder where
  station : Nat
  function : Byte
  payload : List Byte
  claimant : Claimant
deriving DecidableEq, Repr

/-- What the line controller is doing on the line (R10, R22, R143). -/
inductive JobKind where
  | exchange (x : Exchange)
  | data (d : DataOrder)
  | quiet
  | wack (acknowledged : Nat)
  | tone (length : Nat)
deriving DecidableEq, Repr

/-- Rate code and coding of a frame under way: those in force when it began (R1, R27). -/
structure Signalling where
  rate : Nat
  coding : Coding
deriving DecidableEq, Repr

/-- Whether it is a slot's order: the cycle engine's exchange or DAT (R116). -/
def JobKind.isSlot : JobKind → Bool
  | .exchange x => decide (x.claimant = .cycleEngine)
  | .data d => decide (d.claimant = .cycleEngine)
  | _ => false

/-- How far it has come: waiting for the gap value read (R2, R27), sending the octets of a frame (R9), awaiting an answer with
the response timeout running, receiving the frame that answers (R11), or driving the wake tone (R143). -/
inductive JobStage where
  | gapWait (gap : Nat)
  | sending (signalling : Signalling) (octets : List Byte)
  | awaiting
  | answering
  | toning
deriving DecidableEq, Repr

/-- The one order or transmission in flight on a line (R10). -/
structure Job where
  kind : JobKind
  stage : JobStage
deriving DecidableEq, Repr

/-- To whom the frame being received will go, fixed when it begins (R8). -/
inductive RxRole where
  | answer | window | other
deriving DecidableEq, Repr

/-- The frame being received: its role, and the signalling it is decoded under (R8, R27). -/
structure Receiving where
  role : RxRole
  signalling : Signalling
deriving DecidableEq, Repr

/-- The five line counters (R168). -/
structure Counters where
  collisions : Word
  crcErrors : Word
  timeouts : Word
  strayFrames : Word
  faultsEntered : Word
deriving DecidableEq, Repr

/-- The wake detector (R148): not armed, armed, or following a tone it recognised. -/
inductive Detector where
  | disarmed | armed | toneSeen
deriving DecidableEq, Repr

/-- Phase of the wake sequence (R144). -/
inductive WakePhase where
  | none | quiet1 | quiet2 | quiesce | toneIn | masterTone | listen | rollCall | closing
deriving DecidableEq, Repr

/-- What the first frame in the listen window was (R153). -/
inductive WindowResult where
  | validWake | silence | garbage
deriving DecidableEq, Repr

/-- The wake sequence of a line (R144). -/
structure WakeSequence where
  phase : WakePhase
  quiesceTimer : Option Nat
  masterTone : Bool
  windowTimer : Option Nat
  result : Option WindowResult
  acknowledged : Nat
  rollCall : List Nat
  queried : Nat
deriving DecidableEq, Repr

/-! ## Lines, events, vectors, host port -/

/-- Everything a line holds. -/
structure Line where
  state : LineState
  params : Params
  stations : Vector Station 62
  intake : Intake
  entries : List Entry
  completion : CompletionWriter
  buffers : BufferUnit
  engine : Engine
  lastGrantee : Grantee
  collector : Collector
  job : Option Job
  reception : Option Receiving
  consecutiveCollisions : Nat
  counters : Counters
  detector : Detector
  wake : WakeSequence
deriving DecidableEq, Repr

/-- An event (R89): its kind with what it carries. Ring ids as in R171. -/
inductive Event where
  | stationState (l : LineId) (station : Nat) (old new : Health) (failures : Nat) (cause : HealthCause)
  | attention (l : LineId) (station : Nat) (source : AttentionSource) (state : Health)
  | wake (l : LineId) (station : Nat) (initiator : Initiator) (rollCall unexpected : Bool) (queried : Nat)
  | lineState (l : LineId) (old new : LineState) (reason : LineReason)
  | cycleOverrun (l : LineId) (cycle : Word) (skipped : Nat)
  | scheduleSwitched (l : LineId) (cycle : Word) (bank : BankId)
  | cycleHalted (l : LineId) (cycle : Word) (skipped : Nat)
  | ringError (l : LineId) (ringId : Nat) (index : Half)
  | notifyRejected (l : Option LineId) (ringId : Nat) (value held : Half)
  | bufferStarved (l : LineId) (stations : Nat)
  | eventLoss (count : Nat) (first : Half)
deriving DecidableEq, Repr

/-- The event unit (R89). -/
structure EventUnit where
  producer : Half
  consumer : Half
  sequence : Half
  backlog : List (Half × Event)
  lossCount : Nat
  firstLost : Option Half
deriving DecidableEq, Repr

/-- State of one interrupt vector (R95). -/
structure VectorState where
  unreported : Nat
  holdTimer : Option Nat
  pending : Bool
deriving DecidableEq, Repr

/-- Who asked for a host memory read (R180). -/
inductive Reader where
  | context
  | request (l : LineId)
  | descriptor (l : LineId)
  | payload (l : LineId)
  | parameters (l : LineId)
  | slotTable (l : LineId)
  | slotOutput (l : LineId)
deriving DecidableEq, Repr

/-- A host memory read issued and not yet ended (R180). -/
structure HostRead where
  id : Nat
  reader : Reader
  address : Addr
  length : Nat
deriving DecidableEq, Repr

/-- What the host port has issued: a write (R181), an interrupt message, or a change of the interrupt line (R98). -/
inductive PortOp where
  | write (address : Addr) (octets : List Byte)
  | message (v : VectorId)
  | level (active : Bool)
deriving DecidableEq, Repr

end Sys2Proof.Machine
end

