-- ==== Sys2Proof/Machine/StartValues.lean ====
section
/-! DEFINITION. The values the blocks hold at device start, and what stands in their fields while they hold no state. -/

namespace Sys2Proof.Machine

/-- The Default column of R24. -/
def Params.default : Params where
  rate := 3
  coding := .nrz
  gap := 16
  responseTimeout := 1000
  retryLimit := 2
  slotRetryLimit := 0
  busyHoldoff := 1000
  busyLimit := 8
  offlineThreshold := 3
  rejoinInterval := 16
  collisionLimit := 3
  wakeToneLength := 2
  listenWindow := 2000
  quiesceTime := 1000
  autoWake := false
  attentionCollection := true

/-- A station record at device start (R38). -/
def Station.fresh : Station where
  state := .unknown
  failures := 0
  seq := false
  resync := true
  attention := false
  wakeCapable := false
  timeoutOverride := 0
  good := 0
  failed := 0
  busy := 0

/-- An empty bank (R101, R102). -/
def Bank.empty : Bank := ⟨.empty, [], 0, 0, 0⟩

/-- The cycle engine at device start (R101, R121). -/
def Engine.fresh : Engine where
  state := .stopped
  active := .bank0
  bank0 := Bank.empty
  bank1 := Bank.empty
  source := none
  timer := none
  cycle := 0
  pendingStart := false
  startLate := false
  due := []
  cursor := 1
  stage := .idle
  stopRequested := false
  lastCompleted := 0
  overruns := 0
  mergedStarts := 0
  lateStarts := 0

/-- The wake sequence at device start and when an episode ends (R144). -/
def WakeSequence.fresh : WakeSequence := ⟨.none, none, false, none, none, 0, [], 0⟩

/-- A line as run control initialises it (R174 step 4), with its parameter set and credit (R25, R79), still OFF. -/
def Line.fresh (p : Params) (credit : Nat) : Line where
  state := .off
  params := p
  stations := Vector.replicate 62 Station.fresh
  intake := ⟨0, 0, false, none, none⟩
  entries := []
  completion := ⟨0, 0, credit⟩
  buffers := ⟨0, 0, 0, [], false, none⟩
  engine := Engine.fresh
  lastGrantee := .collector
  collector := ⟨false, 1, false⟩
  job := none
  reception := none
  consecutiveCollisions := 0
  counters := ⟨0, 0, 0, 0, 0⟩
  detector := .disarmed
  wake := WakeSequence.fresh

/-- What stands in a line's fields while its blocks hold no state (device OFF, STARTING or FAULT; log entry 6). -/
def Line.absent : Line := Line.fresh Params.default 0

/-- The event unit at device start (R89). -/
def EventUnit.fresh : EventUnit := ⟨0, 0, 0, [], 0, none⟩

/-- A vector at device start and reset (R95). -/
def VectorState.fresh : VectorState := ⟨0, none, false⟩

/-- A ring that no context block has described (log entry 6). -/
def RingSpec.absent : RingSpec := ⟨0, 0⟩

/-- A line section that no context block has described (log entry 6). -/
def LineSection.absent : LineSection := ⟨false, false, [], RingSpec.absent, RingSpec.absent, RingSpec.absent⟩

/-- The context block's place before any start has kept a copy (log entry 6). -/
def ContextBlock.absent : ContextBlock :=
  ⟨false, ⟨0, 0⟩, ⟨0, 0⟩, ⟨0, 0⟩, RingSpec.absent, 0, LineSection.absent, LineSection.absent⟩

/-- FAULTINFO after reset (R169). -/
def FaultInfo.clear : FaultInfo := ⟨.none, 0, 0⟩

end Sys2Proof.Machine
end

