-- ==== Sys2Proof/Machine/State.lean ====
section
/-! DEFINITION. The state of the M220 and its value after reset. INVENTORY.md lists every piece with its rule and its reset
value. -/

namespace Sys2Proof.Machine

/-! ## Reasons to stop -/

/-- No command of the M220 ends in a fault: the manual gives every command an effect in every state, or the command's occasion
does not arise (log entry 3). The type has no constructor, so nothing raises it (safe). -/
inductive Fault where
deriving DecidableEq, Repr

/-- Why a command is refused. -/
inductive Refusal where
  /-- Raised by an arm of `exec` whose command has no meaning yet; every command has one, so nothing raises it (safe). -/
  | notModelled (mnemonic : String)
deriving DecidableEq, Repr

/-! ## The state -/

/-- The state of the M220. `pending` is the queue of the commands that wait to be taken, first in, first out.
`reads`, `nextRead` and `port` are the model's own record of what the host port has issued (log entry 4). -/
structure State where
  pending : List Instr
  run : RunState
  faultInfo : FaultInfo
  ctxLo : Word
  ctxHi : Word
  contextRead : Option Nat
  context : ContextBlock
  events : EventUnit
  vector0 : VectorState
  vector1 : VectorState
  vector2 : VectorState
  drain : Option Nat
  line0 : Line
  line1 : Line
  reads : List HostRead
  nextRead : Nat
  port : List PortOp
deriving DecidableEq, Repr

/-- The M220 right after power-on (R169, R179). -/
def State.reset : State where
  pending := []
  run := .off
  faultInfo := FaultInfo.clear
  ctxLo := 0
  ctxHi := 0
  contextRead := none
  context := ContextBlock.absent
  events := EventUnit.fresh
  vector0 := VectorState.fresh
  vector1 := VectorState.fresh
  vector2 := VectorState.fresh
  drain := none
  line0 := Line.absent
  line1 := Line.absent
  reads := []
  nextRead := 0
  port := []

end Sys2Proof.Machine
end

