-- ==== Sys2Proof/Machine/Operands.lean ====
section
/-! DEFINITION. Octet layouts: how the records the M220 reads are read, how those it writes are written, and how line frames
are formed and checked (spec/11_record_and_frame_layouts.md, R183, R184, R3 to R7). -/

namespace Sys2Proof.Machine

/-! ## Octets -/

/-- The low octet of a number. -/
def byteOf (n : Nat) : Byte := BitVec.ofNat 8 n

/-- A number as `k` octets, least significant first (R183). -/
def leBytes : Nat → Nat → List Byte
  | 0, _ => []
  | k + 1, n => byteOf n :: leBytes k (n / 256)

/-- The number that octets spell, least significant first (R183). -/
def leNat : List Byte → Nat
  | [] => 0
  | b :: bs => b.toNat + 256 * leNat bs

/-- The field of `n` octets at offset `off` of a record (R183). -/
def field (d : List Byte) (off n : Nat) : Nat := leNat ((d.drop off).take n)

/-- The octet at offset `i` of a record. -/
def octetAt (d : List Byte) (i : Nat) : Byte := d.getD i 0

/-- Bit `k` of the octet at offset `i` of a record. -/
def bitAt (d : List Byte) (i k : Nat) : Bool := (octetAt d i).getLsbD k

/-- An address field (64 bits, R183). -/
def addressAt (d : List Byte) (off : Nat) : Addr := BitVec.ofNat 64 (field d off 8)

/-- A 16-bit field. -/
def halfAt (d : List Byte) (off : Nat) : Half := BitVec.ofNat 16 (field d off 2)

/-- Octets of value 0. -/
def zeros (n : Nat) : List Byte := List.replicate n 0

/-- The address `n` octets past `a`. -/
def addrPlus (a : Addr) (n : Nat) : Addr := a + BitVec.ofNat 64 n

/-- A bit as a number. -/
def bitNat (b : Bool) : Nat := if b then 1 else 0

/-! ## Codes (spec/11, Common codes and the record tables) -/

/-- Line number in events (spec/11: 255 = NONE). -/
def lineCode : Option LineId → Nat
  | some .line0 => 0
  | some .line1 => 1
  | none => 255

/-- Station state code; NONE is 0 (spec/11, Common codes). -/
def healthCode : Option Health → Nat
  | none => 0
  | some .unknown => 1
  | some .online => 2
  | some .suspect => 3
  | some .offline => 4
  | some .disabled => 5

/-- Line state code (spec/11, Common codes). -/
def lineStateCode : LineState → Nat
  | .off => 0
  | .active => 1
  | .quiescing => 2
  | .rest => 3
  | .waking => 4
  | .faulted => 5

/-- Engine state code (spec/11, Common codes). -/
def engineStateCode : EngineState → Nat
  | .stopped => 0
  | .waiting => 1
  | .inCycle => 2
  | .halted => 3

/-- Run state code (spec/11, Registers, DSTAT). -/
def runStateCode : RunState → Nat
  | .off => 0
  | .starting => 1
  | .running => 2
  | .stopping => 3
  | .fault => 4

/-- Fault code (spec/11, Registers, FAULTINFO). -/
def faultCode : FaultCode → Nat
  | .none => 0
  | .badContextAddress => 1
  | .contextReadError => 2
  | .badSignature => 3
  | .badVersion => 4
  | .badAlignment => 5
  | .badRingSize => 6
  | .badParameter => 7
  | .badVectorSetting => 8
  | .badDeliveryMode => 9

/-- Completion status code (spec/11, Completion record). -/
def statusCode : Status → Nat
  | .ok => 0
  | .noResponse => 1
  | .badFrame => 2
  | .refused => 3
  | .busyExpired => 4
  | .stationOffline => 5
  | .stationDisabled => 6
  | .aborted => 7
  | .badRequest => 8
  | .badAddress => 9
  | .lineAtRest => 10
  | .lineFault => 11
  | .busySchedule => 12
  | .attentionPending => 13
  | .woken => 14
  | .stillFaulted => 15

/-- Slot status code (spec/11, Slot status record). -/
def slotResultCode : SlotResult → Nat
  | .none => 0
  | .ok => 1
  | .noResponse => 2
  | .badFrame => 3
  | .nakBusy => 4
  | .refused => 5
  | .skippedOffline => 6
  | .skippedDisabled => 7
  | .skippedOverrun => 8
  | .skippedStop => 9
  | .skippedFault => 10
  | .hostError => 11

/-- LINE_STATE reason code (spec/11, Event record). -/
def lineReasonCode : LineReason → Nat
  | .start => 1
  | .restRequest => 2
  | .stationWake => 3
  | .masterWake => 4
  | .wakeDone => 5
  | .collisionLimit => 6
  | .stuckLine => 7
  | .overlongTone => 8
  | .recover => 9
  | .deviceStop => 10

/-- STATION_STATE cause code (spec/11, Event record). -/
def healthCauseCode : HealthCause → Nat
  | .exchange => 1
  | .threshold => 2
  | .stationSet => 3

/-- ATTENTION source code (spec/11, Event record). -/
def attentionSourceCode : AttentionSource → Nat
  | .rsp => 1
  | .wake => 2

/-- WAKE initiator code (spec/11, Event record). -/
def initiatorCode : Initiator → Nat
  | .master => 1
  | .station => 2
  | .masterAndStation => 3

/-- Bank number. -/
def bankCode : BankId → Nat
  | .bank0 => 0
  | .bank1 => 1

/-- Ring ids of a line's request, completion and buffer rings (R171). -/
def requestRingId : LineId → Nat
  | .line0 => 1
  | .line1 => 4

/-- Ring id of a line's completion ring (R171). -/
def completionRingId : LineId → Nat
  | .line0 => 2
  | .line1 => 5

/-- Ring id of a line's buffer ring (R171). -/
def bufferRingId : LineId → Nat
  | .line0 => 3
  | .line1 => 6

/-! ## Rings -/

/-- Address of the record of `width` octets at free-running index `i` of a ring (R56, R79, R83, R89). -/
def RingSpec.position (r : RingSpec) (i : Half) (width : Nat) : Addr :=
  addrPlus r.base (width * (i.toNat % r.size))

/-- Lap value of a record written at index `i`: 1 on the first pass, then alternating (R80). -/
def RingSpec.lap (r : RingSpec) (i : Half) : Nat := if i.toNat / r.size % 2 = 0 then 1 else 0

/-! ## Line Parameter Blocks (spec/11; R24) -/

/-- The sixteen values of a Line Parameter Block, in parameter index order (spec/11, Line Parameter Block). -/
def parameterValues (d : List Byte) : List Nat :=
  [field d 0 1, field d 1 1, field d 2 1, field d 4 2, field d 3 1, field d 6 1, field d 8 2, field d 7 1,
   field d 10 1, field d 11 1, field d 12 1, field d 13 1, field d 14 2, field d 16 2, field d 18 1, field d 19 1]

/-- Min and Max of each parameter, in index order (R24). -/
def parameterRanges : List (Nat × Nat) :=
  [(0, 9), (0, 1), (8, 255), (20, 65535), (0, 7), (0, 1), (50, 65535), (1, 255),
   (1, 15), (0, 255), (1, 7), (1, 16), (500, 8000), (100, 10000), (0, 1), (0, 1)]

/-- Which parameters the named groups hold, in index order (R24). -/
def GroupMask.members (m : GroupMask) : List Bool :=
  [m.link, m.link, m.link, m.timing, m.timing, m.timing, m.timing, m.timing,
   m.health, m.health, m.health, m.rest, m.rest, m.rest, m.rest, m.rest]

/-- The mask that names every group. -/
def GroupMask.all : GroupMask := ⟨true, true, true, true⟩

/-- The mask that names no group (R31). -/
def GroupMask.isEmpty (m : GroupMask) : Bool := !(m.link || m.timing || m.health || m.rest)

/-- The mask as the octet of a request record (spec/11, Request record). -/
def GroupMask.code (m : GroupMask) : Nat :=
  bitNat m.link + 2 * bitNat m.timing + 4 * bitNat m.health + 8 * bitNat m.rest

/-- Index of the first checked value out of range, counting from `i` (R34). -/
def firstOutOfRange : Nat → List Bool → List (Nat × Nat) → List Nat → Option Nat
  | i, c :: cs, r :: rs, v :: vs =>
    if c && !(decide (r.1 ≤ v) && decide (v ≤ r.2)) then some i else firstOutOfRange (i + 1) cs rs vs
  | _, _, _, _ => none

/-- Index (1 to 16) of the first value of the named groups that lies out of range (R34, R173). -/
def badParameter (m : GroupMask) (block : List Byte) : Option Nat :=
  firstOutOfRange 1 m.members parameterRanges (parameterValues block)

/-- The parameter set a Line Parameter Block gives (R25). -/
def Params.ofBlock (d : List Byte) : Params where
  rate := field d 0 1
  coding := if field d 1 1 = 0 then .nrz else .manchester
  gap := field d 2 1
  responseTimeout := field d 4 2
  retryLimit := field d 3 1
  slotRetryLimit := field d 6 1
  busyHoldoff := field d 8 2
  busyLimit := field d 7 1
  offlineThreshold := field d 10 1
  rejoinInterval := field d 11 1
  collisionLimit := field d 12 1
  wakeToneLength := field d 13 1
  listenWindow := field d 14 2
  quiesceTime := field d 16 2
  autoWake := decide (field d 18 1 ≠ 0)
  attentionCollection := decide (field d 19 1 ≠ 0)

/-- A parameter set as a 24-octet Line Parameter Block (R35; spec/11). -/
def Params.toBlock (p : Params) : List Byte :=
  [byteOf p.rate, byteOf (match p.coding with | .nrz => 0 | .manchester => 1), byteOf p.gap, byteOf p.retryLimit]
    ++ leBytes 2 p.responseTimeout ++ [byteOf p.slotRetryLimit, byteOf p.busyLimit] ++ leBytes 2 p.busyHoldoff
    ++ [byteOf p.offlineThreshold, byteOf p.rejoinInterval, byteOf p.collisionLimit, byteOf p.wakeToneLength]
    ++ leBytes 2 p.listenWindow ++ leBytes 2 p.quiesceTime
    ++ [byteOf (bitNat p.autoWake), byteOf (bitNat p.attentionCollection)] ++ zeros 4

/-- The set `old` with the named groups taken from `new` (R35). -/
def Params.install (old : Params) (m : GroupMask) (new : Params) : Params where
  rate := if m.link then new.rate else old.rate
  coding := if m.link then new.coding else old.coding
  gap := if m.link then new.gap else old.gap
  responseTimeout := if m.timing then new.responseTimeout else old.responseTimeout
  retryLimit := if m.timing then new.retryLimit else old.retryLimit
  slotRetryLimit := if m.timing then new.slotRetryLimit else old.slotRetryLimit
  busyHoldoff := if m.timing then new.busyHoldoff else old.busyHoldoff
  busyLimit := if m.timing then new.busyLimit else old.busyLimit
  offlineThreshold := if m.health then new.offlineThreshold else old.offlineThreshold
  rejoinInterval := if m.health then new.rejoinInterval else old.rejoinInterval
  collisionLimit := if m.health then new.collisionLimit else old.collisionLimit
  wakeToneLength := if m.rest then new.wakeToneLength else old.wakeToneLength
  listenWindow := if m.rest then new.listenWindow else old.listenWindow
  quiesceTime := if m.rest then new.quiesceTime else old.quiesceTime
  autoWake := if m.rest then new.autoWake else old.autoWake
  attentionCollection := if m.rest then new.attentionCollection else old.attentionCollection

/-! ## Request records (spec/11; R60) -/

/-- Body of an EXCHANGE record, or none when it is malformed (R60). -/
def parseExchange (d : List Byte) : Option Body :=
  if 1 ≤ field d 4 1 ∧ field d 4 1 ≤ 62 ∧ field d 5 1 ≤ 223 ∧ field d 6 2 ≤ 240 then
    some (.exchange (bitAt d 1 0) (bitAt d 1 1) (field d 4 1) (octetAt d 5) (field d 6 2) (addressAt d 16) (field d 8 2)
      (addressAt d 24))
  else none

/-- Body of a SEND record, or none when it is malformed (R60). -/
def parseSend (d : List Byte) : Option Body :=
  if field d 4 1 ≤ 62 ∧ field d 5 1 ≤ 223 ∧ field d 6 2 ≤ 240 then
    some (.send (field d 4 1) (octetAt d 5) (field d 6 2) (addressAt d 16))
  else none

/-- Action of a STATION_SET with its value, or none when either is out of range (R51). -/
def parseSetAction (action value : Nat) : Option SetAction :=
  match action with
  | 1 => some .enable
  | 2 => some .disable
  | 3 => some .forget
  | 4 => if value ≤ 1 then some (.wakeCapable (value = 1)) else none
  | 5 => if value = 0 ∨ 20 ≤ value then some (.timeoutOverride value) else none
  | _ => none

/-- Whether a range of stations is well formed (R51, R54). -/
def stationRangeOk (first last : Nat) : Bool := decide (1 ≤ first) && decide (first ≤ last) && decide (last ≤ 62)

/-- Body of a STATION_SET record, or none when it is malformed (R51). -/
def parseStationSet (d : List Byte) : Option Body :=
  if stationRangeOk (field d 12 1) (field d 13 1) then
    (parseSetAction (field d 14 1) (field d 10 2)).map (Body.stationSet (field d 12 1) (field d 13 1))
  else none

/-- Body of a STATION_READ record, or none when it is malformed (R54). -/
def parseStationRead (d : List Byte) : Option Body :=
  if stationRangeOk (field d 12 1) (field d 13 1) ∧ 16 * (field d 13 1 - field d 12 1 + 1) ≤ field d 8 2 then
    some (.stationRead (field d 12 1) (field d 13 1) (bitAt d 1 3) (addressAt d 24))
  else none

/-- Body of a LINE_CONFIG record, or none when it is malformed (R31). -/
def parseLineConfig (d : List Byte) : Option Body :=
  let m : GroupMask := ⟨bitAt d 12 0, bitAt d 12 1, bitAt d 12 2, bitAt d 12 3⟩
  if 16 ≤ field d 12 1 then none
  else if !m.isEmpty && !bitAt d 1 2 && decide (field d 6 2 ≠ 24) then none
  else if 1 ≤ field d 8 2 ∧ field d 8 2 ≤ 23 then none
  else some (.lineConfig m (bitAt d 1 2) (addressAt d 16) (field d 8 2) (addressAt d 24))

/-- Body of a SCHEDULE_LOAD record, or none when it is malformed (R104; spec/11, SCHEDULE_LOAD layout). -/
def parseScheduleLoad (d : List Byte) : Option Body :=
  if 1 ≤ field d 4 1 ∧ field d 4 1 ≤ 64 then
    some (.scheduleLoad (field d 4 1) (field d 6 2 + 1) (addressAt d 16) (addressAt d 8) (addressAt d 24))
  else none

/-- Start source of a START, or none when it is malformed (R108). -/
def parseStartSource (source period : Nat) : Option StartSource :=
  match source with
  | 1 => if 250 ≤ period ∧ period ≤ 1000000 then some (.timer period) else none
  | 2 => some .sync
  | 3 => some .manual
  | _ => none

/-- Body of a SCHEDULE_CONTROL record, or none when it is malformed (R108). -/
def parseScheduleControl (d : List Byte) : Option Body :=
  match field d 10 1 with
  | 1 => (parseStartSource (field d 11 1) (field d 12 4)).map (fun src => Body.scheduleControl (.start src))
  | 2 => some (.scheduleControl .stop)
  | 3 => some (.scheduleControl .switch)
  | 4 => some (.scheduleControl .trigger)
  | _ => none

/-- Body of an ABORT record, or none when it is malformed (R74). -/
def parseAbort (d : List Byte) : Option Body :=
  match field d 12 1 with
  | 1 => some (.abort (.tag (halfAt d 10)))
  | 2 => if field d 10 2 ≤ 62 then some (.abort (.station (field d 10 2))) else none
  | 3 => some (.abort .all)
  | _ => none

/-- Intake's check of a request record: its body, or none when it is malformed (R60). -/
def parseBody (d : List Byte) : Option Body :=
  match field d 0 1 with
  | 1 => parseExchange d
  | 2 => parseSend d
  | 3 => parseStationSet d
  | 4 => parseStationRead d
  | 5 => parseLineConfig d
  | 6 => some .rest
  | 7 => some .wake
  | 8 => some .lineRecover
  | 9 => some .fence
  | 10 => parseScheduleLoad d
  | 11 => parseScheduleControl d
  | 12 => parseAbort d
  | _ => none

/-- The station an unchecked record names, for the completion of a record that a stop completes unchecked
(R77, R177; log entry 11). -/
def namedStation (d : List Byte) : Nat :=
  match field d 0 1 with
  | 1 => field d 4 1
  | 2 => field d 4 1
  | 3 => field d 12 1
  | 4 => field d 12 1
  | _ => 0

/-! ## Classes of requests (R61) -/

/-- The station of a traffic request; none for any other class (R61). -/
def Body.trafficStation : Body → Option Nat
  | .exchange _ _ station _ _ _ _ _ => some station
  | .send station _ _ _ => some station
  | _ => none

/-- Whether a request is a traffic request (R61). -/
def Body.isTraffic (b : Body) : Bool := b.trafficStation.isSome

/-- Whether a request is a barrier request (R61). -/
def Body.isBarrier : Body → Bool
  | .stationSet .. | .stationRead .. | .lineConfig .. | .rest | .wake | .lineRecover | .fence => true
  | _ => false

/-- The station whose state a completion carries, 0 where it carries NONE (R77). -/
def Body.reportStation : Body → Nat
  | .exchange _ _ station _ _ _ _ _ => station
  | .send station _ _ _ => station
  | .stationSet first _ _ => first
  | .stationRead first _ _ _ => first
  | _ => 0

/-! ## Completion records (spec/11; R80) -/

/-- A completion as handed to the completion writer (R77). -/
structure Completion where
  tag : Half
  ringIndex : Half
  kind : Byte
  status : Status
  truncated : Bool
  marked : Bool
  detail : Nat
  attempts : Nat
  station : Option Health
deriving DecidableEq, Repr

/-- The 16 octets of a completion record (spec/11, Completion record). -/
def Completion.octets (c : Completion) (lap : Nat) : List Byte :=
  leBytes 2 c.tag.toNat ++ leBytes 2 c.ringIndex.toNat
    ++ [c.kind, byteOf (statusCode c.status), byteOf (bitNat c.truncated + 2 * bitNat c.marked), byteOf c.attempts]
    ++ leBytes 2 c.detail ++ [byteOf (healthCode c.station)] ++ zeros 4 ++ [byteOf lap]

/-! ## Buffer descriptors (spec/11; R83) -/

/-- A fetched descriptor: usable when EMPTY and its length lies in 16 to 4,096 (R85). -/
def parseDescriptor (d : List Byte) : Descriptor :=
  ⟨addressAt d 0, field d 8 2, decide (field d 10 1 = 0 ∧ 16 ≤ field d 8 2 ∧ field d 8 2 ≤ 4096)⟩

/-- The 16 octets of a FILLED write-back (R87; spec/11, Buffer descriptor). -/
def filledOctets (b : Descriptor) (station : Nat) (function : Byte) (stored full : Nat) (more : Bool) : List Byte :=
  leBytes 8 b.address.toNat ++ leBytes 2 b.length
    ++ [1, byteOf (bitNat (decide (b.length < full)) + 2 * bitNat more), byteOf station, function, byteOf stored,
        byteOf full]

/-- The 16 octets of a RETURNED write-back: reason INVALID 1 or STOPPED 2 (R88; spec/11, Buffer descriptor). -/
def returnedOctets (b : Descriptor) (reason : Nat) : List Byte :=
  leBytes 8 b.address.toNat ++ leBytes 2 b.length ++ [2, byteOf (16 * reason), 0, 0, 0, 0]

/-! ## Event records (spec/11; R89) -/

/-- Kind, line, station and the eight octets of the two detail words of an event (spec/11, Event record). -/
def Event.fields : Event → Nat × Option LineId × Nat × List Byte
  | .stationState l a old new n c =>
    (1, some l, a, [byteOf (healthCode (some old)), byteOf (healthCode (some new)), byteOf n, byteOf (healthCauseCode c)]
      ++ zeros 4)
  | .attention l a src st =>
    (2, some l, a, [byteOf (attentionSourceCode src), byteOf (healthCode (some st))] ++ zeros 6)
  | .wake l a i roll unexpected q =>
    (3, some l, a, [byteOf (initiatorCode i), byteOf (bitNat roll + 2 * bitNat unexpected), byteOf q] ++ zeros 5)
  | .lineState l old new r =>
    (4, some l, 0, [byteOf (lineStateCode old), byteOf (lineStateCode new), byteOf (lineReasonCode r)] ++ zeros 5)
  | .cycleOverrun l c n => (5, some l, 0, leBytes 4 c.toNat ++ leBytes 4 n)
  | .scheduleSwitched l c b => (6, some l, 0, leBytes 4 c.toNat ++ leBytes 4 (bankCode b))
  | .cycleHalted l c n => (7, some l, 0, leBytes 4 c.toNat ++ leBytes 4 n)
  | .ringError l r i => (8, some l, 0, leBytes 4 r ++ leBytes 2 i.toNat ++ zeros 2)
  | .notifyRejected l r v h => (9, l, 0, leBytes 4 r ++ leBytes 2 v.toNat ++ leBytes 2 h.toNat)
  | .bufferStarved l n => (10, some l, 0, leBytes 4 n ++ zeros 4)
  | .eventLoss n f => (11, none, 0, leBytes 4 n ++ leBytes 2 f.toNat ++ zeros 2)

/-- The 16 octets of an event record (spec/11, Event record). -/
def Event.octets (e : Event) (sequence : Half) (lap : Nat) : List Byte :=
  [byteOf e.fields.1, byteOf (lineCode e.fields.2.1), byteOf e.fields.2.2.1, byteOf lap]
    ++ leBytes 2 sequence.toNat ++ zeros 2 ++ e.fields.2.2.2

/-! ## Slots (spec/11; R103, R106, R120) -/

/-- A slot entry of the host's table, or none when one of its checks fails (R106). -/
def parseSlot (d : List Byte) (imageSize : Nat) : Option Slot :=
  let divisor := field d 3 1
  let common := decide (field d 2 1 ≤ 223) && [1, 2, 4, 8, 16].contains divisor && decide (field d 4 1 < divisor)
    && decide (field d 8 2 ≤ 240) && decide (field d 6 2 + field d 8 2 ≤ imageSize)
  match field d 0 1 with
  | 1 =>
    if common && decide (1 ≤ field d 1 1) && decide (field d 1 1 ≤ 62) && decide (field d 12 2 ≤ 240)
        && decide (field d 10 2 + 2 * field d 12 2 ≤ imageSize) then
      some ⟨.poll, field d 1 1, octetAt d 2, divisor, field d 4 1, field d 6 2, field d 8 2, field d 10 2, field d 12 2⟩
    else none
  | 2 =>
    if common && decide (field d 1 1 ≤ 62) then
      some ⟨.output, field d 1 1, octetAt d 2, divisor, field d 4 1, field d 6 2, field d 8 2, field d 10 2, field d 12 2⟩
    else none
  | _ => none

/-- The slots of a table in ascending number, or the number of the first that fails (R106). `n` is the number of the first slot
of the octets, `k` how many slots remain. -/
def parseSlots (imageSize : Nat) : Nat → Nat → List Byte → Except Nat (List Slot)
  | _, 0, _ => .ok []
  | n, k + 1, d =>
    match parseSlot (d.take 16) imageSize with
    | none => .error n
    | some slot =>
      match parseSlots imageSize (n + 1) k (d.drop 16) with
      | .error bad => .error bad
      | .ok slots => .ok (slot :: slots)

/-- A slot's status after a load (R107). -/
def SlotStatus.loaded : SlotStatus := ⟨0, 0, .none, 1, 0, 0, 0⟩

/-- The 16 octets of a slot status record (spec/11, Slot status record). -/
def SlotStatus.octets (st : SlotStatus) : List Byte :=
  leBytes 4 st.lastAttempt.toNat ++ leBytes 4 st.lastSuccess.toNat
    ++ [byteOf (slotResultCode st.result), byteOf st.newestHalf, byteOf st.newestLength, byteOf st.misses]
    ++ leBytes 2 st.updates.toNat ++ zeros 2

/-! ## Station record images (spec/11; R55) -/

/-- The 16 octets of a station record image (spec/11, Station record image). -/
def Station.image (r : Station) (address : Nat) : List Byte :=
  [byteOf address, byteOf (healthCode (some r.state)), byteOf r.failures,
   byteOf (bitNat r.seq + 2 * bitNat r.resync + 4 * bitNat r.attention + 8 * bitNat r.wakeCapable)]
    ++ leBytes 2 r.timeoutOverride ++ leBytes 2 r.good ++ leBytes 2 r.failed ++ leBytes 2 r.busy ++ zeros 4

/-! ## Index page fields (spec/11; R182) -/

/-- The 22 octets of a line's cycle record; the reserved octets behind them are not written (R121; spec/11, Index page). -/
def Engine.cycleRecord (e : Engine) : List Byte :=
  leBytes 4 e.cycle.toNat ++ leBytes 4 e.lastCompleted.toNat ++ leBytes 4 e.overruns.toNat
    ++ leBytes 4 e.mergedStarts.toNat ++ leBytes 4 e.lateStarts.toNat
    ++ [byteOf (bankCode e.active), byteOf (engineStateCode e.state)]

/-- The counter block of a line (R168; spec/11, Index page). -/
def Counters.octets (c : Counters) : List Byte :=
  leBytes 4 c.collisions.toNat ++ leBytes 4 c.crcErrors.toNat ++ leBytes 4 c.timeouts.toNat
    ++ leBytes 4 c.strayFrames.toNat ++ leBytes 4 c.faultsEntered.toNat

/-- Offset of a line's request consumer index in the index page (spec/11). -/
def requestConsumerOffset : LineId → Nat
  | .line0 => 0
  | .line1 => 4

/-- Offset of a line's buffer consumer index in the index page (spec/11). -/
def bufferConsumerOffset : LineId → Nat
  | .line0 => 2
  | .line1 => 6

/-- Offset of a line's cycle record in the index page (spec/11). -/
def cycleRecordOffset : LineId → Nat
  | .line0 => 16
  | .line1 => 48

/-- Offset of a line's counter block in the index page (spec/11). -/
def counterBlockOffset : LineId → Nat
  | .line0 => 80
  | .line1 => 100

/-- Offset of the start fault echo in the index page (spec/11). -/
def startFaultOffset : Nat := 8

/-! ## The Device Context Block (spec/11; R172, R173) -/

/-- The line section at offset `o` of a Device Context Block (spec/11). -/
def parseSection (d : List Byte) (o : Nat) : LineSection where
  enable := bitAt d o 0
  defaults := bitAt d o 1
  parameters := (d.drop (o + 8)).take 24
  requestRing := ⟨addressAt d (o + 32), field d (o + 40) 2⟩
  completionRing := ⟨addressAt d (o + 48), field d (o + 56) 2⟩
  bufferRing := ⟨addressAt d (o + 64), field d (o + 72) 2⟩

/-- The copy run control keeps of a Device Context Block (R172; spec/11). -/
def parseContext (d : List Byte) : ContextBlock where
  level := decide (field d 6 1 = 1)
  setting0 := ⟨field d 8 1, field d 12 2⟩
  setting1 := ⟨field d 9 1, field d 14 2⟩
  setting2 := ⟨field d 10 1, field d 16 2⟩
  eventRing := ⟨addressAt d 24, field d 32 2⟩
  indexPage := addressAt d 40
  section0 := parseSection d 64
  section1 := parseSection d 144

/-- Whether an address is 64-octet aligned (R172). -/
def aligned64 (a : Addr) : Bool := decide (a.toNat % 64 = 0)

/-- Whether a ring size is a power of two from `lo` to `hi` (R172); no ring is larger than 1,024. -/
def ringSizeOk (lo hi size : Nat) : Bool :=
  decide (lo ≤ size) && decide (size ≤ hi) && [4, 8, 16, 32, 64, 128, 256, 512, 1024].contains size

/-- The rings in ring id order 0 to 6, each with the least and the greatest size it may have (R172). -/
def ContextBlock.rings (c : ContextBlock) : List (RingSpec × Nat × Nat) :=
  [(c.eventRing, 16, 1024),
   (c.section0.requestRing, 8, 1024), (c.section0.completionRing, 8, 1024), (c.section0.bufferRing, 4, 256),
   (c.section1.requestRing, 8, 1024), (c.section1.completionRing, 8, 1024), (c.section1.bufferRing, 4, 256)]

/-- First parameter out of range in a line section; a section with DEFAULTS set passes (R173 check 8). -/
def LineSection.badParameter (sec : LineSection) : Option Nat :=
  if sec.defaults then none else Machine.badParameter GroupMask.all sec.parameters

/-- Checks 3 to 10 of a start on the 512 octets of the block: the first that fails, with its fault code, detail and line
(R173). -/
def contextFault (d : List Byte) : Option FaultInfo :=
  let c := parseContext d
  if d.take 4 ≠ [0x55, 0x4D, 0x32, 0x32] then some ⟨.badSignature, 0, 0⟩
  else if field d 4 2 ≠ 1 then some ⟨.badVersion, 0, 0⟩
  else if !aligned64 c.indexPage then some ⟨.badAlignment, 7, 0⟩
  else match c.rings.findIdx? (fun r => !ringSizeOk r.2.1 r.2.2 r.1.size) with
  | some ring => some ⟨.badRingSize, ring, 0⟩
  | none =>
  match c.rings.findIdx? (fun r => !aligned64 r.1.base) with
  | some ring => some ⟨.badAlignment, ring, 0⟩
  | none =>
  match c.section0.badParameter with
  | some i => some ⟨.badParameter, i, 0⟩
  | none =>
  match c.section1.badParameter with
  | some i => some ⟨.badParameter, i, 1⟩
  | none =>
  match [c.setting0, c.setting1, c.setting2].findIdx? (fun v => decide (v.moderation = 0)) with
  | some v => some ⟨.badVectorSetting, v, 0⟩
  | none => if 1 < field d 6 1 then some ⟨.badDeliveryMode, 0, 0⟩ else none

/-- Whether a failed start writes the start fault echo: it failed at check 6 or later, so the index page address has passed its
own check (R173). -/
def echoesFault (f : FaultInfo) : Bool :=
  match f.code with
  | .badRingSize | .badParameter | .badVectorSetting | .badDeliveryMode => true
  | .badAlignment => decide (f.detail ≠ 7)
  | _ => false

/-! ## Line frames (R3 to R7, R15, R21, R22) -/

/-- One bit of the CRC register's shift (R4). -/
def crcShift (c : Half) : Half := if c.msb then (c <<< 1) ^^^ Config.crcPolynomial else c <<< 1

/-- The CRC register after one more octet, most significant bit first (R4). -/
def crcOctet (c : Half) (b : Byte) : Half :=
  crcShift (crcShift (crcShift (crcShift (crcShift (crcShift (crcShift (crcShift
    (c ^^^ (b.zeroExtend 16 <<< 8)))))))))

/-- The CRC of octets, from the value 0 (R4). -/
def crc (d : List Byte) : Half := d.foldl crcOctet 0

/-- The octets of a frame the master sends: sync, header with SRC 63, payload and CRC, high octet first (R3, R4). -/
def frameOctets (kind dest flags : Nat) (function : Byte) (payload : List Byte) : List Byte :=
  let body := [byteOf kind, byteOf dest, byteOf Config.masterAddress, byteOf flags, function, byteOf payload.length]
    ++ payload
  let c := crc body
  [0x55, 0xD3] ++ body ++ [byteOf (c.toNat / 256), byteOf c.toNat]

/-- The frame a job sends when its gap has run: CMD (R11, R15), DAT (R21), QUIET or WACK (R22). A tone is no frame. -/
def JobKind.frame : JobKind → List Byte
  | .exchange x => frameOctets 1 x.station (bitNat x.seq + 2 * bitNat x.resync) x.function x.payload
  | .data d => frameOctets 2 d.station 0 d.function d.payload
  | .quiet => frameOctets 5 0 0 0 []
  | .wack a => frameOctets 7 0 0 0 [byteOf a]
  | .tone _ => []

/-- The kinds of frame that can be well formed at the master (R7 check 6). -/
inductive AnswerKind where
  | rsp | nak (reason : Nat) | wake
deriving DecidableEq, Repr

/-- A well-formed received frame (R7). -/
structure Frame where
  kind : AnswerKind
  src : Nat
  seq : Bool
  attn : Bool
  function : Byte
  payload : List Byte
deriving DecidableEq, Repr

/-- The result of the receiver's checks (R7). -/
inductive RxCheck where
  | formatError
  | crcError
  | wellFormed (f : Frame)
deriving DecidableEq, Repr

/-- The payload rule of a kind (R5; R7 check 5). -/
def payloadRuleOk (kind : Nat) (payload : List Byte) : Bool :=
  match kind with
  | 4 => decide (payload.length = 1) && decide (1 ≤ field payload 0 1) && decide (field payload 0 1 ≤ 3)
  | 5 => decide (payload.length = 0)
  | 6 => decide (payload.length = 0)
  | 7 => decide (payload.length = 1) && decide (field payload 0 1 ≤ 62)
  | _ => true

/-- What a frame of code `kind` is to the master (R7 check 6). -/
def answerKind (kind : Nat) (payload : List Byte) : Option AnswerKind :=
  match kind with
  | 3 => some .rsp
  | 4 => some (.nak (field payload 0 1))
  | 6 => some .wake
  | _ => none

/-- Whether a frame ended with its second CRC octet, and not early as a format error (R6). -/
def endsWithCrc (rx : Reception) : Bool :=
  !rx.codingError && decide (rx.octets.take 2 = [0x55, 0xD3]) && decide (8 ≤ rx.octets.length) && decide (field rx.octets 7 1 ≤ 240)
    && decide (10 + field rx.octets 7 1 ≤ rx.octets.length)

/-- The six checks of a received frame in their order (R6, R7). The frame ends with its second CRC octet (log entry 18). -/
def checkReception (rx : Reception) : RxCheck :=
  let d := rx.octets
  let len := field d 7 1
  if !endsWithCrc rx then .formatError
  else if crc ((d.drop 2).take (8 + len)) ≠ 0 then .crcError
  else
    let kind := field d 2 1
    let payload := (d.drop 8).take len
    if kind < 1 ∨ 7 < kind then .formatError
    else if 63 < field d 3 1 ∨ 63 < field d 4 1 then .formatError
    else if !payloadRuleOk kind payload then .formatError
    else match answerKind kind payload with
    | none => .formatError
    | some k =>
      if field d 3 1 = Config.masterAddress then
        .wellFormed ⟨k, field d 4 1, bitAt d 5 0, bitAt d 5 2, octetAt d 6, payload⟩
      else .formatError

/-- How an attempt ended (R13, R11, R9). -/
inductive AttemptEnd where
  | success (attn : Bool) (function : Byte) (payload : List Byte)
  | nakBusy | nakRefused | nakSeq | timeout | badFrame | collision
deriving DecidableEq, Repr

/-- The outcome of an attempt that a received frame ends; the first matching row applies (R13). -/
def classifyAnswer (x : Exchange) (c : RxCheck) : AttemptEnd :=
  match c with
  | .formatError => .badFrame
  | .crcError => .badFrame
  | .wellFormed f =>
    match f.kind with
    | .wake => .badFrame
    | .rsp =>
      if f.src ≠ x.station then .badFrame
      else if f.seq ≠ x.seq then .badFrame
      else .success f.attn f.function f.payload
    | .nak reason =>
      if f.src ≠ x.station then .badFrame
      else if reason = 1 then .nakBusy
      else if reason = 2 then .nakRefused
      else .nakSeq

end Sys2Proof.Machine
end

