-- ==== Sys2Proof/Machine/Flags.lean ====
section
/-! DEFINITION. The interrupt vectors: their counts, hold timers and pending flags, and how they are raised, acknowledged and
cleared (R95 to R98). -/

namespace Sys2Proof.Machine

/-- State of a vector. -/
def State.vector (s : State) : VectorId → VectorState
  | .vector0 => s.vector0
  | .vector1 => s.vector1
  | .vector2 => s.vector2

/-- `s` with the state of one vector replaced. -/
def State.setVector (s : State) (v : VectorId) (x : VectorState) : State :=
  match v with
  | .vector0 => { s with vector0 := x }
  | .vector1 => { s with vector1 := x }
  | .vector2 => { s with vector2 := x }

/-- Settings of a vector, from the context block (R95). -/
def ContextBlock.setting (c : ContextBlock) : VectorId → VectorSetting
  | .vector0 => c.setting0
  | .vector1 => c.setting1
  | .vector2 => c.setting2

/-- The vector that counts a line's completion records and write-backs (R95). -/
def lineVector : LineId → VectorId
  | .line0 => .vector1
  | .line1 => .vector2

/-- The host port issues one more operation, behind all it has issued before (R99). -/
def State.issue (s : State) (op : PortOp) : State := { s with port := s.port ++ [op] }

/-- The host port issues one write (R181). -/
def State.hostWrite (s : State) (address : Addr) (octets : List Byte) : State := s.issue (.write address octets)

/-- Whether any vector is pending. -/
def State.anyPending (s : State) : Bool := s.vector0.pending || s.vector1.pending || s.vector2.pending

/-- Whether the interrupt line is active: in delivery mode LEVEL, while any vector is pending (R98). -/
def State.interruptLine (s : State) : Bool := s.context.level && s.anyPending

/-- The interrupt that a raise issues: one message in mode MESSAGE; in mode LEVEL the line goes active at the raise that makes the
first vector pending (R98). -/
def State.issueInterrupt (s : State) (v : VectorId) : State :=
  if s.context.level then (if s.anyPending then s else s.issue (.level true)) else s.issue (.message v)

/-- Raising a vector sets pending, stops the hold timer and issues the interrupt; the unreported count is kept (R96, R98). -/
def raiseVector (v : VectorId) (s : State) : State :=
  let x := s.vector v
  (s.issueInterrupt v).setVector v { x with pending := true, holdTimer := none }

/-- A record that a vector counts has been handed over for writing (R96). -/
def countRecord (v : VectorId) (s : State) : State :=
  let x := s.vector v
  let n := min 255 (x.unreported + 1)
  if x.pending then s.setVector v { x with unreported := n }
  else
    let setting := s.context.setting v
    let timer := if x.unreported = 0 ∧ setting.holdTime ≠ 0 then some setting.holdTime else x.holdTimer
    let s := s.setVector v { x with unreported := n, holdTimer := timer }
    if n = setting.moderation then raiseVector v s else s

/-- Expiry of a vector's hold timer raises the vector (R96). The timer runs only while the vector is not pending. -/
def expireHold (v : VectorId) (s : State) : State :=
  if (s.vector v).holdTimer.isSome ∧ (s.vector v).pending = false then raiseVector v s else s

/-- The acknowledge of one vector (R97). -/
def VectorState.acknowledge (x : VectorState) (written : Bool) : VectorState :=
  if written && x.pending then { x with unreported := 0, pending := false } else x

/-- The line going inactive when the change from `before` to `after` ends an active interrupt line (R98). -/
def State.issueInactive (after before : State) : State :=
  if before.interruptLine && !after.interruptLine then after.issue (.level false) else after

/-- The acknowledge of the vectors whose positions are written with 1 (R97). -/
def acknowledge (w0 w1 w2 : Bool) (s : State) : State :=
  ({ s with
      vector0 := s.vector0.acknowledge w0
      vector1 := s.vector1.acknowledge w1
      vector2 := s.vector2.acknowledge w2 } : State).issueInactive s

/-- All three vectors cleared; in LEVEL mode an active interrupt line goes inactive, and no message is issued (R178, R179). -/
def clearVectors (s : State) : State :=
  ({ s with vector0 := VectorState.fresh, vector1 := VectorState.fresh, vector2 := VectorState.fresh } : State).issueInactive s

/-- A vector whose unreported count is not 0 and which is not pending is raised (R178, end of the drain). -/
def raiseUnreported (v : VectorId) (s : State) : State :=
  if (s.vector v).unreported ≠ 0 ∧ (s.vector v).pending = false then raiseVector v s else s

end Sys2Proof.Machine
end

