-- ==== Sys2Proof/Machine/Ops.lean ====
section
/-! DEFINITION. Shared operations over the state: lines, host memory reads, the index page, the event unit, the completion
writer and the pending list. Every command's meaning is put together from these. -/

namespace Sys2Proof.Machine

/-! ## Lines -/

/-- A line of the state. -/
def State.line (s : State) : LineId → Line
  | .line0 => s.line0
  | .line1 => s.line1

/-- `s` with one line replaced. -/
def State.setLine (s : State) (l : LineId) (x : Line) : State :=
  match l with
  | .line0 => { s with line0 := x }
  | .line1 => { s with line1 := x }

/-- `s` with one line changed by `f`. -/
def State.updLine (s : State) (l : LineId) (f : Line → Line) : State := s.setLine l (f (s.line l))

/-- A line's section of the context block. -/
def ContextBlock.lineSection (c : ContextBlock) : LineId → LineSection
  | .line0 => c.section0
  | .line1 => c.section1

/-- The parameter set a start loads for a line (R25). -/
def LineSection.loadedParams (sec : LineSection) : Params :=
  if sec.defaults then Params.default else Params.ofBlock sec.parameters

/-! ## Station records (R37) -/

/-- The record of a station; addresses 0 and 63 have none, and read as a record never used. -/
def Line.station (x : Line) (a : Nat) : Station :=
  if h : 1 ≤ a ∧ a ≤ 62 then x.stations[a - 1]'(by omega) else Station.fresh

/-- The line with one station's record replaced; addresses 0 and 63 have none. -/
def Line.setStation (x : Line) (a : Nat) (r : Station) : Line :=
  if h : 1 ≤ a ∧ a ≤ 62 then { x with stations := x.stations.set (a - 1) r (by omega) } else x

/-- The station state a completion carries for an address: NONE for address 0 and for no station (R77). -/
def Line.reportedState (x : Line) (a : Nat) : Option Health :=
  if 1 ≤ a ∧ a ≤ 62 then some (x.station a).state else none

/-- The station addresses in ascending order. -/
def stationAddresses : List Nat := List.range' 1 62

/-- The attention set of a line in ascending address (R45). -/
def Line.attentionSet (x : Line) : List Nat := stationAddresses.filter (fun a => (x.station a).attention)

/-! ## Host memory reads (R180) -/

/-- The host port issues a read; its identification is `s.nextRead`. -/
def State.issueRead (s : State) (reader : Reader) (address : Addr) (length : Nat) : State :=
  { s with reads := s.reads ++ [⟨s.nextRead, reader, address, length⟩], nextRead := s.nextRead + 1 }

/-- The outstanding read with this identification. -/
def State.findRead (s : State) (id : Nat) : Option HostRead := s.reads.find? (fun r => r.id == id)

/-- `s` without the read of this identification, which has ended. -/
def State.endRead (s : State) (id : Nat) : State := { s with reads := s.reads.filter (fun r => r.id != id) }

/-- What a read that ended gave: its octets when all those requested returned, none for a read error (R180). -/
def HostRead.data (r : HostRead) (result : ReadResult) : Option (List Byte) :=
  match result with
  | .octets d => if d.length = r.length then some d else none
  | .error => none

/-! ## Index page (R182) -/

/-- One write into the index page. -/
def State.indexWrite (s : State) (offset : Nat) (octets : List Byte) : State :=
  s.hostWrite (addrPlus s.context.indexPage offset) octets

/-- The write of a line's counter block (R168). -/
def writeCounters (l : LineId) (s : State) : State :=
  s.indexWrite (counterBlockOffset l) (s.line l).counters.octets

/-- The write of a line's cycle record (R121). -/
def writeCycleRecord (l : LineId) (s : State) : State :=
  s.indexWrite (cycleRecordOffset l) (s.line l).engine.cycleRecord

/-- A line counter changes: the counter block is handed over in the same step (R168). -/
def countOnLine (l : LineId) (f : Counters → Counters) (s : State) : State :=
  writeCounters l (s.updLine l (fun x => { x with counters := f x.counters }))

/-! ## The event unit (R89 to R92) -/

/-- Whether the event ring has a free entry (R89). -/
def State.eventRoom (s : State) : Bool :=
  decide ((s.events.producer - s.events.consumer).toNat < s.context.eventRing.size - 1)

/-- One event record is written at the producer index and counts towards vector 0 (R90). -/
def writeEvent (sequence : Half) (e : Event) (s : State) : State :=
  let i := s.events.producer
  let ring := s.context.eventRing
  let s := s.hostWrite (ring.position i 16) (e.octets sequence (ring.lap i))
  countRecord .vector0 { s with events := { s.events with producer := i + 1 } }

/-- A block raises an event: it takes the next sequence number and is written, backlogged or dropped (R90). -/
def raiseEvent (e : Event) (s : State) : State :=
  let q := s.events.sequence
  let room := s.eventRoom
  let u : EventUnit := { s.events with sequence := q + 1 }
  if u.backlog = [] ∧ u.lossCount = 0 ∧ room = true then writeEvent q e { s with events := u }
  else if u.backlog.length < Config.backlogMax then { s with events := { u with backlog := u.backlog ++ [(q, e)] } }
  else
    { s with events :=
        { u with
          lossCount := min 65535 (u.lossCount + 1)
          firstLost := if u.lossCount = 0 then some q else u.firstLost } }

/-- The backlogged events are written, oldest first, while the ring has a free entry (R91). The list is the backlog. -/
def drainBacklog : List (Half × Event) → State → State
  | [], s => { s with events := { s.events with backlog := [] } }
  | (q, e) :: rest, s =>
    if s.eventRoom then drainBacklog rest (writeEvent q e s)
    else { s with events := { s.events with backlog := (q, e) :: rest } }

/-- An EVENT_LOSS record is written when one is due: it takes the next sequence number, and the loss count is cleared (R91). -/
def writeLoss (s : State) : State :=
  if s.events.backlog = [] ∧ s.events.lossCount ≠ 0 ∧ s.eventRoom = true then
    let q := s.events.sequence
    let e := Event.eventLoss s.events.lossCount (s.events.firstLost.getD 0)
    writeEvent q e { s with events := { s.events with sequence := q + 1, lossCount := 0, firstLost := none } }
  else s

/-- The event unit drains its backlog and writes an EVENT_LOSS record when one is due (R91). -/
def drainEvents (s : State) : State := writeLoss (drainBacklog s.events.backlog s)

/-- A line changes state: one LINE_STATE event (R142). -/
def moveLine (l : LineId) (new : LineState) (reason : LineReason) (s : State) : State :=
  raiseEvent (.lineState l (s.line l).state new reason) (s.updLine l (fun x => { x with state := new }))

/-! ## The completion writer (R79, R80) -/

/-- The completion writer writes one completion record (R80). -/
def complete (l : LineId) (c : Completion) (s : State) : State :=
  let i := (s.line l).completion.producer
  let ring := (s.context.lineSection l).completionRing
  let s := s.hostWrite (ring.position i 16) (c.octets (ring.lap i))
  countRecord (lineVector l)
    (s.updLine l (fun x => { x with completion := { x.completion with producer := i + 1 } }))

/-- How a request ends: status, detail, and the TRUNCATED and MARKED flags (R77, R78). -/
structure Ending where
  status : Status
  detail : Nat
  truncated : Bool := false
  marked : Bool := false
deriving DecidableEq, Repr

/-- The completion of an entry (R77), with the station state as its line's records stand. -/
def Entry.completion (e : Entry) (x : Line) (how : Ending) : Completion where
  tag := e.tag
  ringIndex := e.ringIndex
  kind := e.kind
  status := how.status
  truncated := how.truncated
  marked := how.marked
  detail := how.detail
  attempts := e.attempts
  station := x.reportedState e.body.reportStation

/-- The completion of an entry that has left the list is handed over (R77). -/
def completeEntry (l : LineId) (how : Ending) (s : State) (e : Entry) : State :=
  complete l (e.completion (s.line l) how) s

/-! ## The pending list (R62) -/

/-- The first entry of a line's pending list that satisfies `p`, with its place. -/
def Line.findEntry (x : Line) (p : Entry → Bool) : Option (Nat × Entry) :=
  match x.entries.findIdx? p with
  | none => none
  | some i => (x.entries[i]?).map (fun e => (i, e))

/-- The entry at place `i` replaced. -/
def putEntry (l : LineId) (i : Nat) (e : Entry) (s : State) : State :=
  s.updLine l (fun x => { x with entries := x.entries.set i e })

/-- The entry `e` at place `i` completes and leaves the list (R62). -/
def finishEntry (l : LineId) (i : Nat) (e : Entry) (how : Ending) (s : State) : State :=
  completeEntry l how (s.updLine l (fun x => { x with entries := x.entries.eraseIdx i })) e

/-- The first entry that satisfies `p`, if any, completes and leaves the list. -/
def finishFirst (l : LineId) (p : Entry → Bool) (how : Ending) (s : State) : State :=
  match (s.line l).findEntry p with
  | none => s
  | some (i, e) => finishEntry l i e how s

/-- Every entry that satisfies `p` completes and leaves the list, oldest first. -/
def finishAll (l : LineId) (p : Entry → Bool) (how : Entry → Ending) (s : State) : State :=
  let gone := (s.line l).entries.filter p
  let s := s.updLine l (fun x => { x with entries := x.entries.filter (fun e => !p e) })
  gone.foldl (fun s e => completeEntry l (how e) s e) s

/-- An entry joins the tail of the list (R61). -/
def appendEntry (l : LineId) (e : Entry) (s : State) : State :=
  s.updLine l (fun x => { x with entries := x.entries ++ [e] })

/-- Whether an entry is IN_FLIGHT doing this work. -/
def Entry.isDoing (e : Entry) (w : Work) : Bool := decide (e.state = .inFlight w)

/-- Whether an entry is IN_FLIGHT. -/
def Entry.isInFlight (e : Entry) : Bool :=
  match e.state with
  | .inFlight _ => true
  | _ => false

/-- The oldest entry of a line, when it is WAITING, the device is RUNNING and no order is in flight on the line: the entry that
may act as a barrier (R71, R176). -/
def State.oldestWaiting (s : State) (l : LineId) : Option Entry :=
  if s.run = .running ∧ (s.line l).job = none then
    match (s.line l).entries with
    | e :: _ => if e.state = .waiting then some e else none
    | [] => none
  else none

/-- Whether a line is ACTIVE, at REST or FAULTED (R32, R51, R64, R145, R151, R166). -/
def Line.settled (x : Line) : Bool :=
  match x.state with
  | .active | .rest | .faulted => true
  | _ => false

end Sys2Proof.Machine
end

