-- ==== Sys2Proof/Machine/StationTable.lean ====
section
/-! DEFINITION. The station table: outcome reports, attention flags, threshold changes, and the actions of STATION_SET and
STATION_READ on the records (R37 to R55). -/

namespace Sys2Proof.Machine

/-- The outcome of an exchange (R17, R18, R20) with what it carries: refusal reason 2 is REFUSED and 3 is SEQ (R78). -/
inductive ExchangeEnd where
  | success (attn : Bool) (function : Byte) (payload : List Byte)
  | busy
  | refused (reason : Nat)
  | noResponse
  | badFrame
  | stopped (last : AttemptEnd)
  | lineFault
deriving DecidableEq, Repr

/-- Health class of an outcome report (R19). -/
inductive HealthClass where
  | answered | failed | none
deriving DecidableEq, Repr

/-- Health class by outcome (R19). -/
def ExchangeEnd.healthClass : ExchangeEnd → HealthClass
  | .success _ _ _ => .answered
  | .busy => .answered
  | .refused _ => .answered
  | .noResponse => .failed
  | .badFrame => .failed
  | .stopped .nakSeq => .answered
  | .stopped _ => .failed
  | .lineFault => .none

/-- Advance flag by outcome (R19). -/
def ExchangeEnd.advances : ExchangeEnd → Bool
  | .success _ _ _ => true
  | _ => false

/-- ATTN value reported, by outcome (R19). -/
def ExchangeEnd.attn : ExchangeEnd → Bool
  | .success attn _ _ => attn
  | _ => false

/-- A statistic raised by 1, staying at 65,535 (R42). -/
def saturate (n : Nat) : Nat := min 65535 (n + 1)

/-- The statistics of a report (R42). -/
def Station.count (r : Station) (o : ExchangeEnd) : Station :=
  match o with
  | .success _ _ _ => { r with good := saturate r.good }
  | .busy => { r with busy := saturate r.busy }
  | _ => if o.healthClass = .failed then { r with failed := saturate r.failed } else r

/-- A report of class ANSWERED (R40). -/
def Station.answer (r : Station) (advance : Bool) : Station :=
  { r with
    failures := 0
    state := .online
    resync := false
    seq := if advance then !r.seq else r.seq }

/-- A report of class FAILED (R41). On an OFFLINE station it clears an attention flag that a WAKE had set (R44; log entry 34). A station that goes OFFLINE
leaves the attention set whatever FAILED outcome took it there, a FETCH that ends STOPPED at a device stop too, where R138 says that the station stays (log entry 40). -/
def Station.fail (r : Station) (threshold : Nat) : Station :=
  if r.state = .offline then { r with resync := true, failures := threshold, attention := false }
  else if r.failures + 1 < threshold then { r with resync := true, failures := r.failures + 1, state := .suspect }
  else { r with resync := true, failures := r.failures + 1, state := .offline, attention := false }

/-- The health part of a report (R39 step 2). -/
def Station.applyHealth (r : Station) (threshold : Nat) (o : ExchangeEnd) : Station :=
  match o.healthClass with
  | .answered => r.answer o.advances
  | .failed => r.fail threshold
  | .none => r

/-- A record after an outcome report; a DISABLED record is left as it is (R39). -/
def Station.applyReport (r : Station) (threshold : Nat) (o : ExchangeEnd) : Station :=
  if r.state = .disabled then r
  else
    let r := (r.count o).applyHealth threshold o
    if o.attn then { r with attention := true } else r

/-- An event raised when a condition holds. -/
def raiseIf (c : Bool) (e : Event) (s : State) : State := if c then raiseEvent e s else s

/-- A station record changed by `f`, with the STATION_STATE event of a change of state (R43). -/
def changeStation (l : LineId) (cause : HealthCause) (f : Station → Station) (s : State) (a : Nat) : State :=
  let r := (s.line l).station a
  raiseIf (decide ((f r).state ≠ r.state)) (.stationState l a r.state (f r).state (f r).failures cause)
    (s.updLine l (fun x => x.setStation a (f r)))

/-- The station table applies an outcome report: the record, then STATION_STATE, then ATTENTION (R39, R43, R44). -/
def reportOutcome (l : LineId) (a : Nat) (o : ExchangeEnd) (s : State) : State :=
  let r := (s.line l).station a
  let r' := r.applyReport (s.line l).params.offlineThreshold o
  raiseIf (r'.attention && !r.attention) (.attention l a .rsp r'.state)
    (changeStation l .exchange (fun r => r.applyReport (s.line l).params.offlineThreshold o) s a)

/-- A valid WAKE frame from a station sets its attention flag unless it is DISABLED (R44, R154). -/
def noteWake (l : LineId) (a : Nat) (s : State) : State :=
  let r := (s.line l).station a
  if r.state = .disabled then s
  else raiseIf (!r.attention) (.attention l a .wake r.state)
    (s.updLine l (fun x => x.setStation a { r with attention := true }))

/-- The collector has a station's attention flag cleared (R45). -/
def clearAttention (l : LineId) (a : Nat) (s : State) : State :=
  s.updLine l (fun x => x.setStation a { x.station a with attention := false })

/-- A record after the offline threshold went from `old` to `new` (R50). A lower threshold clears the attention flag of every record it takes or keeps
OFFLINE, of one already OFFLINE too (log entry 33). -/
def Station.rethreshold (old new : Nat) (r : Station) : Station :=
  if r.state = .disabled then r
  else if new < old ∧ new ≤ r.failures then { r with failures := new, state := .offline, attention := false }
  else if old < new ∧ r.state = .offline then { r with failures := new }
  else r

/-- The re-evaluation of every record in ascending address (R50). -/
def reevaluate (l : LineId) (old new : Nat) (s : State) : State :=
  stationAddresses.foldl (changeStation l .threshold (Station.rethreshold old new)) s

/-- The effect of a STATION_SET action on one record (R52). -/
def SetAction.apply (act : SetAction) (r : Station) : Station :=
  match act with
  | .enable =>
    if r.state = .disabled then
      { r with state := .unknown, failures := 0, resync := true, attention := false, good := 0, failed := 0, busy := 0 }
    else r
  | .disable =>
    if r.state = .disabled then r else { r with state := .disabled, failures := 0, attention := false }
  | .forget =>
    if r.state = .disabled then r
    else { r with state := .unknown, failures := 0, resync := true, attention := false }
  | .wakeCapable v => { r with wakeCapable := v }
  | .timeoutOverride v => { r with timeoutOverride := v }

/-- The addresses of a range, ascending. -/
def stationRange (first last : Nat) : List Nat := List.range' first (last + 1 - first)

/-- How many records of a range an action changes in at least one field (R52). -/
def Line.changedBy (x : Line) (first last : Nat) (act : SetAction) : Nat :=
  ((stationRange first last).filter (fun a => decide (act.apply (x.station a) ≠ x.station a))).length

/-- A STATION_SET's action on its range, in ascending address (R52). -/
def applySet (l : LineId) (first last : Nat) (act : SetAction) (s : State) : State :=
  (stationRange first last).foldl (changeStation l .stationSet act.apply) s

/-- The image writes of a STATION_READ, in ascending address (R54). -/
def writeImages (l : LineId) (first last : Nat) (inAddress : Addr) (s : State) : State :=
  (stationRange first last).foldl
    (fun s a => s.hostWrite (addrPlus inAddress (16 * (a - first))) (((s.line l).station a).image a)) s

/-- The statistics of one record set to 0 (R42, R54). -/
def Station.clearStatistics (r : Station) : Station := { r with good := 0, failed := 0, busy := 0 }

/-- The CLEAR step of a STATION_READ: the statistics of every copied record go to 0, those of a DISABLED record too (R54). R47 says that a DISABLED record's
statistics keep the values they had; that CLEAR sets them to 0 all the same is the model's choice (log entry 39). -/
def clearStatistics (l : LineId) (first last : Nat) (s : State) : State :=
  (stationRange first last).foldl
    (fun s a => s.updLine l (fun x => x.setStation a (x.station a).clearStatistics)) s

end Sys2Proof.Machine
end

