-- ==== Sys2Proof/Machine/Buffers.lean ====
section
/-! DEFINITION. The buffer unit and the attention collector (R83 to R88, R133 to R141). -/

namespace Sys2Proof.Machine

/-! ## The buffer unit -/

/-- The held descriptors of a line replaced. -/
def setHeld (l : LineId) (ds : List Descriptor) (s : State) : State :=
  s.updLine l (fun x => { x with buffers := { x.buffers with held := ds } })

/-- One write-back at the write-back index, counted towards the line's vector (R87, R88). -/
def writeBack (l : LineId) (octets : List Byte) (s : State) : State :=
  let i := (s.line l).buffers.writeBack
  let s := s.hostWrite ((s.context.lineSection l).bufferRing.position i 16) octets
  countRecord (lineVector l) (s.updLine l (fun x => { x with buffers := { x.buffers with writeBack := i + 1 } }))

/-- Invalid descriptors at the head are written back RETURNED with reason INVALID until the head is usable (R85). The list is the
held descriptors. -/
def flushInvalid (l : LineId) : List Descriptor → State → State
  | [], s => setHeld l [] s
  | d :: rest, s =>
    if d.usable then setHeld l (d :: rest) s else flushInvalid l rest (writeBack l (returnedOctets d 1) s)

/-- Every held descriptor is written back RETURNED, oldest first: an invalid one with reason INVALID, the others with reason
STOPPED (R88). -/
def returnHeld (l : LineId) : List Descriptor → State → State
  | [], s => setHeld l [] s
  | d :: rest, s => returnHeld l rest (writeBack l (returnedOctets d (if d.usable then 2 else 1)) s)

/-- The buffer unit fills the head with a station's message (R87). -/
def fillHead (l : LineId) (station : Nat) (function : Byte) (payload : List Byte) (more : Bool) (s : State) : State :=
  match (s.line l).buffers.held with
  | [] => s
  | d :: rest =>
    let stored := min payload.length d.length
    let s := if stored = 0 then s else s.hostWrite d.address (payload.take stored)
    flushInvalid l rest (writeBack l (filledOctets d station function stored payload.length more) s)

/-- A descriptor read of the buffer unit has ended (R85, R86, R176). -/
def endDescriptorRead (l : LineId) (data : Option (List Byte)) (s : State) : State :=
  let b := (s.line l).buffers
  match data with
  | none =>
    raiseEvent (.ringError l (bufferRingId l) b.consumer)
      (s.updLine l (fun x => { x with buffers := { b with errored := true, fetch := none } }))
  | some d =>
    let i := b.consumer + 1
    let held := b.held ++ [parseDescriptor d]
    let s := s.updLine l (fun x => { x with buffers := { b with consumer := i, fetch := none, held := held } })
    flushInvalid l held (s.indexWrite (bufferConsumerOffset l) (leBytes 2 i.toNat))

/-! ## The attention collector -/

/-- Whether an order in flight is a FETCH of the collector (R134). -/
def Line.fetching (x : Line) : Bool :=
  match x.job with
  | some ⟨.exchange e, _⟩ => decide (e.claimant = .collector)
  | _ => false

/-- The conditions of R134 and R140 that the claim and a starvation share: RUNNING, ACTIVE, collection on, and stations in the
attention set. -/
def State.wantsFetch (s : State) (l : LineId) : Bool :=
  decide (s.run = .running) && decide ((s.line l).state = .active) && (s.line l).params.attentionCollection
    && !(s.line l).attentionSet.isEmpty

/-- Whether the buffer unit can get no buffer: it holds none, fetches none and cannot issue a fetch (R140). -/
def BufferUnit.dry (b : BufferUnit) : Bool :=
  b.held.isEmpty && b.fetch.isNone && (b.errored || decide (b.producer = b.consumer))

/-- The starved flag follows its conditions: an episode begins with one BUFFER_STARVED and ends when a head is held (R140; log entry 9). -/
def checkStarved (l : LineId) (s : State) : State :=
  let x := s.line l
  if !x.buffers.held.isEmpty then s.updLine l (fun x => { x with collector := { x.collector with starved := false } })
  else if s.wantsFetch l && x.buffers.dry && !x.collector.starved then
    raiseEvent (.bufferStarved l x.attentionSet.length)
      (s.updLine l (fun x => { x with collector := { x.collector with starved := true } }))
  else s

/-- The collector claims the line as soon as its conditions hold; a claim that waits stays in place (R134). -/
def checkClaim (l : LineId) (s : State) : State :=
  if s.wantsFetch l && !(s.line l).buffers.held.isEmpty && !(s.line l).fetching then
    s.updLine l (fun x => { x with collector := { x.collector with claim := true } })
  else s

/-- What the collector looks at again at the end of a step whose changes may meet its conditions (R134, R140; log entry 9). A change that a request's
completion follows in the same step is looked at with `checkStarved` before that completion (R77, R100). -/
def settle (l : LineId) (s : State) : State := checkClaim l (checkStarved l s)

/-- The station the collector chooses: the member of the attention set at or above the rotation pointer, or the lowest (R135). -/
def Line.fetchChoice (x : Line) : Option Nat :=
  match x.attentionSet.find? (fun a => decide (x.collector.rotation ≤ a)) with
  | some a => some a
  | none => x.attentionSet.head?

/-- The rotation pointer moves on from a station (R139). -/
def moveRotation (l : LineId) (a : Nat) (s : State) : State :=
  s.updLine l (fun x => { x with collector := { x.collector with rotation := if a = 62 then 1 else a + 1 } })

/-- The outcome of a FETCH reaches the collector (R136 to R139). -/
def fetchOutcome (l : LineId) (a : Nat) (o : ExchangeEnd) (s : State) : State :=
  match o with
  | .success attn function payload =>
    let s := if attn then s else clearAttention l a s
    let s := if payload.length = 0 then s else fillHead l a function payload attn s
    moveRotation l a s
  | _ => moveRotation l a s

end Sys2Proof.Machine
end

