-- ==== Sys2Proof/Machine/Schedule.lean ====
section
/-! DEFINITION. The cycle engine: banks, start events, slots, slot status records, overruns, switches, stops and halts
(R101 to R127). -/

namespace Sys2Proof.Machine

/-! ## Banks and slots -/

/-- The other bank. -/
def BankId.other : BankId → BankId
  | .bank0 => .bank1
  | .bank1 => .bank0

/-- A bank of the engine. -/
def Engine.bank (e : Engine) : BankId → Bank
  | .bank0 => e.bank0
  | .bank1 => e.bank1

/-- The engine with one bank replaced. -/
def Engine.setBank (e : Engine) (b : BankId) (x : Bank) : Engine :=
  match b with
  | .bank0 => { e with bank0 := x }
  | .bank1 => { e with bank1 := x }

/-- The bank whose slots the cycles run (R101). -/
def Engine.activeBank (e : Engine) : Bank := e.bank e.active

/-- The bank that a load fills (R102). -/
def Engine.inactiveBank (e : Engine) : Bank := e.bank e.active.other

/-- A line's engine changed by `f`. -/
def updEngine (l : LineId) (f : Engine → Engine) (s : State) : State :=
  s.updLine l (fun x => { x with engine := f x.engine })

/-- The inactive bank's state changed. -/
def setInactiveState (l : LineId) (st : BankState) (s : State) : State :=
  updEngine l (fun e => e.setBank e.active.other { e.inactiveBank with state := st }) s

/-- Slot number `n` of a bank, with its status (R103: slots are numbered from 1). -/
def Bank.cell (b : Bank) (n : Nat) : Option SlotCell := if n = 0 then none else b.slots[n - 1]?

/-- Whether a slot is due in a cycle (R114). -/
def Slot.dueIn (slot : Slot) (cycle : Word) : Bool := decide (cycle.toNat % slot.divisor = slot.phase)

/-- The numbers of the slots due in a cycle, ascending; `n` is the number of the first slot of the list (R114). -/
def dueSlots (cycle : Word) : Nat → List SlotCell → List Nat
  | _, [] => []
  | n, c :: rest => if c.slot.dueIn cycle then n :: dueSlots cycle (n + 1) rest else dueSlots cycle (n + 1) rest

/-- The due slots at or after the cursor (R101, R122). -/
def Engine.remaining (e : Engine) : List Nat := e.due.drop (e.cursor - 1)

/-- The due slots at or after the cursor that are not in flight (R125, R127). -/
def Engine.remainingIdle (e : Engine) : List Nat := if e.stage = .inFlight then e.remaining.drop 1 else e.remaining

/-! ## Slot status records (R119, R120) -/

/-- A slot's status after it ended in `cycle` with `result`; `stored` is the length stored by a POLL that ended OK (R120). -/
def SlotStatus.after (st : SlotStatus) (cycle : Word) (result : SlotResult) (stored : Option Nat) : SlotStatus where
  lastAttempt := cycle
  lastSuccess := if result = .ok then cycle else st.lastSuccess
  result := result
  newestHalf := if stored.isSome then (if st.newestHalf = 0 then 1 else 0) else st.newestHalf
  newestLength := stored.getD st.newestLength
  misses := if result = .ok then 0 else min 255 (st.misses + 1)
  updates := st.updates + 1

/-- A due slot ends: its status is updated in the active bank and its record written (R120). -/
def recordSlot (l : LineId) (result : SlotResult) (stored : Option Nat) (s : State) (n : Nat) : State :=
  let e := (s.line l).engine
  let b := e.activeBank
  match b.cell n with
  | none => s
  | some c =>
    let st := c.status.after e.cycle result stored
    (updEngine l (fun e => e.setBank e.active { b with slots := b.slots.set (n - 1) { c with status := st } }) s).hostWrite
      (addrPlus b.statusArray (16 * (n - 1))) st.octets

/-- Several due slots end with one status, in the order of the list (R122, R125, R126, R127). -/
def recordSlots (l : LineId) (result : SlotResult) (ns : List Nat) (s : State) : State :=
  ns.foldl (recordSlot l result none) s

/-- Address of the half that the slot's status does not name as newest (R103, R119). -/
def Bank.nextHalf (b : Bank) (c : SlotCell) : Addr :=
  addrPlus b.imageBase (c.slot.inOffset + (if c.status.newestHalf = 0 then c.slot.inLength else 0))

/-- A POLL slot ends OK: its payload goes into the half not named newest, then its record is written (R119). -/
def recordPollOk (l : LineId) (n : Nat) (payload : List Byte) (s : State) : State :=
  let b := (s.line l).engine.activeBank
  match b.cell n with
  | none => s
  | some c =>
    let stored := min payload.length c.slot.inLength
    let s := if stored = 0 then s else s.hostWrite (b.nextHalf c) (payload.take stored)
    recordSlot l .ok (some stored) s n

/-! ## Switching and stopping (R124, R125) -/

/-- A switch: the inactive bank becomes active, SCHEDULE_SWITCHED is raised, the cycle record written, and a PARKED SWITCH
completes OK (R124). -/
def switchBanks (l : LineId) (s : State) : State :=
  let e := (s.line l).engine
  let old := e.activeBank
  let e1 := e.setBank e.active { old with state := if old.state = .active then .loaded else old.state }
  let e2 := e1.setBank e.active.other { e.inactiveBank with state := .active }
  let s := updEngine l (fun _ => { e2 with active := e.active.other }) s
  let s := raiseEvent (.scheduleSwitched l e.cycle e.active.other) s
  finishFirst l (fun p => decide (p.state = .parked)) ⟨.ok, 0, false, false⟩ (writeCycleRecord l s)

/-- A COMMITTED bank becomes active (R113 step 2, R125, R126). -/
def switchIfCommitted (l : LineId) (s : State) : State :=
  if (s.line l).engine.inactiveBank.state = .committed then switchBanks l s else s

/-- The engine becomes STOPPED from WAITING or IN_CYCLE: a COMMITTED bank becomes active, the cycle record is written, and each
STOP that waited completes OK, oldest first (R125). -/
def becomeStopped (l : LineId) (s : State) : State :=
  let s := updEngine l (fun e => { e with state := .stopped, stopRequested := false, stage := .idle }) s
  let s := writeCycleRecord l (switchIfCommitted l s)
  finishAll l (fun p => p.isDoing .stopWait) (fun _ => ⟨.ok, 0, false, false⟩) s

/-- The cycle timer, the start source and the pending-start flag are cleared (R125, R126, R127). -/
def Engine.clearStart (e : Engine) : Engine :=
  { e with timer := none, source := none, pendingStart := false, startLate := false }

/-! ## Start events (R111, R112) -/

/-- A start event: it sets the pending-start flag, or is merged into a start already pending (R111). An order in flight makes the
start late when it is taken (R112). -/
def startEvent (l : LineId) (s : State) : State :=
  let x := s.line l
  if x.engine.pendingStart then updEngine l (fun e => { e with mergedStarts := e.mergedStarts + 1 }) s
  else updEngine l (fun e => { e with pendingStart := true, startLate := x.job.isSome }) s

/-- Whether start events are accepted (R111). -/
def Engine.runs (e : Engine) : Bool :=
  match e.state with
  | .waiting | .inCycle => true
  | _ => false

/-! ## Running slots (R115 to R121) -/

/-- The judgement of a slot's station: the status it is skipped with, or none when it runs (R115). -/
def Line.judgeSlot (x : Line) (slot : Slot) : Option SlotResult :=
  if slot.station = 0 then none
  else match (x.station slot.station).state with
  | .disabled => some .skippedDisabled
  | .offline =>
    if x.params.rejoinInterval = 0 then some .skippedOffline
    else if x.engine.cycle.toNat % x.params.rejoinInterval = 0 then none
    else some .skippedOffline
  | _ => none

/-- A slot that runs is prepared: its output data is read, or it claims the line at once (R116). -/
def prepareSlot (l : LineId) (c : SlotCell) (s : State) : State :=
  let b := (s.line l).engine.activeBank
  if c.slot.outLength = 0 then updEngine l (fun e => { e with stage := .claiming [] }) s
  else
    (updEngine l (fun e => { e with stage := .outputRead s.nextRead }) s).issueRead (.slotOutput l)
      (addrPlus b.imageBase c.slot.outOffset) c.slot.outLength

/-- The cursor passes a slot that has ended. -/
def passSlot (l : LineId) (s : State) : State :=
  updEngine l (fun e => { e with cursor := e.cursor + 1, stage := .idle }) s

/-- The last due slot has ended: the cycle ends (R121). -/
def endCycle (l : LineId) (s : State) : State :=
  writeCycleRecord l (updEngine l (fun e => { e with lastCompleted := e.cycle, state := .waiting }) s)

/-- The engine reaches the slots of the list in turn: skipped ones are recorded at once, the first that runs is prepared, and the
cycle ends when none is left (R115). -/
def reachSlots (l : LineId) : List Nat → State → State
  | [], s => endCycle l s
  | n :: rest, s =>
    match (s.line l).engine.activeBank.cell n with
    | none => reachSlots l rest (passSlot l s)
    | some c =>
      match (s.line l).judgeSlot c.slot with
      | some result => reachSlots l rest (passSlot l (recordSlot l result none s n))
      | none => prepareSlot l c s

/-- What follows the end of a slot: the engine becomes STOPPED if that was asked for, the cycle ends after the last slot, a
pending start keeps the next slot from being reached, or the next slot is reached (R111, R115, R117, R125). A cycle whose last due slot is in flight
at a STOP counts as cut short (R121; log entry 35). -/
def afterSlot (l : LineId) (s : State) : State :=
  let e := (s.line l).engine
  if e.stopRequested then becomeStopped l s
  else if e.remaining = [] then endCycle l s
  else if e.pendingStart then s
  else reachSlots l e.remaining s

/-- The slot at the cursor ends with a status and no input; then the engine goes on. -/
def endSlot (l : LineId) (result : SlotResult) (s : State) : State :=
  match (s.line l).engine.remaining with
  | [] => s
  | n :: _ => afterSlot l (passSlot l (recordSlot l result none s n))

/-- Slot status of a POLL by exchange outcome (R117). -/
def pollResult : ExchangeEnd → SlotResult
  | .success _ _ _ => .ok
  | .busy => .nakBusy
  | .refused _ => .refused
  | .noResponse => .noResponse
  | .badFrame => .badFrame
  | .stopped .timeout => .noResponse
  | .stopped .nakSeq => .refused
  | .stopped _ => .badFrame
  | .lineFault => .skippedFault

/-- The outcome of a POLL slot's exchange reaches the engine (R117, R119). -/
def pollOutcome (l : LineId) (o : ExchangeEnd) (s : State) : State :=
  match o, (s.line l).engine.remaining with
  | .success _ _ payload, n :: _ => afterSlot l (passSlot l (recordPollOk l n payload s))
  | o, _ => endSlot l (pollResult o) s

/-- A start is taken (R112, R113): the late count, the overrun, the switch, the number, the due list, the state and the record; then
the first due slot is reached. -/
def takeStart (l : LineId) (s : State) : State :=
  let e := (s.line l).engine
  let s := updEngine l
    (fun e => { e with lateStarts := if e.startLate then e.lateStarts + 1 else e.lateStarts, stage := .idle }) s
  let s :=
    if e.state = .inCycle then
      let s := recordSlots l .skippedOverrun e.remaining s
      raiseEvent (.cycleOverrun l (e.cycle + 1) e.remaining.length)
        (updEngine l (fun e => { e with overruns := e.overruns + 1 }) s)
    else s
  let s := switchIfCommitted l s
  let due := dueSlots (e.cycle + 1) 1 (s.line l).engine.activeBank.slots
  let s := updEngine l
    (fun e => { e with cycle := e.cycle + 1, pendingStart := false, startLate := false, due := due, cursor := 1 }) s
  if due = [] then endCycle l s
  else reachSlots l due (writeCycleRecord l (updEngine l (fun e => { e with state := .inCycle }) s))

/-! ## Halt and device stop (R126, R127) -/

/-- The engine's action on the line's entry to FAULTED (R126). -/
def haltEngine (l : LineId) (s : State) : State :=
  let e := (s.line l).engine
  if !e.runs then s
  else if e.stopRequested then
    becomeStopped l (passSlot l (recordSlots l .skippedFault (e.remaining.take 1) s))
  else
    let ns := if e.state = .inCycle then e.remaining else []
    let s := recordSlots l .skippedFault ns s
    let s := updEngine l (fun e => { e.clearStart with state := .halted, stage := .idle }) s
    let s := switchIfCommitted l s
    writeCycleRecord l (raiseEvent (.cycleHalted l e.cycle ns.length) s)

/-- The state a bank takes when the device begins to stop (R127). -/
def BankState.atStop : BankState → BankState
  | .committed => .loaded
  | .loading => .empty
  | b => b

/-- The engine's action on the entry to STOPPING (R127; log entry 14). -/
def stopEngine (l : LineId) (s : State) : State :=
  let s := updEngine l
    (fun e => e.clearStart.setBank e.active.other { e.inactiveBank with state := e.inactiveBank.state.atStop }) s
  let e := (s.line l).engine
  match e.state with
  | .stopped => s
  | .halted => writeCycleRecord l (updEngine l (fun e => { e with state := .stopped }) s)
  | .waiting => writeCycleRecord l (updEngine l (fun e => { e with state := .stopped }) s)
  | .inCycle =>
    let s := recordSlots l .skippedStop (if e.stopRequested then [] else e.remainingIdle) s
    if e.stage = .inFlight then updEngine l (fun e => { e with stopRequested := true }) s
    else writeCycleRecord l (updEngine l (fun e => { e with state := .stopped, stage := .idle }) s)

/-! ## SCHEDULE_LOAD and SCHEDULE_CONTROL (R105, R109, R110, R123, R125) -/

/-- A schedule request completes in the step in which it acts; its record never stood in the list for another step (R73). -/
def endSchedule (l : LineId) (e : Entry) (status : Status) (s : State) : State :=
  completeEntry l ⟨status, 0, false, false⟩ s e

/-- A SCHEDULE_LOAD acts (R105). -/
def actLoad (l : LineId) (e : Entry) (slotCount : Nat) (table : Addr) (s : State) : State :=
  match (s.line l).engine.inactiveBank.state with
  | .empty | .loaded =>
    let id := s.nextRead
    let s := updEngine l (fun g => g.setBank g.active.other { Bank.empty with state := .loading }) s
    let s := appendEntry l { e with state := .inFlight (.tableRead id) } s
    s.issueRead (.slotTable l) table (16 * slotCount)
  | _ => endSchedule l e .busySchedule s

/-- A START acts (R109; log entry 12). -/
def actStart (l : LineId) (e : Entry) (source : StartSource) (s : State) : State :=
  let x := s.line l
  if x.engine.runs then endSchedule l e .busySchedule s
  else if x.state = .faulted then endSchedule l e .lineFault s
  else if x.state ≠ .active then endSchedule l e .lineAtRest s
  else if x.engine.activeBank.state = .empty then endSchedule l e .badRequest s
  else
    let timer := match source with
      | .timer period => some period
      | _ => none
    let s := updEngine l
      (fun g => { g with source := some source, timer := timer, pendingStart := false, startLate := false, due := [],
                         cursor := 1, stage := .idle, state := .waiting }) s
    let s := writeCycleRecord l (endSchedule l e .ok s)
    if timer.isSome then startEvent l s else s

/-- A TRIGGER acts (R110). -/
def actTrigger (l : LineId) (e : Entry) (s : State) : State :=
  if (s.line l).engine.runs && decide ((s.line l).engine.source = some .manual) then
    endSchedule l e .ok (startEvent l s)
  else endSchedule l e .badRequest s

/-- A SWITCH acts (R123). -/
def actSwitch (l : LineId) (e : Entry) (s : State) : State :=
  match (s.line l).engine.inactiveBank.state with
  | .loaded =>
    if (s.line l).engine.runs then
      appendEntry l { e with state := .parked } (setInactiveState l .committed s)
    else endSchedule l e .ok (switchBanks l s)
  | .loading | .committed => endSchedule l e .busySchedule s
  | _ => endSchedule l e .badRequest s

/-- A STOP acts (R125). -/
def actStop (l : LineId) (e : Entry) (s : State) : State :=
  let g := (s.line l).engine
  match g.state with
  | .stopped => endSchedule l e .ok s
  | .halted => endSchedule l e .ok (writeCycleRecord l (updEngine l (fun g => { g with state := .stopped }) s))
  | _ =>
    if g.stopRequested then appendEntry l { e with state := .inFlight .stopWait } s
    else
      let ns := if g.state = .inCycle then g.remainingIdle else []
      let s := recordSlots l .skippedStop ns (updEngine l Engine.clearStart s)
      if g.stage = .inFlight then
        appendEntry l { e with state := .inFlight .stopWait } (updEngine l (fun g => { g with stopRequested := true }) s)
      else endSchedule l e .ok (becomeStopped l s)

/-- Whether a body is a schedule request (R61). -/
def Body.isSchedule : Body → Bool
  | .scheduleLoad .. => true
  | .scheduleControl _ => true
  | _ => false

/-- A schedule request acts in the step in which it is appended (R73). -/
def actSchedule (l : LineId) (e : Entry) (s : State) : State :=
  match e.body with
  | .scheduleLoad slotCount _ table _ _ => actLoad l e slotCount table s
  | .scheduleControl (.start source) => actStart l e source s
  | .scheduleControl .stop => actStop l e s
  | .scheduleControl .switch => actSwitch l e s
  | .scheduleControl .trigger => actTrigger l e s
  | _ => s

/-- The initial status records of a loaded bank, in ascending slot number (R107). `n` is the number of the first of the list. -/
def writeInitialStatuses (statusArray : Addr) : Nat → List SlotCell → State → State
  | _, [], s => s
  | n, c :: rest, s =>
    writeInitialStatuses statusArray (n + 1) rest (s.hostWrite (addrPlus statusArray (16 * (n - 1))) c.status.octets)

/-- A slot table read has ended for the entry `e` at place `i` (R105, R106, R107). -/
def endTableRead (l : LineId) (i : Nat) (e : Entry) (data : Option (List Byte)) (s : State) : State :=
  match e.body, data with
  | .scheduleLoad slotCount imageSize _ statusArray imageBase, some d =>
    match parseSlots imageSize 1 slotCount d with
    | .error bad => finishEntry l i e ⟨.badRequest, bad, false, false⟩ (setInactiveState l .empty s)
    | .ok slots =>
      let cells := slots.map (fun slot => ⟨slot, SlotStatus.loaded⟩)
      let s := updEngine l
        (fun g => g.setBank g.active.other ⟨.loaded, cells, imageBase, imageSize, statusArray⟩) s
      finishEntry l i e ⟨.ok, 0, false, false⟩ (writeInitialStatuses statusArray 1 cells s)
  | _, _ => finishEntry l i e ⟨.badAddress, 0, false, false⟩ (setInactiveState l .empty s)

end Sys2Proof.Machine
end

