-- ==== Sys2Proof/Machine/WakeSequence.lean ====
section
/-! DEFINITION. Handing work to the line controller (R10, R2), and the wake sequence: listen window, roll call, WACK and master wake
(R142 to R157). -/

namespace Sys2Proof.Machine

/-! ## Work for the line controller -/

/-- The line controller begins to wait for the gap before a transmission; it reads the gap now (R2, R27). -/
def giveJob (l : LineId) (kind : JobKind) (s : State) : State :=
  s.updLine l (fun x => { x with job := some ⟨kind, .gapWait x.params.gap⟩ })

/-- An EXCHANGE order as the line controller takes it: SEQ, RESYNC and the response timeout are read from the station's record and the
line's parameters at this moment (R10, R12, R15). -/
def Line.takeExchange (x : Line) (a : Nat) (function : Byte) (payload : List Byte) (retryLimit : Nat) (c : Claimant) :
    Exchange where
  station := a
  function := function
  payload := payload
  retryLimit := retryLimit
  claimant := c
  stopMark := false
  seq := (x.station a).seq
  resync := (x.station a).resync
  timeout := if (x.station a).timeoutOverride = 0 then x.params.responseTimeout else (x.station a).timeoutOverride
  used := 0
  cmds := 0
  nakSeqSeen := false

/-- An EXCHANGE order is handed to the line controller (R10). -/
def handExchange (l : LineId) (a : Nat) (function : Byte) (payload : List Byte) (retryLimit : Nat) (c : Claimant)
    (s : State) : State :=
  giveJob l (.exchange ((s.line l).takeExchange a function payload retryLimit c)) s

/-! ## The wake sequence -/

/-- A line's wake sequence changed by `f`. -/
def updWake (l : LineId) (f : WakeSequence → WakeSequence) (s : State) : State :=
  s.updLine l (fun x => { x with wake := f x.wake })

/-- An episode ends: every item goes back to its start value (R144). -/
def endEpisode (l : LineId) (s : State) : State := updWake l (fun _ => WakeSequence.fresh) s

/-- The listen window opens; its length is read now (R153, R30). -/
def openWindow (l : LineId) (s : State) : State :=
  s.updLine l (fun x =>
    { x with job := none, wake := { x.wake with phase := .listen, windowTimer := some x.params.listenWindow } })

/-- The wake sequence enters CLOSING and hands over the WACK (R156). -/
def enterClosing (l : LineId) (a : Nat) (s : State) : State :=
  giveJob l (.wack a) (updWake l (fun w => { w with phase := .closing, acknowledged := a, rollCall := [] }) s)

/-- The roll call takes its next station and hands over its QUERY, or goes to CLOSING when none is left or the device is STOPPING
(R155, R157). -/
def rollNext (l : LineId) (s : State) : State :=
  match (s.line l).wake.rollCall with
  | [] => enterClosing l 0 s
  | a :: rest =>
    if s.run = .stopping then enterClosing l 0 s
    else
      handExchange l a Config.queryFunction [] 0 .wakeSequence
        (updWake l (fun w => { w with rollCall := rest, queried := w.queried + 1 }) s)

/-- The stations a roll call queries, ascending (R155, R48). -/
def Line.rollCallList (x : Line) : List Nat :=
  stationAddresses.filter (fun a =>
    (x.station a).wakeCapable && decide ((x.station a).state ≠ .disabled) && decide ((x.station a).state ≠ .offline))

/-- Window result VALID_WAKE from a station (R154). -/
def validWake (l : LineId) (a : Nat) (s : State) : State :=
  enterClosing l a (noteWake l a (updWake l (fun w => { w with result := some .validWake, windowTimer := none }) s))

/-- Window result GARBAGE: a roll call (R155). -/
def garbageWindow (l : LineId) (s : State) : State :=
  rollNext l (s.updLine l (fun x =>
    { x with wake := { x.wake with
        phase := .rollCall, result := some .garbage, windowTimer := none, rollCall := x.rollCallList } }))

/-- Window result SILENCE: CLOSING with station 0 (R154). -/
def silentWindow (l : LineId) (s : State) : State :=
  enterClosing l 0 (updWake l (fun w => { w with result := some .silence, windowTimer := none }) s)

/-- The frame that decided the window has ended and been checked (R153). -/
def decideWindow (l : LineId) (c : RxCheck) (s : State) : State :=
  match c with
  | .wellFormed f => if f.kind = .wake ∧ 1 ≤ f.src ∧ f.src ≤ 62 then validWake l f.src s else garbageWindow l s
  | _ => garbageWindow l s

/-- A master wake begins on a line at REST: LINE_STATE, then the tone of the length read now (R152, R30). A frame that was being received is cut
off by the tone: the first octet after the tone begins a new frame (R6). -/
def beginMasterWake (l : LineId) (s : State) : State :=
  (moveLine l .waking .masterWake s).updLine l (fun x =>
    { x with
      job := some ⟨.tone x.params.wakeToneLength, .toning⟩
      reception := none
      detector := .disarmed
      wake := { WakeSequence.fresh with phase := .masterTone, masterTone := true } })

/-- The initiator a WAKE event reports (R156). -/
def WakeSequence.initiator (w : WakeSequence) : Initiator :=
  if w.masterTone then (if w.result = some .validWake then .masterAndStation else .master) else .station

/-- The WAKE event at the end of an episode (R156). -/
def Line.wakeEvent (x : Line) (l : LineId) : Event :=
  .wake l x.wake.acknowledged x.wake.initiator (decide (x.wake.result = some .garbage))
    (decide (x.wake.acknowledged ≠ 0) && !(x.station x.wake.acknowledged).wakeCapable) x.wake.queried

/-- How an entry ends that a device stop would otherwise complete: ABORTED with detail 1, MARKED clear (R177). -/
def stopEnding : Ending := ⟨.aborted, 1, false, false⟩

/-- The WACK has been sent: the WAKE event, the line ACTIVE, the end of the episode, and the completion of a WAKE request that waited, behind the events
(R156, R151, R177, R100, R140). -/
def finishWake (l : LineId) (s : State) : State :=
  let x := s.line l
  let s := raiseEvent (x.wakeEvent l) (s.updLine l (fun x => { x with job := none, consecutiveCollisions := 0 }))
  let s := checkStarved l (endEpisode l (moveLine l .active .wakeDone s))
  finishFirst l (fun e => e.isDoing .waking)
    (if s.run = .stopping then stopEnding else ⟨.ok, x.wake.acknowledged, false, false⟩) s

end Sys2Proof.Machine
end

