-- ==== Sys2Proof/Machine/Requests.lean ====
section
/-! DEFINITION. Request intake and the request engine: placing records, ABORT, selection, outcomes and completions, and the LINE_CONFIG
request (R31 to R36, R56 to R78). -/

namespace Sys2Proof.Machine

/-! ## Placing a record (R59 to R61) -/

/-- A new entry for a request taken at a ring index (R62). -/
def newEntry (d : List Byte) (ringIndex : Half) (body : Body) : Entry where
  tag := halfAt d 2
  ringIndex := ringIndex
  kind := octetAt d 0
  body := body
  state := .waiting
  busyCount := 0
  attempts := 0
  abortMark := false

/-- The BAD_REQUEST completion of a malformed record (R60; log entry 20). -/
def malformedCompletion (d : List Byte) (ringIndex : Half) : Completion :=
  ⟨halfAt d 2, ringIndex, octetAt d 0, .badRequest, false, false, 0, 0, none⟩

/-- The completion of a record whose read ended after the device began to stop: it is not checked (R177; log entry 11). -/
def uncheckedCompletion (d : List Byte) (ringIndex : Half) (x : Line) : Completion :=
  ⟨halfAt d 2, ringIndex, octetAt d 0, .aborted, false, false, 1, 0, x.reportedState (namedStation d)⟩

/-- A traffic, barrier or schedule record joins the list; a schedule request acts in the same step (R61, R73). -/
def placeEntry (l : LineId) (e : Entry) (s : State) : State :=
  if e.body.isSchedule then actSchedule l e s else appendEntry l e s

/-- Whether an ABORT's selector matches an entry: traffic entries only (R74). -/
def AbortSelector.hits (sel : AbortSelector) (e : Entry) : Bool :=
  e.body.isTraffic && match sel with
    | .tag v => decide (e.tag = v)
    | .station a => decide (e.body.trafficStation = some a)
    | .all => true

/-- The stop mark set on an exchange in flight (R18). -/
def Job.marked (j : Job) : Job :=
  match j.kind with
  | .exchange x => { j with kind := .exchange { x with stopMark := true } }
  | _ => j

/-- The stop mark of a line's exchange in flight for the request engine (R75). -/
def Line.markRequestExchange (x : Line) : Line :=
  match x.job with
  | some ⟨.exchange e, st⟩ =>
    if e.claimant = .requestEngine then { x with job := some (Job.marked ⟨.exchange e, st⟩) } else x
  | _ => x

/-- An ABORT is executed at intake: matching WAITING and HOLDOFF entries complete ABORTED in list order, matching IN_FLIGHT entries are
marked, and the ABORT completes OK (R75). `a` is the ABORT as taken. -/
def executeAbort (l : LineId) (a : Entry) (sel : AbortSelector) (s : State) : State :=
  let es := (s.line l).entries
  let ends := fun e : Entry => sel.hits e && !e.isInFlight
  let marks := fun e : Entry => sel.hits e && e.isInFlight
  let s := finishAll l ends (fun _ => ⟨.aborted, 0, false, false⟩) s
  let s := s.updLine l (fun x =>
    { x with entries := x.entries.map (fun e => if marks e then { e with abortMark := true } else e) })
  let s := if es.any (fun e => marks e && e.isDoing .onLine) then s.updLine l Line.markRequestExchange else s
  completeEntry l ⟨.ok, (es.filter ends).length, false, es.any marks⟩ s a

/-- A record is checked and dispatched by its class (R60, R61). -/
def takeRecord (l : LineId) (ringIndex : Half) (d : List Byte) (s : State) : State :=
  match parseBody d with
  | none => complete l (malformedCompletion d ringIndex) s
  | some body =>
    let e := newEntry d ringIndex body
    match body with
    | .abort sel => executeAbort l e sel s
    | _ =>
      if (s.line l).entries.length < Config.pendingMax then placeEntry l e s
      else s.updLine l (fun x => { x with intake := { x.intake with staged := some e } })

/-- A request record read has ended: the record is taken, or the credit returned and the ring ERRORED (R59, R177). -/
def endRequestRead (l : LineId) (data : Option (List Byte)) (s : State) : State :=
  let k := (s.line l).intake
  match data with
  | none =>
    raiseEvent (.ringError l (requestRingId l) k.consumer)
      (s.updLine l (fun x =>
        { x with
          intake := { k with errored := true, fetch := none }
          completion := { x.completion with credit := x.completion.credit + 1 } }))
  | some d =>
    let i := k.consumer + 1
    let s := s.updLine l (fun x => { x with intake := { k with consumer := i, fetch := none } })
    let s := s.indexWrite (requestConsumerOffset l) (leBytes 2 i.toNat)
    if s.run = .stopping then complete l (uncheckedCompletion d k.consumer (s.line l)) s
    else takeRecord l k.consumer d s

/-! ## Selection (R63 to R65) -/

/-- Place of the oldest eligible traffic entry; `older` holds the stations of the older traffic entries, `i` the place of the first
entry of the list (R63). -/
def candidateFrom : Nat → List Nat → List Entry → Option Nat
  | _, _, [] => none
  | i, older, e :: rest =>
    if e.body.isBarrier then none
    else match e.body.trafficStation with
    | none => candidateFrom (i + 1) older rest
    | some a =>
      if e.state = .waiting ∧ a ∉ older then some i else candidateFrom (i + 1) (a :: older) rest

/-- Place of the candidate of a line (R63). -/
def Line.candidate (x : Line) : Option Nat := candidateFrom 0 [] x.entries

/-- Whether the request engine may select: no traffic and no barrier entry is IN_FLIGHT and the line is ACTIVE, at REST or FAULTED
(R64). -/
def Line.maySelect (x : Line) : Bool :=
  x.settled && !x.entries.any (fun e => e.isInFlight && (e.body.isTraffic || e.body.isBarrier))

/-- The status with which a traffic request completes for its station's sake, if it does (R46, R64 cases 4 and 5, R65). -/
def Line.judgeTraffic (x : Line) : Body → Option Status
  | .exchange probe _ a _ _ _ _ _ =>
    match (x.station a).state with
    | .disabled => some .stationDisabled
    | .offline => if probe then none else some .stationOffline
    | _ => none
  | .send a _ _ _ => if 1 ≤ a ∧ (x.station a).state = .disabled then some .stationDisabled else none
  | _ => none

/-- Address and length of the out payload of a traffic request (R65). -/
def Body.outPayload : Body → Addr × Nat
  | .exchange _ _ _ _ outLength outAddress _ _ => (outAddress, outLength)
  | .send _ _ outLength outAddress => (outAddress, outLength)
  | _ => (0, 0)

/-- A selected entry becomes IN_FLIGHT and is prepared: its payload is read, or it claims the line at once (R65). -/
def prepareTraffic (l : LineId) (i : Nat) (e : Entry) (s : State) : State :=
  let p := e.body.outPayload
  if p.2 = 0 then putEntry l i { e with state := .inFlight (.awaitGrant []) } s
  else (putEntry l i { e with state := .inFlight (.payloadRead s.nextRead) } s).issueRead (.payload l) p.1 p.2

/-- The candidate is judged and completed, asks for a master wake, or is prepared (R64). -/
def selectTraffic (l : LineId) (i : Nat) (e : Entry) (s : State) : State :=
  let x := s.line l
  if x.state = .faulted then finishEntry l i e ⟨.lineFault, 0, false, false⟩ s
  else if x.state = .rest then
    if x.params.autoWake then beginMasterWake l s else finishEntry l i e ⟨.lineAtRest, 0, false, false⟩ s
  else match x.judgeTraffic e.body with
  | some status => finishEntry l i e ⟨status, 0, false, false⟩ s
  | none => prepareTraffic l i e s

/-- An out payload read has ended for the entry `e` at place `i` (R65, R76). -/
def endPayloadRead (l : LineId) (i : Nat) (e : Entry) (data : Option (List Byte)) (s : State) : State :=
  if e.abortMark then finishEntry l i e ⟨.aborted, 0, false, true⟩ s
  else match data with
  | none => finishEntry l i e ⟨.badAddress, 0, false, false⟩ s
  | some d => putEntry l i { e with state := .inFlight (.awaitGrant d) } s

/-- The order of a traffic entry (R65, R28). -/
def handTraffic (l : LineId) (body : Body) (payload : List Byte) (s : State) : State :=
  match body with
  | .exchange _ noRetry a function _ _ _ _ =>
    handExchange l a function payload (if noRetry then 0 else (s.line l).params.retryLimit) .requestEngine s
  | .send a function _ _ => giveJob l (.data ⟨a, function, payload, .requestEngine⟩) s
  | _ => s

/-- The grant of the request engine's TRAFFIC claim: the entry is judged once more and its order handed, or the grant lapses (R65,
R76). -/
def grantTraffic (l : LineId) (i : Nat) (e : Entry) (payload : List Byte) (s : State) : State :=
  if e.abortMark then finishEntry l i e ⟨.aborted, 0, false, true⟩ s
  else match (s.line l).judgeTraffic e.body with
  | some status => finishEntry l i e ⟨status, 0, false, false⟩ s
  | none => handTraffic l e.body payload (putEntry l i { e with state := .inFlight .onLine } s)

/-! ## Outcomes (R66 to R70, R177) -/

/-- The in buffer of an EXCHANGE: address and capacity (R67). -/
def Body.inBuffer : Body → Addr × Nat
  | .exchange _ _ _ _ _ _ inCapacity inAddress => (inAddress, inCapacity)
  | _ => (0, 0)

/-- Attempts used with `n` more frames sent, saturating at 255 (R62, R66). -/
def Entry.addAttempts (e : Entry) (n : Nat) : Entry := { e with attempts := min 255 (e.attempts + n) }

/-- An exchange ended SUCCESS: the response payload is written to the in buffer as far as it fits, and the request completes OK
(R67). -/
def deliverResponse (l : LineId) (i : Nat) (e : Entry) (payload : List Byte) (s : State) : State :=
  let b := e.body.inBuffer
  let stored := min payload.length b.2
  let s := if stored = 0 then s else s.hostWrite b.1 (payload.take stored)
  finishEntry l i e ⟨.ok, payload.length, decide (b.2 < payload.length), false⟩ s

/-- An exchange ended BUSY: the busy rule (R68), or ABORTED at a device stop (R177). -/
def busyOutcome (l : LineId) (i : Nat) (e : Entry) (s : State) : State :=
  if s.run = .stopping then finishEntry l i e stopEnding s
  else
    let e := { e with busyCount := e.busyCount + 1 }
    let p := (s.line l).params
    if p.busyLimit < e.busyCount then finishEntry l i e ⟨.busyExpired, e.busyCount, false, false⟩ s
    else if e.abortMark then finishEntry l i e ⟨.aborted, 0, false, true⟩ s
    else putEntry l i { e with state := .holdoff p.busyHoldoff } s

/-- An exchange stopped, or ended by a line fault, while its request was on the line (R66, R177). -/
def stoppedEnding (s : State) (e : Entry) : Ending :=
  if s.run = .stopping then stopEnding
  else if e.abortMark then ⟨.aborted, 0, false, true⟩ else stopEnding

/-- How the request engine ends an entry on a line fault (R163, R177). -/
def faultEnding (s : State) (e : Entry) : Ending :=
  if s.run = .stopping then stopEnding else ⟨.lineFault, 0, false, e.abortMark⟩

/-- The outcome of an EXCHANGE entry's exchange reaches the request engine (R66). -/
def requestOutcome (l : LineId) (o : ExchangeEnd) (cmds : Nat) (s : State) : State :=
  match (s.line l).findEntry (fun e => e.isDoing .onLine) with
  | none => s
  | some (i, e0) =>
    let e := e0.addAttempts cmds
    match o with
    | .success _ _ payload => deliverResponse l i e payload s
    | .refused reason => finishEntry l i e ⟨.refused, reason, false, false⟩ s
    | .noResponse => finishEntry l i e ⟨.noResponse, 0, false, false⟩ s
    | .badFrame => finishEntry l i e ⟨.badFrame, 0, false, false⟩ s
    | .busy => busyOutcome l i e s
    | .stopped _ => finishEntry l i e (stoppedEnding s e) s
    | .lineFault => finishEntry l i e (faultEnding s e) s

/-- A SEND's DAT transmission ended SENT or COLLIDED (R70). -/
def sendOutcome (l : LineId) (sent : Bool) (s : State) : State :=
  match (s.line l).findEntry (fun e => e.isDoing .onLine) with
  | none => s
  | some (i, e) =>
    finishEntry l i { e with attempts := 1 } ⟨if sent then .ok else .badFrame, 0, false, false⟩ s

/-! ## LINE_CONFIG (R31 to R36) -/

/-- The copy of the set in force, when the request asks for one (R35). -/
def writeParamsCopy (l : LineId) (inCapacity : Nat) (inAddress : Addr) (s : State) : State :=
  if inCapacity = 0 then s else s.hostWrite inAddress (s.line l).params.toBlock

/-- A LINE_CONFIG completes, its copy written first (R35). -/
def finishConfig (l : LineId) (i : Nat) (e : Entry) (how : Ending) (s : State) : State :=
  match e.body with
  | .lineConfig _ _ _ inCapacity inAddress => finishEntry l i e how (writeParamsCopy l inCapacity inAddress s)
  | _ => finishEntry l i e how s

/-- Whether the order in flight is a slot's and its frame has not begun (R116). -/
def Line.slotWaitsGap (x : Line) : Bool :=
  match x.job with
  | some ⟨k, .gapWait _⟩ => k.isSlot
  | _ => false

/-- The parameter set of a line replaced. A slot whose frame waits for new LINK values takes the gap from them (R33; log entry 16). -/
def Line.setParams (x : Line) (link : Bool) (p : Params) : Line :=
  { x with
    params := p
    job := if link && x.slotWaitsGap then x.job.map (fun j => { j with stage := .gapWait p.gap }) else x.job }

/-- The named groups are installed; a HEALTH change re-evaluates the station records, and attention collection turned on may begin a starvation episode
(R35 step 1, R50, R140). -/
def installParams (l : LineId) (m : GroupMask) (new : Params) (s : State) : State :=
  let old := (s.line l).params
  let s := s.updLine l (fun x => x.setParams m.link (old.install m new))
  checkStarved l (if m.health then reevaluate l old.offlineThreshold new.offlineThreshold s else s)

/-- A LINE_CONFIG acts on the oldest entry `e` (R33, R35). -/
def actConfig (l : LineId) (e : Entry) (m : GroupMask) (defaults : Bool) (outAddress : Addr) (s : State) : State :=
  let x := s.line l
  if m.link && x.engine.runs then finishConfig l 0 e ⟨.busySchedule, 0, false, false⟩ s
  else if m.link && decide (x.state = .faulted) then finishConfig l 0 e ⟨.lineFault, 0, false, false⟩ s
  else if !m.isEmpty && !defaults then
    (putEntry l 0 { e with state := .inFlight (.blockRead s.nextRead) } s).issueRead (.parameters l) outAddress 24
  else finishConfig l 0 e ⟨.ok, m.code, false, false⟩ (installParams l m Params.default s)

/-- A Line Parameter Block read has ended for the entry `e` at place `i` (R33 to R35, R163; log entry 15). The values are installed, and the records
re-evaluated, at this moment, with an order in flight too (R32, R50; log entry 32). -/
def endBlockRead (l : LineId) (i : Nat) (e : Entry) (m : GroupMask) (data : Option (List Byte)) (s : State) : State :=
  if m.link && decide ((s.line l).state = .faulted) then finishConfig l i e ⟨.lineFault, 0, false, false⟩ s
  else match data with
  | none => finishConfig l i e ⟨.badAddress, 0, false, false⟩ s
  | some d =>
    match badParameter m d with
    | some bad => finishConfig l i e ⟨.badRequest, bad, false, false⟩ s
    | none => finishConfig l i e ⟨.ok, m.code, false, false⟩ (installParams l m (Params.ofBlock d) s)

end Sys2Proof.Machine
end

