-- ==== Sys2Proof/Machine/LineControl.lean ====
section
/-! DEFINITION. The line controller: attempts and exchanges, DAT outcomes, received frames, the line arbiter's choice, and entry to FAULTED
(R8 to R21, R128 to R132, R159 to R164). -/

namespace Sys2Proof.Machine

/-! ## Attempts and exchanges -/

/-- The outcome of an exchange whose budget an attempt used up (R17). -/
def spentOutcome : AttemptEnd → ExchangeEnd
  | .timeout => .noResponse
  | .nakSeq => .refused 3
  | _ => .badFrame

/-- An exchange after an attempt: its working values, and its outcome when it ends (R14, R16, R17, R18). -/
def Exchange.afterAttempt (x : Exchange) (a : AttemptEnd) : Exchange × Option ExchangeEnd :=
  match a with
  | .success attn function payload => (x, some (.success attn function payload))
  | .nakBusy => (x, some .busy)
  | .nakRefused => (x, some (.refused 2))
  | .nakSeq =>
    if x.nakSeqSeen then
      let x' := { x with used := x.used + 1 }
      (x', if x.retryLimit + 1 ≤ x'.used then some (.refused 3) else if x.stopMark then some (.stopped .nakSeq) else none)
    else ({ x with resync := true, nakSeqSeen := true }, if x.stopMark then some (.stopped .nakSeq) else none)
  | a =>
    let x' := { x with used := x.used + 1 }
    (x', if x.retryLimit + 1 ≤ x'.used then some (spentOutcome a) else if x.stopMark then some (.stopped a) else none)

/-- The outcome of an exchange is handed to its claimant (R19). -/
def deliverExchange (l : LineId) (x : Exchange) (o : ExchangeEnd) (s : State) : State :=
  match x.claimant with
  | .requestEngine => requestOutcome l o x.cmds s
  | .cycleEngine => pollOutcome l o s
  | .collector => fetchOutcome l x.station o s
  | .wakeSequence => rollNext l s

/-- Nothing is in flight on the line any more. -/
def clearJob (l : LineId) (s : State) : State := s.updLine l (fun x => { x with job := none })

/-- An exchange ends: its report is applied with the events it brings about, a starvation among them, and then its outcome is handed to the claimant
(R19, R39, R100, R140). -/
def endExchange (l : LineId) (x : Exchange) (o : ExchangeEnd) (s : State) : State :=
  deliverExchange l x o (checkStarved l (reportOutcome l x.station o (clearJob l s)))

/-- An attempt of the exchange `x` ended: the exchange ends or makes a further attempt, which waits for the gap (R14, R11). -/
def endAttempt (l : LineId) (x : Exchange) (a : AttemptEnd) (s : State) : State :=
  match x.afterAttempt a with
  | (x', some o) => endExchange l x' o s
  | (x', none) => giveJob l (.exchange x') s

/-- The outcome of a DAT that was not cut by a fault reaches its claimant (R21, R70, R117). -/
def endData (l : LineId) (d : DataOrder) (sent : Bool) (s : State) : State :=
  let s := clearJob l s
  match d.claimant with
  | .cycleEngine => endSlot l (if sent then .ok else .badFrame) s
  | .requestEngine => sendOutcome l sent s
  | _ => s

/-- Whether an entry is a LINE_CONFIG that names LINK and reads its Line Parameter Block (R33). -/
def Entry.readsLink (e : Entry) : Bool :=
  match e.state, e.body with
  | .inFlight (.blockRead _), .lineConfig m _ _ _ _ => m.link
  | _, _ => false

/-- Whether the frame a line has ready waits for new LINK values. A slot that is in flight while they are being read belongs to a cycle STARTed in that time,
which runs under them from its first slot on, so its frame does not begin before the read has ended (R33; log entry 16). -/
def Line.awaitsLink (x : Line) : Bool := x.slotWaitsGap && x.entries.any Entry.readsLink

/-- A frame from the master reached its last octet with readback intact: the consecutive collision count goes back to 0 (R9). -/
def clearConsecutive (l : LineId) (s : State) : State :=
  s.updLine l (fun x => { x with consecutiveCollisions := 0 })

/-! ## Entry to FAULTED (R162 to R164, R177) -/

/-- The attempts that a cut order adds to its request (R20, R70, R163). -/
def Entry.addCut (e : Entry) (cut : Option Job) : Entry :=
  match cut with
  | some ⟨.exchange x, _⟩ => if x.claimant = .requestEngine then e.addAttempts x.cmds else e
  | some ⟨.data _, .sending _ _⟩ => { e with attempts := 1 }
  | _ => e

/-- Whether an entry is completed by its line's entry to FAULTED (R163). -/
def Body.endsOnFault (b : Body) : Bool :=
  b.isTraffic || match b with
    | .rest => true
    | .wake => true
    | _ => false

/-- The request engine's action on the entry: traffic, REST and WAKE entries complete, oldest first (R163, R177). -/
def faultRequests (l : LineId) (cut : Option Job) (s : State) : State :=
  let s := s.updLine l (fun x =>
    { x with entries := x.entries.map (fun e => if e.isDoing .onLine then e.addCut cut else e) })
  finishAll l (fun e => e.body.endsOnFault) (faultEnding s) s

/-- The collector's action on the entry: a FETCH cut moves the rotation on (R164). -/
def faultCollector (l : LineId) (cut : Option Job) (s : State) : State :=
  match cut with
  | some ⟨.exchange x, _⟩ => if x.claimant = .collector then moveRotation l x.station s else s
  | _ => s

/-- Step 1 of the entry: work on the wire is cut, the wake episode ends, the detector is disarmed and the timers stop; a frame still
arriving is no answer any more (R162, R20). -/
def Line.cutForFault (x : Line) : Line :=
  { x with
    job := none
    reception := x.reception.map (fun r => { r with role := .other })
    detector := .disarmed
    wake := WakeSequence.fresh }

/-- The line enters FAULTED (R162). `cycleFirst` says which of the cycle engine and the request engine acts first (log entry 7). -/
def enterFaulted (l : LineId) (reason : LineReason) (cycleFirst : Bool) (s : State) : State :=
  let cut := (s.line l).job
  let old := (s.line l).state
  let s := s.updLine l (fun x =>
    { x.cutForFault with
      state := .faulted
      counters := { x.counters with faultsEntered := x.counters.faultsEntered + 1 } })
  let s := raiseEvent (.lineState l old .faulted reason) (writeCounters l s)
  let s := if cycleFirst then faultRequests l cut (haltEngine l s) else haltEngine l (faultRequests l cut s)
  faultCollector l cut s

/-- What a collision below the collision limit does to the transmission it cut (R9, R21, R147, R156, R157). -/
def endCollided (l : LineId) (j : JobKind) (s : State) : State :=
  match j with
  | .exchange x => endAttempt l x .collision s
  | .data d => endData l d false s
  | .wack a => giveJob l (.wack a) s
  | .quiet =>
    if s.run = .stopping then
      finishFirst l (fun e => e.isDoing .quiescing) stopEnding (endEpisode l (clearJob l s))
    else giveJob l .quiet s
  | .tone _ => s

/-! ## Reception (R6 to R8, R12, R153) -/

/-- To whom a frame that begins now will go (R8). -/
def Line.receptionRole (x : Line) : RxRole :=
  match x.job with
  | some ⟨.exchange _, .awaiting⟩ => .answer
  | some ⟨.exchange _, .answering⟩ => .answer
  | _ => if x.wake.phase = .listen ∧ x.wake.windowTimer.isSome then .window else .other

/-- The rate and coding that a frame beginning now is sent or received under (R1, R27). -/
def Params.signalling (p : Params) : Signalling := ⟨p.rate, p.coding⟩

/-- The first octet of a frame stops the response timeout or the window timer; the frame keeps the signalling then in force (R12, R27, R153). -/
def Line.beginReception (x : Line) : Line :=
  match x.receptionRole with
  | .answer => { x with reception := some ⟨.answer, x.params.signalling⟩, job := x.job.map (fun j => { j with stage := .answering }) }
  | .window => { x with reception := some ⟨.window, x.params.signalling⟩, wake := { x.wake with windowTimer := none } }
  | .other => { x with reception := some ⟨.other, x.params.signalling⟩ }

/-- Line activity ends a recovery watch STILL_FAULTED, with the line as it was (R166). -/
def endWatch (l : LineId) (s : State) : State :=
  finishFirst l (fun e => e.isDoing .watching) ⟨.stillFaulted, 0, false, false⟩ s

/-- The first octet of a frame is received: it is line activity, and the frame begins (R6, R8, R166). -/
def frameStart (l : LineId) (s : State) : State := (endWatch l s).updLine l Line.beginReception

/-- What the line showed before the reception `rx` ended. A frame whose start was not told begins now (log entry 17). The last octet of a frame that ends with its
second CRC octet is line activity, and ends a recovery watch; a broken frame ends when the line has been idle for more than 4 bit times, which is none (R2,
R6, R166; log entry 28). -/
def frameArrival (l : LineId) (rx : Reception) (s : State) : State :=
  match (s.line l).reception with
  | none => frameStart l s
  | some r => if endsWithCrc rx && decide (r.role = .other) then endWatch l s else s

/-- Whether the receiver of a line takes frames: the line is not OFF, or it was taken to OFF by the stop whose event drain still runs (R168, R178; log
entry 19). -/
def State.receives (s : State) (l : LineId) : Bool :=
  decide ((s.line l).state ≠ .off) || decide (s.run = .stopping) && (s.context.lineSection l).enable

/-- Whether the master is transmitting, so that what it decodes is readback or its own tone (R6, R143). -/
def Line.transmitting (x : Line) : Bool :=
  match x.job with
  | some ⟨_, .sending _ _⟩ => true
  | some ⟨_, .toning⟩ => true
  | _ => false

/-- A frame that fails the CRC check adds to the CRC error counter, wherever it is received (R7). -/
def countCrc (l : LineId) (c : RxCheck) (s : State) : State :=
  if c = .crcError then countOnLine l (fun k => { k with crcErrors := k.crcErrors + 1 }) s else s

/-- A received frame has been checked and is delivered (R8, R13, R153). -/
def deliverFrame (l : LineId) (role : RxRole) (c : RxCheck) (s : State) : State :=
  match role with
  | .answer =>
    match (s.line l).job with
    | some ⟨.exchange x, _⟩ => endAttempt l x (classifyAnswer x c) s
    | _ => s
  | .window => decideWindow l c s
  | .other =>
    match c with
    | .wellFormed _ => countOnLine l (fun k => { k with strayFrames := k.strayFrames + 1 }) s
    | _ => s

/-! ## The line arbiter (R128 to R132) -/

/-- The claims the arbiter may grant (R128). -/
inductive Claim where
  | start | slot | traffic | barrier | fetch
deriving DecidableEq, Repr

/-- The cycle engine's claim for the slot at the cursor (R116, R128). -/
def Engine.slotClaim (e : Engine) : Option Claim :=
  match e.stage with
  | .claiming _ => some .slot
  | _ => none

/-- Whether an entry waits for the grant with a traffic order (R65). -/
def Entry.awaitsGrant (e : Entry) : Bool :=
  match e.state with
  | .inFlight (.awaitGrant _) => true
  | _ => false

/-- The request engine's claim (R128). -/
def Line.requestClaim (x : Line) : Option Claim :=
  if x.entries.any Entry.awaitsGrant then some .traffic
  else if x.entries.any (fun e => e.isDoing .restClaim) then some .barrier
  else none

/-- The arbiter's choice among the claims in place: the schedule first, a pending start before a due slot, then the acyclic claimants in turn (R112, R130). -/
def Line.choose (x : Line) : Option Claim :=
  if x.engine.pendingStart then some .start
  else if x.engine.state = .inCycle then x.engine.slotClaim
  else match x.requestClaim, x.collector.claim with
  | none, false => none
  | none, true => some .fetch
  | some r, false => some r
  | some r, true => if x.lastGrantee = .requestEngine then some .fetch else some r

/-- The last acyclic grantee set (R131). -/
def setGrantee (l : LineId) (g : Grantee) (s : State) : State := s.updLine l (fun x => { x with lastGrantee := g })

/-- The grant of a due slot: it is judged again and its order handed, or it is skipped and the grant lapses (R116). -/
def grantSlot (l : LineId) (s : State) : State :=
  let x := s.line l
  match x.engine.stage, x.engine.remaining with
  | .claiming payload, n :: _ =>
    match x.engine.activeBank.cell n with
    | none => s
    | some c =>
      match x.judgeSlot c.slot with
      | some result => endSlot l result s
      | none =>
        let s := updEngine l (fun e => { e with stage := .inFlight }) s
        match c.slot.kind with
        | .poll => handExchange l c.slot.station c.slot.function payload x.params.slotRetryLimit .cycleEngine s
        | .output => giveJob l (.data ⟨c.slot.station, c.slot.function, payload, .cycleEngine⟩) s
  | _, _ => s

/-- The grant of a traffic claim (R65, R131). -/
def grantRequest (l : LineId) (s : State) : State :=
  let s := setGrantee l .requestEngine s
  match (s.line l).findEntry Entry.awaitsGrant with
  | some (i, e) =>
    match e.state with
    | .inFlight (.awaitGrant payload) => grantTraffic l i e payload s
    | _ => s
  | none => s

/-- The status with which a REST is refused for the schedule's or the attention set's sake (R145 checks 3 and 4). -/
def Line.restRefusal (x : Line) : Option Status :=
  if x.engine.runs then some .busySchedule
  else if x.params.attentionCollection && !x.attentionSet.isEmpty then some .attentionPending
  else none

/-- The grant of a REST's BARRIER claim: its checks are made again, and the line goes to QUIESCING, or the grant lapses (R146). -/
def grantRest (l : LineId) (s : State) : State :=
  let s := setGrantee l .requestEngine s
  match (s.line l).findEntry (fun e => e.isDoing .restClaim) with
  | none => s
  | some (i, e) =>
    match (s.line l).restRefusal with
    | some status => finishEntry l i e ⟨status, 0, false, false⟩ s
    | none =>
      let s := putEntry l i { e with state := .inFlight .quiescing } s
      let s := moveLine l .quiescing .restRequest s
      giveJob l .quiet (updWake l (fun w => { w with phase := .quiet1 }) s)

/-- The grant of the collector's claim: a FETCH order, or the grant lapses (R135). -/
def grantFetch (l : LineId) (s : State) : State :=
  let s := (setGrantee l .collector s).updLine l (fun x => { x with collector := { x.collector with claim := false } })
  let x := s.line l
  if s.wantsFetch l && !x.buffers.held.isEmpty then
    match x.fetchChoice with
    | some a => handExchange l a Config.fetchFunction [] x.params.retryLimit .collector s
    | none => s
  else s

/-- A claim is granted (R132). -/
def grant (l : LineId) (c : Claim) (s : State) : State :=
  match c with
  | .start => takeStart l s
  | .slot => grantSlot l s
  | .traffic => grantRequest l s
  | .barrier => grantRest l s
  | .fetch => grantFetch l s

end Sys2Proof.Machine
end

