-- ==== Sys2Proof/Machine/RunControl.lean ====
section
/-! DEFINITION. Run control: start, stop, device reset, and the register window as the host reads it (R169 to R179). -/

namespace Sys2Proof.Machine

/-! ## The register window (R169) -/

/-- The registers of the window (R169). -/
inductive Register where
  | ident | dctl | dstat | faultinfo | ctxlo | ctxhi | notify | irqpend
deriving DecidableEq, Repr

/-- Whether ENABLE reads as set (R170). -/
def RunState.enableReads : RunState → Bool
  | .starting | .running | .fault => true
  | _ => false

/-- What a read of a register returns (R169; spec/11, Registers). -/
def State.readRegister (s : State) : Register → Word
  | .ident => BitVec.ofNat 32 (Config.familyCode * 0x10000 + Config.revision)
  | .dctl => BitVec.ofNat 32 (bitNat s.run.enableReads)
  | .dstat =>
    BitVec.ofNat 32 (runStateCode s.run + 0x100 * lineStateCode s.line0.state + 0x1000 * lineStateCode s.line1.state)
  | .faultinfo => BitVec.ofNat 32
    (faultCode s.faultInfo.code + 0x100 * (s.faultInfo.detail % 256) + 0x10000 * (s.faultInfo.line % 2))
  | .ctxlo => s.ctxLo
  | .ctxhi => s.ctxHi
  | .notify => 0
  | .irqpend =>
    BitVec.ofNat 32 (bitNat s.vector0.pending + 2 * bitNat s.vector1.pending + 4 * bitNat s.vector2.pending)

/-- The Device Context Block address (R172). -/
def State.contextAddress (s : State) : Addr := s.ctxHi ++ s.ctxLo

/-! ## Start (R173, R174) -/

/-- A start fails: FAULTINFO and FAULT, and for a failure at check 6 or later the write of the start fault echo into the index page at
`page` (R173). -/
def failStart (f : FaultInfo) (page : Addr) (s : State) : State :=
  let s := { s with run := .fault, faultInfo := f, contextRead := none }
  if echoesFault f then s.hostWrite (addrPlus page startFaultOffset) [byteOf (faultCode f.code)] else s

/-- A line as step 4 of the initialisation sets it (R174). -/
def LineSection.startLine (sec : LineSection) : Line := Line.fresh sec.loadedParams (sec.completionRing.size - 1)

/-- An enabled line is moved from OFF to ACTIVE (R174 step 6). -/
def bringUp (l : LineId) (s : State) : State :=
  if (s.context.lineSection l).enable then moveLine l .active .start s else s

/-- Run control initialises the part (R174). -/
def initialise (c : ContextBlock) (s : State) : State :=
  let s := ({ s with context := c, contextRead := none } : State).hostWrite c.indexPage (zeros 256)
  let s : State :=
    { s with
      events := EventUnit.fresh
      vector0 := VectorState.fresh
      vector1 := VectorState.fresh
      vector2 := VectorState.fresh
      drain := none
      line0 := c.section0.startLine
      line1 := c.section1.startLine
      run := .running }
  bringUp .line1 (bringUp .line0 s)

/-- The read of the Device Context Block has ended while the device is STARTING: checks 2 to 10 (R173). -/
def endContextRead (data : Option (List Byte)) (s : State) : State :=
  match data with
  | none => failStart ⟨.contextReadError, 0, 0⟩ 0 s
  | some d =>
    match contextFault d with
    | some f => failStart f (parseContext d).indexPage s
    | none => initialise (parseContext d) s

/-! ## Reset and the end of a stop (R178, R179) -/

/-- Every block's state is discarded and the run state is OFF; the registers CTXLO, CTXHI and FAULTINFO, the queue, and the record of what
the host port has issued stay (R178, R179; log entries 4 and 6). -/
def State.discard (s : State) : State :=
  { State.reset with
    pending := s.pending
    faultInfo := s.faultInfo
    ctxLo := s.ctxLo
    ctxHi := s.ctxHi
    reads := s.reads
    nextRead := s.nextRead
    port := s.port }

/-- A device reset; `keep` says whether CTXLO and CTXHI are kept (R179, R169). -/
def deviceReset (keep : Bool) (s : State) : State :=
  let s := clearVectors s
  { s.discard with
    faultInfo := FaultInfo.clear
    ctxLo := if keep then s.ctxLo else 0
    ctxHi := if keep then s.ctxHi else 0 }

/-- The end of the event drain ends the stop (R178; log entry 27). -/
def endStop (s : State) : State :=
  let s := { s with events := { s.events with backlog := [], lossCount := 0, firstLost := none } }
  let s := raiseUnreported .vector2 (raiseUnreported .vector1 (raiseUnreported .vector0 s))
  (clearVectors s).discard

/-- The drain ends when the backlog is empty and the loss count 0 (R178). -/
def finishDrain (s : State) : State :=
  if s.drain.isSome ∧ s.events.backlog = [] ∧ s.events.lossCount = 0 then endStop s else s

/-! ## Entry to STOPPING (R176, R177) -/

/-- The wake sequence's action on the entry to STOPPING (R157): the detector is disarmed at REST and while QUIESCING, and an episode in
QUIESCE ends. -/
def Line.stopWake (x : Line) : Line :=
  match x.state with
  | .rest => { x with detector := .disarmed }
  | .quiescing =>
    if x.wake.phase = .quiesce then { x with detector := .disarmed, wake := WakeSequence.fresh }
    else { x with detector := .disarmed }
  | _ => x

/-- The entries that the walk of a stop does not complete at once: traffic whose order is in flight, a REST whose QUIET is in flight, a
WAKE whose episode is under way (R177). -/
def Line.outlivesWalk (x : Line) (e : Entry) : Bool :=
  match e.state with
  | .inFlight .onLine => e.body.isTraffic
  | .inFlight .quiescing => decide (x.wake.phase = .quiet1) || decide (x.wake.phase = .quiet2)
  | .inFlight .waking => decide (x.wake.phase ≠ .none)
  | _ => false

/-- The request engine's walk at the entry to STOPPING; the staged record completes last (R177). Its completions come before that of a record whose
fetch is in flight (R81; log entry 36). -/
def stopRequests (l : LineId) (s : State) : State :=
  let x := s.line l
  let s := finishAll l (fun e => !x.outlivesWalk e) (fun _ => stopEnding) s
  match x.intake.staged with
  | none => s
  | some e =>
    completeEntry l stopEnding (s.updLine l (fun x => { x with intake := { x.intake with staged := none } })) e

/-- The action of a line's blocks on the entry to STOPPING (R176). `cycleFirst` says which of the cycle engine and the request engine acts
first (log entry 8). -/
def stopLine (cycleFirst : Bool) (l : LineId) (s : State) : State :=
  let s := s.updLine l (fun x =>
    { x.stopWake with job := x.job.map Job.marked, collector := { x.collector with claim := false } })
  if cycleFirst then stopRequests l (stopEngine l s) else stopEngine l (stopRequests l s)

/-- The entry to STOPPING (R176). -/
def beginStop (line1First cycleFirst : Bool) (s : State) : State :=
  let s := { s with run := .stopping }
  if line1First then stopLine cycleFirst .line0 (stopLine cycleFirst .line1 s)
  else stopLine cycleFirst .line1 (stopLine cycleFirst .line0 s)

/-- Whether a line has no work left that a stop waits for (R178). -/
def Line.workEnded (x : Line) : Bool :=
  x.entries.isEmpty && x.intake.staged.isNone && x.intake.fetch.isNone && x.buffers.fetch.isNone && x.job.isNone
    && decide (x.wake.phase = .none) && decide (x.engine.state = .stopped) && x.buffers.held.isEmpty

/-- A line that is not OFF goes to OFF at the end of a stop's line work (R178). Its receiver goes on during the event drain (log entry 19). -/
def takeDown (l : LineId) (s : State) : State :=
  if (s.line l).state = .off then s
  else (moveLine l .off .deviceStop s).updLine l (fun x => { x with detector := .disarmed })

/-- The end of a stop's line work: both lines go to OFF and the event drain begins (R178). -/
def endLineWork (s : State) : State :=
  let s := takeDown .line1 (takeDown .line0 s)
  finishDrain { s with drain := some Config.eventDrain }

/-! ## NOTIFY (R171) -/

/-- A NOTIFY is rejected (R93). -/
def rejectNotify (l : Option LineId) (ringId : Nat) (value held : Half) (s : State) : State :=
  raiseEvent (.notifyRejected l ringId value held) s

/-- The limits of a producer NOTIFY: advance at most the ring size, outstanding at most the size minus 1 (R57, R84). -/
def producerOk (value held base : Half) (size : Nat) : Bool :=
  decide ((value - held).toNat ≤ size) && decide ((value - base).toNat ≤ size - 1)

/-- The test of a consumer NOTIFY (R82, R92). -/
def consumerOk (value consumer producer : Half) : Bool :=
  decide ((value - consumer).toNat ≤ (producer - consumer).toNat)

/-- A request producer NOTIFY that is acted on (R57, R171). -/
def notifyRequest (l : LineId) (value : Half) (s : State) : State :=
  let sec := s.context.lineSection l
  let k := (s.line l).intake
  if sec.enable && producerOk value k.producer k.consumer sec.requestRing.size then
    s.updLine l (fun x => { x with intake := { k with producer := value } })
  else rejectNotify (some l) (requestRingId l) value (if sec.enable then k.producer else 0) s

/-- A buffer producer NOTIFY that is acted on (R84, R171). -/
def notifyBuffer (l : LineId) (value : Half) (s : State) : State :=
  let sec := s.context.lineSection l
  let b := (s.line l).buffers
  if sec.enable && producerOk value b.producer b.writeBack sec.bufferRing.size then
    s.updLine l (fun x => { x with buffers := { b with producer := value } })
  else rejectNotify (some l) (bufferRingId l) value (if sec.enable then b.producer else 0) s

/-- A completion consumer NOTIFY that is acted on: it releases records and returns credit (R82, R171). -/
def notifyCompletion (l : LineId) (value : Half) (s : State) : State :=
  let sec := s.context.lineSection l
  let c := (s.line l).completion
  if sec.enable && consumerOk value c.consumer c.producer then
    s.updLine l (fun x =>
      { x with completion := { c with consumer := value, credit := c.credit + (value - c.consumer).toNat } })
  else rejectNotify (some l) (completionRingId l) value (if sec.enable then c.consumer else 0) s

/-- An event consumer NOTIFY that is acted on: it releases records and drains the backlog (R92). -/
def notifyEvent (value : Half) (s : State) : State :=
  if consumerOk value s.events.consumer s.events.producer then
    drainEvents { s with events := { s.events with consumer := value } }
  else rejectNotify none 0 value s.events.consumer s

end Sys2Proof.Machine
end

