-- ==== Sys2Proof/Machine/HostReads.lean ====
section
/-! DEFINITION. What the end of a host memory read does to the block that asked for it. A read its block has abandoned is discarded when it
ends (R180). -/

namespace Sys2Proof.Machine

/-- The outcome of a command. -/
abbrev Result := Host.Outcome State Fault Refusal

/-- The Device Context Block read (R173). -/
def contextEnded (id : Nat) (data : Option (List Byte)) (s : State) : State :=
  if s.contextRead = some id then endContextRead data s else s

/-- A request record read (R59). -/
def requestEnded (l : LineId) (id : Nat) (data : Option (List Byte)) (s : State) : State :=
  if (s.line l).intake.fetch = some id then endRequestRead l data s else s

/-- A buffer descriptor read (R85, R86). -/
def descriptorEnded (l : LineId) (id : Nat) (data : Option (List Byte)) (s : State) : State :=
  if (s.line l).buffers.fetch = some id then settle l (endDescriptorRead l data s) else s

/-- An out payload read (R65). -/
def payloadEnded (l : LineId) (id : Nat) (data : Option (List Byte)) (s : State) : State :=
  match (s.line l).findEntry (fun e => e.isDoing (.payloadRead id)) with
  | some (i, e) => endPayloadRead l i e data s
  | none => s

/-- A Line Parameter Block read (R33). -/
def parametersEnded (l : LineId) (id : Nat) (data : Option (List Byte)) (s : State) : State :=
  match (s.line l).findEntry (fun e => e.isDoing (.blockRead id)) with
  | some (i, e) =>
    match e.body with
    | .lineConfig m _ _ _ _ => settle l (endBlockRead l i e m data s)
    | _ => s
  | none => s

/-- A slot table read (R105). -/
def slotTableEnded (l : LineId) (id : Nat) (data : Option (List Byte)) (s : State) : State :=
  match (s.line l).findEntry (fun e => e.isDoing (.tableRead id)) with
  | some (i, e) => endTableRead l i e data s
  | none => s

/-- A slot output data read (R116). -/
def slotOutputEnded (l : LineId) (id : Nat) (data : Option (List Byte)) (s : State) : State :=
  if (s.line l).engine.stage = .outputRead id then
    match data with
    | none => endSlot l .hostError s
    | some d => updEngine l (fun e => { e with stage := .claiming d }) s
  else s

/-- The block that asked for a read acts on its end (R180). -/
def readEnded (r : HostRead) (data : Option (List Byte)) (s : State) : State :=
  match r.reader with
  | .context => contextEnded r.id data s
  | .request l => requestEnded l r.id data s
  | .descriptor l => descriptorEnded l r.id data s
  | .payload l => payloadEnded l r.id data s
  | .parameters l => parametersEnded l r.id data s
  | .slotTable l => slotTableEnded l r.id data s
  | .slotOutput l => slotOutputEnded l r.id data s

/-- The read `id`, if outstanding for this reader, ends with this result; otherwise nothing happens (R180; log entries 3 and 5). -/
def finishRead (reader : Reader) (id : Nat) (result : ReadResult) (s : State) : State :=
  match s.findRead id with
  | some r => if r.reader = reader then readEnded r (r.data result) (s.endRead id) else s
  | none => s

end Sys2Proof.Machine
end

