-- ==== Sys2Proof/Machine/HostCommands.lean ====
section
/-! DEFINITION. The meanings of the commands of the reset pins and of the register window: DCTL, NOTIFY, IRQPEND, CTXLO and CTXHI (R169 to R171,
R179). -/

namespace Sys2Proof.Machine

/-- POWER_ON: a device reset that clears CTXLO and CTXHI (R179, R169). -/
def execPowerOn (s : State) : Result := .next (deviceReset false s)

/-- NRESET: a device reset in any run state (R179, R169). -/
def execNReset (s : State) : Result := .next (deviceReset false s)

/-- A DCTL write with RESET set, whatever its ENABLE position: a device reset that keeps CTXLO and CTXHI (R170, R179). -/
def execDctlReset (_enable : Bool) (s : State) : Result := .next (deviceReset true s)

/-- A DCTL write with ENABLE set: in OFF the start begins, or ends in FAULT when the context address is misaligned; elsewhere it changes nothing
(R170, R173 check 1). -/
def execDctlEnableSet (s : State) : Result :=
  match s.run with
  | .off =>
    if aligned64 s.contextAddress then
      .next (({ s with run := .starting, faultInfo := FaultInfo.clear, contextRead := some s.nextRead } : State).issueRead
        .context s.contextAddress 512)
    else .next (failStart ⟨.badContextAddress, s.contextAddress.toNat % 64, 0⟩ 0 s)
  | _ => .next s

/-- A DCTL write with ENABLE clear: a start is abandoned, a running device begins to stop, FAULT goes to OFF; elsewhere it changes nothing (R170,
R176). -/
def execDctlEnableClear (line1First cycleFirst : Bool) (s : State) : Result :=
  match s.run with
  | .starting => .next { s with run := .off, contextRead := none }
  | .running => .next (beginStop line1First cycleFirst s)
  | .fault => .next { s with run := .off }
  | _ => .next s

/-- A NOTIFY naming a request producer: acted on in RUNNING (R57, R171). -/
def execNotifyRequestProducer (l : LineId) (value : Half) (s : State) : Result :=
  match s.run with
  | .running => .next (notifyRequest l value s)
  | _ => .next s

/-- A NOTIFY naming a buffer producer: acted on in RUNNING (R84, R171). -/
def execNotifyBufferProducer (l : LineId) (value : Half) (s : State) : Result :=
  match s.run with
  | .running => .next (notifyBuffer l value s)
  | _ => .next s

/-- A NOTIFY naming a completion consumer: acted on in RUNNING and STOPPING (R82, R171). -/
def execNotifyCompletionConsumer (l : LineId) (value : Half) (s : State) : Result :=
  match s.run with
  | .running | .stopping => .next (notifyCompletion l value s)
  | _ => .next s

/-- A NOTIFY naming the event consumer: acted on in RUNNING and STOPPING; it may end the event drain of a stop (R92, R171, R178). -/
def execNotifyEventConsumer (value : Half) (s : State) : Result :=
  match s.run with
  | .running | .stopping => .next (finishDrain (notifyEvent value s))
  | _ => .next s

/-- A NOTIFY with ring id 7: rejected in RUNNING, elsewhere discarded without an event (R171). -/
def execNotifyRingId7 (value : Half) (s : State) : Result :=
  match s.run with
  | .running => .next (rejectNotify none 7 value 0 s)
  | _ => .next s

/-- A write to IRQPEND acknowledges every vector whose position is written with 1 (R97). -/
def execIrqpendAcknowledge (v0 v1 v2 : Bool) (s : State) : Result := .next (acknowledge v0 v1 v2 s)

/-- A write to CTXLO or CTXHI replaces the held value in OFF and FAULT; a write to a read-only register has no effect (R169). -/
def execRegisterWrite (r : PlainRegister) (value : Word) (s : State) : Result :=
  match r, s.run with
  | .ctxlo, .off | .ctxlo, .fault => .next { s with ctxLo := value }
  | .ctxhi, .off | .ctxhi, .fault => .next { s with ctxHi := value }
  | _, _ => .next s

/-- A vector's hold timer expires (R96). -/
def execHoldTimerExpiry (v : VectorId) (s : State) : Result := .next (expireHold v s)

/-- The event unit drains its backlog; in the event drain of a stop this may end the stop (R91, R178). -/
def execEventBacklogDrain (s : State) : Result := .next (finishDrain (drainEvents s))

/-- In STOPPING, once no FETCH and no descriptor fetch is in flight, every held descriptor is written back (R88, R176; log entry 21). -/
def execBufferReturnAtStop (l : LineId) (s : State) : Result :=
  let x := s.line l
  if s.run = .stopping ∧ x.fetching = false ∧ x.buffers.fetch = none then .next (returnHeld l x.buffers.held s) else .next s

/-- In STOPPING, when the line work of both lines has ended, the lines go to OFF and the event drain begins (R178). -/
def execStopLineWorkEnd (s : State) : Result :=
  if s.run = .stopping ∧ s.drain = none ∧ s.line0.workEnded = true ∧ s.line1.workEnded = true then .next (endLineWork s)
  else .next s

/-- The 10 ms of the event drain have run out: the stop ends (R178). -/
def execEventDrainExpiry (s : State) : Result :=
  if s.run = .stopping ∧ s.drain.isSome = true then .next (endStop s) else .next s

end Sys2Proof.Machine
end

