-- ==== Sys2Proof/Machine/LineCommands.lean ====
section
/-! DEFINITION. The meanings of the line arbiter's and the line controller's steps (R2, R8, R9, R11, R12, R21, R129, R147, R156, R160, R166). -/

namespace Sys2Proof.Machine

/-- The arbiter grants the line (R129, R130). One grant is made a step (log entry 10). -/
def execLineGrant (l : LineId) (s : State) : Result :=
  let x := s.line l
  if s.run = .running ∧ x.state = .active ∧ x.job = none then
    match x.choose with
    | some c => .next (grant l c s)
    | none => .next s
  else .next s

/-- The job with its frame begun: a CMD adds to the CMD frames sent (R14). -/
def JobKind.begun : JobKind → JobKind
  | .exchange x => .exchange { x with cmds := x.cmds + 1 }
  | k => k

/-- The gap has run: the frame begins, under the rate and coding now in force, unless a frame is being received (R2, R27). The frame of a slot does not begin
while a LINE_CONFIG reads the LINK values that the slot's cycle runs under (R33; log entry 16). -/
def execGapElapsed (l : LineId) (s : State) : Result :=
  match (s.line l).job, (s.line l).reception with
  | some ⟨k, .gapWait _⟩, none =>
    if (s.line l).awaitsLink then .next s
    else .next (s.updLine l (fun x => { x with job := some ⟨k.begun, .sending x.params.signalling k.frame⟩ }))
  | _, _ => .next s

/-- A readback mismatch: the transmission stops and both collision counts rise; at the collision limit the line enters FAULTED, below it the
transmission ends as collided (R9, R159). -/
def execCollision (l : LineId) (cycleFirst : Bool) (s : State) : Result :=
  match (s.line l).job with
  | some ⟨k, .sending _ _⟩ =>
    let n := (s.line l).consecutiveCollisions + 1
    let s := s.updLine l (fun x =>
      { x with
        consecutiveCollisions := n
        counters := { x.counters with collisions := x.counters.collisions + 1 } })
    if (s.line l).params.collisionLimit ≤ n then .next (enterFaulted l .collisionLimit cycleFirst s)
    else .next (settle l (endCollided l k (writeCounters l s)))
  | _ => .next s

/-- The last octet of a CMD is sent with readback intact: the response timeout starts (R9, R11). -/
def execCmdSent (l : LineId) (s : State) : Result :=
  match (s.line l).job with
  | some ⟨.exchange x, .sending _ _⟩ =>
    .next ((clearConsecutive l s).updLine l (fun y => { y with job := some ⟨.exchange x, .awaiting⟩ }))
  | _ => .next s

/-- The last octet of a DAT is sent with readback intact: it ends SENT (R9, R21). -/
def execDatSent (l : LineId) (s : State) : Result :=
  match (s.line l).job with
  | some ⟨.data d, .sending _ _⟩ => .next (endData l d true (clearConsecutive l s))
  | _ => .next s

/-- The last octet of a QUIET is sent with readback intact (R9, R147, R157, R177). -/
def execQuietSent (l : LineId) (s : State) : Result :=
  match (s.line l).job with
  | some ⟨.quiet, .sending _ _⟩ =>
    let s := clearConsecutive l s
    if s.run = .stopping then
      .next (finishFirst l (fun e => e.isDoing .quiescing) stopEnding (endEpisode l (clearJob l s)))
    else match (s.line l).wake.phase with
    | .quiet1 =>
      .next (giveJob l .quiet
        (s.updLine l (fun x => { x with detector := .armed, wake := { x.wake with phase := .quiet2 } })))
    | .quiet2 =>
      .next (s.updLine l (fun x =>
        { x with job := none, wake := { x.wake with phase := .quiesce, quiesceTimer := some x.params.quiesceTime } }))
    | _ => .next (clearJob l s)
  | _ => .next s

/-- The last octet of a WACK is sent with readback intact: the wake ends (R9, R156). -/
def execWackSent (l : LineId) (s : State) : Result :=
  match (s.line l).job with
  | some ⟨.wack _, .sending _ _⟩ => .next (settle l (finishWake l s))
  | _ => .next s

/-- The first octet of a received frame begins (R8, R12, R153, R166). -/
def execReceivedFrameStart (l : LineId) (s : State) : Result :=
  let x := s.line l
  if s.receives l = true ∧ x.transmitting = false ∧ x.reception = none then .next (frameStart l s) else .next s

/-- The response timeout expires (R11). -/
def execResponseTimeout (l : LineId) (s : State) : Result :=
  match (s.line l).job with
  | some ⟨.exchange x, .awaiting⟩ =>
    .next (settle l (endAttempt l x .timeout (countOnLine l (fun k => { k with timeouts := k.timeouts + 1 }) s)))
  | _ => .next s

/-- A received frame ends, is checked and delivered (R7, R8, R13). Its role is the one noted when it began; one that has not begun begins now (log
entry 17). -/
def execFrameReceived (l : LineId) (rx : Reception) (s : State) : Result :=
  if s.receives l = true ∧ (s.line l).transmitting = false then
    let s := frameArrival l rx s
    match (s.line l).reception with
    | some r =>
      let s := s.updLine l (fun x => { x with reception := none })
      let c := checkReception rx
      .next (settle l (deliverFrame l r.role c (countCrc l c s)))
    | none => .next s
  else .next s

/-- Whether the stuck-line watch acts: waiting for the gap, awaiting or receiving an answer, or in the listen window, and never while the wake
detector is armed (R160). -/
def Line.watchActs (x : Line) : Bool :=
  decide (x.detector ≠ .armed) && (decide (x.wake.phase = .listen) || match x.job with
    | some ⟨_, .gapWait _⟩ => true
    | some ⟨_, .awaiting⟩ => true
    | some ⟨_, .answering⟩ => true
    | _ => false)

/-- The stuck-line measure stands at 20 ms (R160). -/
def execStuckLine (l : LineId) (cycleFirst : Bool) (s : State) : Result :=
  if (s.line l).watchActs then .next (enterFaulted l .stuckLine cycleFirst s) else .next s

/-- The line stayed idle for the whole recovery watch: the line is ACTIVE, with the events of that, and then the LINE_RECOVER completes OK (R166, R100,
R140). -/
def execRecoveryWatchExpiry (l : LineId) (s : State) : Result :=
  match (s.line l).findEntry (fun e => e.isDoing .watching) with
  | some (i, e) =>
    if (s.line l).state = .faulted ∧ (s.line l).reception = none then
      .next (settle l (finishEntry l i e ⟨.ok, 0, false, false⟩ (checkStarved l (moveLine l .active .recover (clearConsecutive l s)))))
    else .next s
  | none => .next s

/-- The line is active as a recovery watch begins, or becomes active during it (R166; log entry 28). -/
def execRecoveryWatchActivity (l : LineId) (s : State) : Result := .next (endWatch l s)

end Sys2Proof.Machine
end

