-- ==== Sys2Proof/Machine/MemoryCommands.lean ====
section
/-! DEFINITION. The meanings of the steps that issue host memory reads and of those in which a read ends (R58, R59, R85, R105, R116, R173, R180). -/

namespace Sys2Proof.Machine

/-- The read of the Device Context Block ends (R173). -/
def execContextReadDone (id : Nat) (result : ReadResult) (s : State) : Result := .next (finishRead .context id result s)

/-- A read not complete within 1 ms is a read error; data that arrive later are discarded, because the read is no longer outstanding
(R180). -/
def execHostReadTimeout (id : Nat) (s : State) : Result :=
  match s.findRead id with
  | some r => .next (readEnded r none (s.endRead id))
  | none => .next s

/-- Whether intake may issue a fetch (R58). -/
def State.mayFetchRequest (s : State) (l : LineId) : Bool :=
  let k := (s.line l).intake
  decide (s.run = .running) && !k.errored && decide (k.producer ≠ k.consumer) && k.fetch.isNone && k.staged.isNone
    && decide (1 ≤ (s.line l).completion.credit)

/-- Intake issues a fetch at the consumer index and takes one credit (R58). -/
def execRequestFetchIssue (l : LineId) (s : State) : Result :=
  if s.mayFetchRequest l then
    let k := (s.line l).intake
    .next ((s.updLine l (fun x =>
      { x with
        intake := { k with fetch := some s.nextRead }
        completion := { x.completion with credit := x.completion.credit - 1 } })).issueRead (.request l)
          ((s.context.lineSection l).requestRing.position k.consumer 32) 32)
  else .next s

/-- A request record read ends (R59, R60, R61). -/
def execRequestFetchDone (l : LineId) (id : Nat) (result : ReadResult) (s : State) : Result :=
  .next (finishRead (.request l) id result s)

/-- A staged record is appended when the list has room, and acts as its class requires (R61). -/
def execStagedRecordAppend (l : LineId) (s : State) : Result :=
  match (s.line l).intake.staged with
  | some e =>
    if s.run = .running ∧ (s.line l).entries.length < Config.pendingMax then
      .next (placeEntry l e (s.updLine l (fun x => { x with intake := { x.intake with staged := none } })))
    else .next s
  | none => .next s

/-- A slot table read ends (R105). -/
def execSlotTableReadDone (l : LineId) (id : Nat) (result : ReadResult) (s : State) : Result :=
  .next (finishRead (.slotTable l) id result s)

/-- An out payload read ends (R65, R76). -/
def execPayloadReadDone (l : LineId) (id : Nat) (result : ReadResult) (s : State) : Result :=
  .next (finishRead (.payload l) id result s)

/-- A Line Parameter Block read ends (R33 to R35). -/
def execLineParameterBlockReadDone (l : LineId) (id : Nat) (result : ReadResult) (s : State) : Result :=
  .next (finishRead (.parameters l) id result s)

/-- A slot's output data read ends (R116). -/
def execSlotOutputReadDone (l : LineId) (id : Nat) (result : ReadResult) (s : State) : Result :=
  .next (finishRead (.slotOutput l) id result s)

/-- Whether the buffer unit may issue a descriptor fetch (R85). -/
def State.mayFetchDescriptor (s : State) (l : LineId) : Bool :=
  let b := (s.line l).buffers
  decide (s.run = .running) && !b.errored && decide (b.producer ≠ b.consumer) && decide (b.held.length < Config.heldMax)
    && b.fetch.isNone

/-- The buffer unit issues a descriptor fetch at the consumer index (R85). -/
def execDescriptorFetchIssue (l : LineId) (s : State) : Result :=
  if s.mayFetchDescriptor l then
    let b := (s.line l).buffers
    .next ((s.updLine l (fun x => { x with buffers := { b with fetch := some s.nextRead } })).issueRead (.descriptor l)
      ((s.context.lineSection l).bufferRing.position b.consumer 16) 16)
  else .next s

/-- A descriptor read ends (R85, R86). -/
def execDescriptorFetchDone (l : LineId) (id : Nat) (result : ReadResult) (s : State) : Result :=
  .next (finishRead (.descriptor l) id result s)

end Sys2Proof.Machine
end

