-- ==== Sys2Proof/Machine/RequestCommands.lean ====
section
/-! DEFINITION. The meanings of the request engine's steps: selection, holdoff, the barrier requests (R33, R52, R54, R64, R69, R71, R72, R145, R151,
R166). -/

namespace Sys2Proof.Machine

/-- The request engine selects the candidate (R64). One entry is selected a step (log entry 10). -/
def execTrafficSelect (l : LineId) (s : State) : Result :=
  let x := s.line l
  if s.run = .running ∧ x.maySelect = true then
    match x.candidate with
    | some i =>
      match x.entries[i]? with
      | some e => .next (selectTraffic l i e s)
      | none => .next s
    | none => .next s
  else .next s

/-- The holdoff timer of the entry taken at this ring index expires: it returns to WAITING with its busy count kept (R69). -/
def execHoldoffExpiry (l : LineId) (ringIndex : Half) (s : State) : Result :=
  match (s.line l).findEntry (fun e => decide (e.ringIndex = ringIndex) && match e.state with
    | .holdoff _ => true
    | _ => false) with
  | some (i, e) => .next (putEntry l i { e with state := .waiting } s)
  | none => .next s

/-- A STATION_SET acts as the oldest entry: its action on each record of its range, then OK with the number of records changed (R51, R52). -/
def execStationSet (l : LineId) (s : State) : Result :=
  match s.oldestWaiting l with
  | some e =>
    match e.body with
    | .stationSet first last act =>
      if (s.line l).settled then
        .next (finishEntry l 0 e ⟨.ok, (s.line l).changedBy first last act, false, false⟩ (applySet l first last act s))
      else .next s
    | _ => .next s
  | none => .next s

/-- A STATION_READ acts as the oldest entry: the images, the CLEAR step, then OK with the number of records copied (R54). -/
def execStationRead (l : LineId) (s : State) : Result :=
  match s.oldestWaiting l with
  | some e =>
    match e.body with
    | .stationRead first last clear inAddress =>
      if (s.line l).settled then
        let s := writeImages l first last inAddress s
        let s := if clear then clearStatistics l first last s else s
        .next (finishEntry l 0 e ⟨.ok, last + 1 - first, false, false⟩ s)
      else .next s
    | _ => .next s
  | none => .next s

/-- A LINE_CONFIG acts as the oldest entry (R32, R33, R35). -/
def execLineConfig (l : LineId) (s : State) : Result :=
  match s.oldestWaiting l with
  | some e =>
    match e.body with
    | .lineConfig m defaults outAddress _ _ =>
      if (s.line l).settled then .next (settle l (actConfig l e m defaults outAddress s)) else .next s
    | _ => .next s
  | none => .next s

/-- A REST acts as the oldest entry: its checks, or a BARRIER claim (R145). -/
def execRest (l : LineId) (s : State) : Result :=
  match s.oldestWaiting l with
  | some e =>
    if e.body = .rest then
      match (s.line l).state with
      | .faulted => .next (finishEntry l 0 e ⟨.lineFault, 0, false, false⟩ s)
      | .rest => .next (finishEntry l 0 e ⟨.ok, 0, false, false⟩ s)
      | .active =>
        match (s.line l).restRefusal with
        | some status => .next (finishEntry l 0 e ⟨status, 0, false, false⟩ s)
        | none => .next (putEntry l 0 { e with state := .inFlight .restClaim } s)
      | _ => .next s
    else .next s
  | none => .next s

/-- A WAKE acts as the oldest entry (R151, R152). -/
def execWake (l : LineId) (s : State) : Result :=
  match s.oldestWaiting l with
  | some e =>
    if e.body = .wake then
      match (s.line l).state with
      | .active => .next (finishEntry l 0 e ⟨.ok, 0, false, false⟩ s)
      | .faulted => .next (finishEntry l 0 e ⟨.lineFault, 0, false, false⟩ s)
      | .rest => .next (beginMasterWake l (putEntry l 0 { e with state := .inFlight .waking } s))
      | _ => .next s
    else .next s
  | none => .next s

/-- A LINE_RECOVER acts as the oldest entry; on a FAULTED line its watch begins, which RECOVERY_WATCH_ACTIVITY ends when the line is active at that moment
(R166; log entry 28). -/
def execLineRecover (l : LineId) (s : State) : Result :=
  match s.oldestWaiting l with
  | some e =>
    if e.body = .lineRecover then
      match (s.line l).state with
      | .active | .rest => .next (finishEntry l 0 e ⟨.ok, 0, false, false⟩ s)
      | .faulted => .next (putEntry l 0 { e with state := .inFlight .watching } s)
      | _ => .next s
    else .next s
  | none => .next s

/-- A FENCE acts as the oldest entry, in any line state (R71, R72). -/
def execFence (l : LineId) (s : State) : Result :=
  match s.oldestWaiting l with
  | some e => if e.body = .fence then .next (finishEntry l 0 e ⟨.ok, 0, false, false⟩ s) else .next s
  | none => .next s

end Sys2Proof.Machine
end

