-- ==== Sys2Proof/Machine/ScheduleCommands.lean ====
section
/-! DEFINITION. The meanings of the cycle engine's own start events (R111). -/

namespace Sys2Proof.Machine

/-- The cycle timer expires: a start event, and the timer starts again at the same period (R111). -/
def execCycleTimerExpiry (l : LineId) (s : State) : Result :=
  let e := (s.line l).engine
  match e.source, e.timer with
  | some (.timer period), some _ =>
    if e.runs then .next (updEngine l (fun e => { e with timer := some period }) (startEvent l s)) else .next s
  | _, _ => .next s

/-- A rising edge on the line's SYNC input raises a start event when the source is SYNC (R111). -/
def execSyncRisingEdge (l : LineId) (s : State) : Result :=
  let e := (s.line l).engine
  if e.runs = true ∧ e.source = some .sync then .next (startEvent l s) else .next s

end Sys2Proof.Machine
end

