-- ==== Sys2Proof/Machine/WakeCommands.lean ====
section
/-! DEFINITION. The meanings of the steps of rest and wake (R147 to R153, R161). -/

namespace Sys2Proof.Machine

/-- The quiesce time has run out: the line goes to REST and the REST completes OK (R147). -/
def execQuiesceTimerExpiry (l : LineId) (s : State) : Result :=
  let x := s.line l
  if x.state = .quiescing ∧ x.wake.phase = .quiesce ∧ x.wake.quiesceTimer.isSome = true then
    .next (finishFirst l (fun e => e.isDoing .quiescing) ⟨.ok, 0, false, false⟩
      (endEpisode l (moveLine l .rest .restRequest s)))
  else .next s

/-- The line goes to WAKING for a station's tone (R149, R150). -/
def beginStationWake (l : LineId) (s : State) : State :=
  (moveLine l .waking .stationWake s).updLine l (fun x =>
    { x with job := none, detector := .toneSeen, wake := { WakeSequence.fresh with phase := .toneIn } })

/-- A WAKE request acts at REST in the moment in which a station's tone is recognised there, and the recognition is taken first: the oldest entry, if
it is a WAKE that may act, becomes IN_FLIGHT and waits for the station's wake (R151, R152). -/
def joinStationWake (l : LineId) (s : State) : State :=
  match s.oldestWaiting l with
  | some e => if e.body = .wake then putEntry l 0 { e with state := .inFlight .waking } s else s
  | none => s

/-- The wake detector's measure reaches 100 µs: a tone is recognised; while QUIESCING it overtakes the REST, which completes WOKEN (R148, R149,
R150). At REST a WAKE request may act in the same moment (R152; log entry 37). -/
def execToneRecognised (r : ToneRecognition) (s : State) : Result :=
  let l := r.line
  let x := s.line l
  if x.detector = .armed ∧ x.transmitting = false then
    match x.state with
    | .rest => .next (beginStationWake l (if r.wakeAsked then joinStationWake l s else s))
    | .quiescing => .next (finishFirst l (fun e => e.isDoing .quiescing) ⟨.woken, 0, false, false⟩ (beginStationWake l s))
    | _ => .next s
  else .next s

/-- A recognised tone has ended: the listen window opens (R148, R150). A frame that the receiver had begun in the tone is still under way until the line
has been idle for more than 4 bit times (R6; log entry 38). -/
def execToneEnd (l : LineId) (s : State) : Result :=
  let x := s.line l
  if x.detector = .toneSeen ∧ x.wake.phase = .toneIn then
    .next (openWindow l (s.updLine l (fun x => { x with detector := .disarmed })))
  else .next s

/-- A tone has not ended 20 ms after its start (R148, R161). -/
def execOverlongTone (l : LineId) (cycleFirst : Bool) (s : State) : Result :=
  let x := s.line l
  if x.detector = .toneSeen ∧ x.wake.phase = .toneIn then .next (enterFaulted l .overlongTone cycleFirst s) else .next s

/-- The master's tone ends: DE is released and the listen window opens (R152). -/
def execMasterToneEnd (l : LineId) (s : State) : Result :=
  match (s.line l).job with
  | some ⟨.tone _, .toning⟩ => .next (openWindow l s)
  | _ => .next s

/-- The window timer expires before any frame has begun: SILENCE (R153, R154). -/
def execListenWindowExpiry (l : LineId) (s : State) : Result :=
  let x := s.line l
  if x.wake.phase = .listen ∧ x.wake.windowTimer.isSome = true then .next (silentWindow l s) else .next s

end Sys2Proof.Machine
end

