-- ==== Sys2Proof/Machine/Dispatch.lean ====
section
/-! DEFINITION. One arm per command of spec/opcode_table.json, in the table's order. -/

namespace Sys2Proof.Machine

/-- The effect of a command on everything but the queue. -/
def exec (i : Instr) (s : State) : Host.Outcome State Fault Refusal :=
  match i with
  | .powerOn => Sys2Proof.Machine.execPowerOn s
  | .nReset => Sys2Proof.Machine.execNReset s
  | .dctlEnableSet => Sys2Proof.Machine.execDctlEnableSet s
  | .dctlEnableClear line1First cycleFirst => Sys2Proof.Machine.execDctlEnableClear line1First cycleFirst s
  | .dctlReset enable => Sys2Proof.Machine.execDctlReset enable s
  | .notifyRequestProducer l value => Sys2Proof.Machine.execNotifyRequestProducer l value s
  | .notifyCompletionConsumer l value => Sys2Proof.Machine.execNotifyCompletionConsumer l value s
  | .notifyBufferProducer l value => Sys2Proof.Machine.execNotifyBufferProducer l value s
  | .notifyEventConsumer value => Sys2Proof.Machine.execNotifyEventConsumer value s
  | .notifyRingId7 value => Sys2Proof.Machine.execNotifyRingId7 value s
  | .irqpendAcknowledge v0 v1 v2 => Sys2Proof.Machine.execIrqpendAcknowledge v0 v1 v2 s
  | .registerWrite r value => Sys2Proof.Machine.execRegisterWrite r value s
  | .contextReadDone id result => Sys2Proof.Machine.execContextReadDone id result s
  | .hostReadTimeout id => Sys2Proof.Machine.execHostReadTimeout id s
  | .requestFetchIssue l => Sys2Proof.Machine.execRequestFetchIssue l s
  | .requestFetchDone l id result => Sys2Proof.Machine.execRequestFetchDone l id result s
  | .stagedRecordAppend l => Sys2Proof.Machine.execStagedRecordAppend l s
  | .slotTableReadDone l id result => Sys2Proof.Machine.execSlotTableReadDone l id result s
  | .trafficSelect l => Sys2Proof.Machine.execTrafficSelect l s
  | .payloadReadDone l id result => Sys2Proof.Machine.execPayloadReadDone l id result s
  | .holdoffExpiry l ringIndex => Sys2Proof.Machine.execHoldoffExpiry l ringIndex s
  | .stationSet l => Sys2Proof.Machine.execStationSet l s
  | .stationRead l => Sys2Proof.Machine.execStationRead l s
  | .lineConfig l => Sys2Proof.Machine.execLineConfig l s
  | .lineParameterBlockReadDone l id result => Sys2Proof.Machine.execLineParameterBlockReadDone l id result s
  | .rest l => Sys2Proof.Machine.execRest l s
  | .wake l => Sys2Proof.Machine.execWake l s
  | .lineRecover l => Sys2Proof.Machine.execLineRecover l s
  | .fence l => Sys2Proof.Machine.execFence l s
  | .lineGrant l => Sys2Proof.Machine.execLineGrant l s
  | .slotOutputReadDone l id result => Sys2Proof.Machine.execSlotOutputReadDone l id result s
  | .gapElapsed l => Sys2Proof.Machine.execGapElapsed l s
  | .collision l cycleFirst => Sys2Proof.Machine.execCollision l cycleFirst s
  | .cmdSent l => Sys2Proof.Machine.execCmdSent l s
  | .datSent l => Sys2Proof.Machine.execDatSent l s
  | .quietSent l => Sys2Proof.Machine.execQuietSent l s
  | .wackSent l => Sys2Proof.Machine.execWackSent l s
  | .receivedFrameStart l => Sys2Proof.Machine.execReceivedFrameStart l s
  | .responseTimeout l => Sys2Proof.Machine.execResponseTimeout l s
  | .frameReceived l rx => Sys2Proof.Machine.execFrameReceived l rx s
  | .descriptorFetchIssue l => Sys2Proof.Machine.execDescriptorFetchIssue l s
  | .descriptorFetchDone l id result => Sys2Proof.Machine.execDescriptorFetchDone l id result s
  | .eventBacklogDrain => Sys2Proof.Machine.execEventBacklogDrain s
  | .holdTimerExpiry v => Sys2Proof.Machine.execHoldTimerExpiry v s
  | .cycleTimerExpiry l => Sys2Proof.Machine.execCycleTimerExpiry l s
  | .syncRisingEdge l => Sys2Proof.Machine.execSyncRisingEdge l s
  | .quiesceTimerExpiry l => Sys2Proof.Machine.execQuiesceTimerExpiry l s
  | .toneRecognised r => Sys2Proof.Machine.execToneRecognised r s
  | .toneEnd l => Sys2Proof.Machine.execToneEnd l s
  | .overlongTone l cycleFirst => Sys2Proof.Machine.execOverlongTone l cycleFirst s
  | .masterToneEnd l => Sys2Proof.Machine.execMasterToneEnd l s
  | .listenWindowExpiry l => Sys2Proof.Machine.execListenWindowExpiry l s
  | .stuckLine l cycleFirst => Sys2Proof.Machine.execStuckLine l cycleFirst s
  | .recoveryWatchExpiry l => Sys2Proof.Machine.execRecoveryWatchExpiry l s
  | .recoveryWatchActivity l => Sys2Proof.Machine.execRecoveryWatchActivity l s
  | .bufferReturnAtStop l => Sys2Proof.Machine.execBufferReturnAtStop l s
  | .stopLineWorkEnd => Sys2Proof.Machine.execStopLineWorkEnd s
  | .eventDrainExpiry => Sys2Proof.Machine.execEventDrainExpiry s

end Sys2Proof.Machine
end

