-- ==== Sys2Proof/Machine/Pins.lean ====
section
/-! DEFINITION. The line pins as views of the state: what DE and TXD show, and the line coding of an octet (R1, R9, R143;
spec/00_scope.md, Pins). The bit rate of each rate code stands here too (R26).
SYNC and the far ends of RXD act through their own commands. -/

namespace Sys2Proof.Machine

/-- Bit rate of the signalling, in bit/s (R26). A parameter set holds rate codes 0 to 9 only (R24). -/
def Signalling.bitRate (g : Signalling) : Nat :=
  match g.rate with
  | 0 => 9600
  | 1 => 19200
  | 2 => 57600
  | 3 => 115200
  | 4 => 500000
  | 5 => 1000000
  | 6 => 2000000
  | 7 => 4000000
  | 8 => 6000000
  | _ => 12000000

/-- Bit times that an octet takes (R1). -/
def Coding.octetBits : Coding → Nat
  | .nrz => 10
  | .manchester => 8

/-- Level of the line (R1). -/
inductive Level where
  | space | mark
deriving DecidableEq, Repr

/-- The bits of an octet, most significant bit first (R1). -/
def msbFirst (b : Byte) : List Bool :=
  [b.getLsbD 7, b.getLsbD 6, b.getLsbD 5, b.getLsbD 4, b.getLsbD 3, b.getLsbD 2, b.getLsbD 1, b.getLsbD 0]

/-- The octet of eight bits given most significant bit first. -/
def ofMsbFirst (bits : List Bool) : Byte := bits.foldl (fun b x => (b <<< 1) ||| (if x then 1 else 0)) 0

/-- The level of a data bit in NRZ (R1). -/
def Level.ofBit (x : Bool) : Level := if x then .mark else .space

/-- The levels of an octet on the line: in NRZ one a bit time, a start bit, the data bits and a stop bit; in MANCHESTER two a bit time, from space
to mark for a 1 and from mark to space for a 0 (R1). -/
def Coding.levels (c : Coding) (b : Byte) : List Level :=
  match c with
  | .nrz => .space :: (msbFirst b).map Level.ofBit ++ [.mark]
  | .manchester => (msbFirst b).flatMap (fun x => if x then [.space, .mark] else [.mark, .space])

/-- The bits of eight MANCHESTER bit times; none where one has no mid-bit transition (R1). -/
def manchesterBits : List Level → Option (List Bool)
  | [] => some []
  | .space :: .mark :: rest => (manchesterBits rest).map (true :: ·)
  | .mark :: .space :: rest => (manchesterBits rest).map (false :: ·)
  | _ => none

/-- The octet decoded from the levels of one octet time; none on a coding error (R1). -/
def Coding.octet (c : Coding) (levels : List Level) : Option Byte :=
  match c with
  | .nrz =>
    match levels with
    | .space :: d7 :: d6 :: d5 :: d4 :: d3 :: d2 :: d1 :: d0 :: .mark :: [] =>
      some (ofMsbFirst ([d7, d6, d5, d4, d3, d2, d1, d0].map (fun x => decide (x = .mark))))
    | _ => none
  | .manchester =>
    match manchesterBits levels with
    | some bits => if bits.length = 8 then some (ofMsbFirst bits) else none
    | none => none

/-- Whether readback finds a collision in one octet: the decoded octet differs from the one sent, or holds a coding error (R9). -/
def Coding.collides (c : Coding) (sent : Byte) (seen : List Level) : Bool := decide (c.octet seen ≠ some sent)

/-- DE: driven from the first sync octet to the end of the last octet of a frame, and for the wake tone (R1, R143). -/
def Line.de (x : Line) : Bool := x.transmitting

/-- TXD over the frame or tone in flight: the levels of the frame's octets back to back, the space level of a wake tone, and otherwise the
mark level at which the line rests (R1, R143). -/
def Line.txd (x : Line) : List Level :=
  match x.job with
  | some ⟨_, .sending g octets⟩ => octets.flatMap g.coding.levels
  | some ⟨_, .toning⟩ => [.space]
  | _ => [.mark]

end Sys2Proof.Machine
end

