-- ==== Sys2Proof/Safety.lean ====
section
/-! DEFINITION. What a sound state of the M220 is: the manual's standing laws over its blocks, in the terms the statements use. -/

namespace Sys2Proof

/-- The other line. -/
def LineId.other : LineId → LineId
  | .line0 => .line1
  | .line1 => .line0

/-- The line a command belongs to, where it acts on one line and through it on no run state (spec/00_scope.md, Block overview). -/
def Instr.lineOf : Instr → Option LineId
  | .notifyRequestProducer l _ | .notifyCompletionConsumer l _ | .notifyBufferProducer l _ => some l
  | .requestFetchIssue l | .requestFetchDone l _ _ | .stagedRecordAppend l | .slotTableReadDone l _ _ => some l
  | .trafficSelect l | .payloadReadDone l _ _ | .holdoffExpiry l _ => some l
  | .stationSet l | .stationRead l | .lineConfig l | .lineParameterBlockReadDone l _ _ => some l
  | .rest l | .wake l | .lineRecover l | .fence l => some l
  | .lineGrant l | .slotOutputReadDone l _ _ | .gapElapsed l | .collision l _ => some l
  | .cmdSent l | .datSent l | .quietSent l | .wackSent l => some l
  | .receivedFrameStart l | .responseTimeout l | .frameReceived l _ => some l
  | .descriptorFetchIssue l | .descriptorFetchDone l _ _ => some l
  | .cycleTimerExpiry l | .syncRisingEdge l => some l
  | .toneRecognised r => some r.line
  | .quiesceTimerExpiry l | .toneEnd l | .overlongTone l _ | .masterToneEnd l => some l
  | .listenWindowExpiry l | .stuckLine l _ | .recoveryWatchExpiry l | .recoveryWatchActivity l | .bufferReturnAtStop l => some l
  | .powerOn | .nReset | .dctlEnableSet | .dctlEnableClear _ _ | .dctlReset _ => none
  | .notifyEventConsumer _ | .notifyRingId7 _ | .irqpendAcknowledge _ _ _ | .registerWrite _ _ => none
  | .contextReadDone _ _ | .hostReadTimeout _ | .eventBacklogDrain | .holdTimerExpiry _ => none
  | .stopLineWorkEnd | .eventDrainExpiry => none

namespace Machine

/-- The command in which a read of this reader ends (R180). -/
def Reader.done : Reader → Nat → ReadResult → Instr
  | .context, id, r => .contextReadDone id r
  | .request l, id, r => .requestFetchDone l id r
  | .descriptor l, id, r => .descriptorFetchDone l id r
  | .payload l, id, r => .payloadReadDone l id r
  | .parameters l, id, r => .lineParameterBlockReadDone l id r
  | .slotTable l, id, r => .slotTableReadDone l id r
  | .slotOutput l, id, r => .slotOutputReadDone l id r

/-! ## The standing laws -/

/-- Run control: a context read is waited for in STARTING only, and the event drain runs in STOPPING only (R170, R178). -/
def State.RunLaw (s : State) : Prop :=
  (s.contextRead.isSome = true → s.run = .starting) ∧ (s.drain.isSome = true → s.run = .stopping)

/-- A line's pending list never holds more than 8 entries (R61). -/
def Line.PendingLaw (x : Line) : Prop := x.entries.length ≤ Config.pendingMax

/-- Completion records written and not released (R79). -/
def CompletionWriter.unreleased (c : CompletionWriter) : Nat := (c.producer - c.consumer).toNat

/-- How many records a line's intake holds that have no pending entry: a staged record, and the one its fetch reads (R58). -/
def Intake.owed (k : Intake) : Nat := (if k.staged.isSome then 1 else 0) + (if k.fetch.isSome then 1 else 0)

/-- The credit count equals the ring size minus 1, less what is pending, staged, fetched, and written and not released (R58); a record is
staged only while none is fetched (R61); no completion ring is larger than 1,024 (R172). -/
def State.CreditLaw (s : State) (l : LineId) : Prop :=
  let x := s.line l
  let size := (s.context.lineSection l).completionRing.size
  size ≤ 1024 ∧ (x.intake.staged.isSome = true → x.intake.fetch = none) ∧
    x.completion.credit + x.entries.length + x.intake.owed + x.completion.unreleased = size - 1

/-- The buffer unit: the consumer index less the write-back index is the number of held descriptors, of which there are at most two with the one
being fetched, and the head is usable (R83, R85). -/
def BufferUnit.Law (b : BufferUnit) : Prop :=
  b.consumer - b.writeBack = BitVec.ofNat 16 b.held.length ∧
    b.held.length + (if b.fetch.isSome then 1 else 0) ≤ Config.heldMax ∧
    ∀ d, b.held.head? = some d → d.usable = true

/-- The event unit: at most size − 1 records unreleased, at most 16 backlogged, the loss count within 16 bits, and a first lost number exactly
while the loss count is not 0 (R89). -/
def State.EventLaw (s : State) : Prop :=
  (s.events.producer - s.events.consumer).toNat ≤ s.context.eventRing.size - 1 ∧
    s.events.backlog.length ≤ Config.backlogMax ∧ s.events.lossCount ≤ 65535 ∧
    (s.events.firstLost.isSome = true ↔ s.events.lossCount ≠ 0)

/-- One station record against the offline threshold: OFFLINE exactly when its count equals the threshold, which it never exceeds; a DISABLED
record has count 0 and no attention; an UNKNOWN or ONLINE record has count 0 (R41, R47, R50). -/
def Station.Law (threshold : Nat) (r : Station) : Prop :=
  match r.state with
  | .disabled => r.failures = 0 ∧ r.attention = false
  | .offline => r.failures = threshold
  | .suspect => r.failures < threshold
  | .unknown => r.failures = 0
  | .online => r.failures = 0

/-- The station table of a line agrees with its offline threshold, which is at least 1 (R24, R41). -/
def Line.StationLaw (x : Line) : Prop :=
  1 ≤ x.params.offlineThreshold ∧ ∀ a, 1 ≤ a → a ≤ 62 → (x.station a).Law x.params.offlineThreshold

/-- The line state a phase of the wake sequence goes with (R144); phase none goes with any. -/
def WakePhase.fits : WakePhase → LineState → Prop
  | .none, _ => True
  | .quiet1, st | .quiet2, st | .quiesce, st => st = .quiescing
  | .toneIn, st | .masterTone, st | .listen, st | .rollCall, st | .closing, st => st = .waking

/-- Whether a job is work of a wake: the master's tone, a QUERY of the wake sequence or a WACK (R152, R155, R156). -/
def JobKind.isWakeWork : JobKind → Bool
  | .tone _ => true
  | .wack _ => true
  | .exchange x => decide (x.claimant = .wakeSequence)
  | _ => false

/-- The line controller and the wake sequence. A line in OFF, REST or FAULTED has nothing in flight (R142); the phase goes with the line state and
with what is in flight; wake work is in flight only in WAKING; a frame is received for the window only while it listens with its timer stopped;
the wake detector is armed only at REST or while QUIESCING; no frame is being received while the master transmits (R6, R144, R148, R153). -/
def Line.ControlLaw (x : Line) : Prop :=
  (x.state = .off ∨ x.state = .rest ∨ x.state = .faulted → x.job = none) ∧
    x.wake.phase.fits x.state ∧
    (x.wake.phase = .quiesce ∨ x.wake.phase = .toneIn ∨ x.wake.phase = .listen → x.job = none) ∧
    (∀ j, x.job = some j → j.kind.isWakeWork = true → x.state = .waking) ∧
    (x.reception.map (·.role) = some .window → x.wake.phase = .listen ∧ x.wake.windowTimer = none) ∧
    (x.detector = .armed → x.state = .rest ∨ x.state = .quiescing) ∧
    (x.transmitting = true → x.reception = none)

/-! ## Terms the statements use -/

/-- Every parameter lies in its Min to Max range (R24). -/
def Params.InRange (p : Params) : Prop :=
  p.rate ≤ 9 ∧ (8 ≤ p.gap ∧ p.gap ≤ 255) ∧ (20 ≤ p.responseTimeout ∧ p.responseTimeout ≤ 65535) ∧ p.retryLimit ≤ 7 ∧
    p.slotRetryLimit ≤ 1 ∧ (50 ≤ p.busyHoldoff ∧ p.busyHoldoff ≤ 65535) ∧ (1 ≤ p.busyLimit ∧ p.busyLimit ≤ 255) ∧
    (1 ≤ p.offlineThreshold ∧ p.offlineThreshold ≤ 15) ∧ p.rejoinInterval ≤ 255 ∧
    (1 ≤ p.collisionLimit ∧ p.collisionLimit ≤ 7) ∧ (1 ≤ p.wakeToneLength ∧ p.wakeToneLength ≤ 16) ∧
    (500 ≤ p.listenWindow ∧ p.listenWindow ≤ 8000) ∧ (100 ≤ p.quiesceTime ∧ p.quiesceTime ≤ 10000)

/-- A size a ring may have: a power of two within the bounds of its kind (R172). -/
def RingSpec.SizeOk (r : RingSpec) (lo hi : Nat) : Prop := lo ≤ r.size ∧ r.size ≤ hi ∧ ∃ k, r.size = 2 ^ k

/-- The write of a completion record at the producer index of a line's completion ring (R80). -/
def State.completionWrite (s : State) (l : LineId) (c : Completion) : PortOp :=
  let i := (s.line l).completion.producer
  let ring := (s.context.lineSection l).completionRing
  .write (ring.position i 16) (c.octets (ring.lap i))

/-- The write of an event record at the producer index of the event ring (R90). -/
def State.eventWrite (s : State) (e : Event) (sequence : Half) : PortOp :=
  .write (s.context.eventRing.position s.events.producer 16) (e.octets sequence (s.context.eventRing.lap s.events.producer))

/-- Whether an operation of the host port is a write into host memory (R181). -/
def PortOp.isWrite : PortOp → Bool
  | .write _ _ => true
  | _ => false

/-- The writes into host memory that `t` has issued behind what `s` had issued, in their order; interrupts are left out. -/
def State.newWrites (s t : State) : List PortOp := (t.port.drop s.port.length).filter PortOp.isWrite

/-- The writes of event records, each with its sequence number, from index `i` of the event ring on (R90). -/
def State.eventWrites (s : State) : Half → List (Half × Event) → List PortOp
  | _, [] => []
  | i, (q, e) :: rest =>
    .write (s.context.eventRing.position i 16) (e.octets q (s.context.eventRing.lap i)) :: s.eventWrites (i + 1) rest

/-- The writes of completion records from index `i` of a line's completion ring on (R80). -/
def State.completionWrites (s : State) (l : LineId) : Half → List Completion → List PortOp
  | _, [] => []
  | i, c :: rest =>
    let ring := (s.context.lineSection l).completionRing
    .write (ring.position i 16) (c.octets (ring.lap i)) :: s.completionWrites l (i + 1) rest

/-- The write-backs of buffer descriptors from index `i` of a line's buffer ring on (R87, R88). -/
def State.writeBacks (s : State) (l : LineId) : Half → List (List Byte) → List PortOp
  | _, [] => []
  | i, d :: rest => .write ((s.context.lineSection l).bufferRing.position i 16) d :: s.writeBacks l (i + 1) rest

/-- `s` after several events have been raised in turn. -/
def raiseAll (es : List Event) (s : State) : State := es.foldl (fun s e => raiseEvent e s) s

/-- From `s` to `t` exactly these events were raised, in this order: the event unit stands as they leave it, and their records are among the writes
(R90). -/
def State.Raises (s t : State) (es : List Event) : Prop :=
  t.events = (raiseAll es s).events ∧ (s.newWrites (raiseAll es s)).Sublist (s.newWrites t)

/-- The BUFFER_STARVED with which an episode begins when the line, none being in progress in `s`, has become `x` and is starved (R140). -/
def State.starvation (s : State) (l : LineId) (x : Line) : List Event :=
  if s.run = .running ∧ x.state = .active ∧ x.params.attentionCollection = true ∧ x.attentionSet ≠ [] ∧ x.buffers.held = [] ∧
      x.buffers.fetch = none ∧ (x.buffers.errored = true ∨ x.buffers.producer = x.buffers.consumer) ∧ (s.line l).collector.starved = false then
    [.bufferStarved l x.attentionSet.length]
  else []

/-- The outcome of an exchange in flight in `u`: nothing is in flight any more, the report is applied with its events, a starvation it begins among them,
and then the outcome reaches the claimant (R19, R39, R100, R140). -/
def Exchange.handedOver (l : LineId) (x : Exchange) (o : ExchangeEnd) (u : State) : State :=
  let v := checkStarved l (reportOutcome l x.station o (u.updLine l (fun y => { y with job := none })))
  match x.claimant with
  | .requestEngine => requestOutcome l o x.cmds v
  | .cycleEngine => pollOutcome l o v
  | .collector => fetchOutcome l x.station o v
  | .wakeSequence => rollNext l v

/-- From `s` to `t` exactly these completions of a line were written, in this order (R80). -/
def State.Completes (s t : State) (l : LineId) (cs : List Completion) : Prop :=
  (t.line l).completion.producer = (s.line l).completion.producer + BitVec.ofNat 16 cs.length ∧
    (s.completionWrites l (s.line l).completion.producer cs).Sublist (s.newWrites t)

/-- A bank whose slots with these numbers have ended in `cycle` with `result` and without input (R120). -/
def Bank.ended (b : Bank) (cycle : Word) (result : SlotResult) (ns : List Nat) : Bank :=
  { b with slots := b.slots.mapIdx (fun i c => if i + 1 ∈ ns then { c with status := c.status.after cycle result none } else c) }

/-- The writes of the status records of these slots as they end in `cycle` with `result` and without input, in the order of the list (R120). -/
def Bank.statusWrites (b : Bank) (cycle : Word) (result : SlotResult) (ns : List Nat) : List PortOp :=
  ns.filterMap (fun n => (b.cell n).map (fun c =>
    .write (b.statusArray + BitVec.ofNat 64 (16 * (n - 1))) (c.status.after cycle result none).octets))

/-- From `s` to `t` a line's engine became STOPPED (R125): a COMMITTED bank became active and the PARKED SWITCH completed, the cycle record was written, and
the STOPs that waited, and those of `also` behind them, completed OK. -/
def State.BecomesStopped (s t : State) (l : LineId) (also : List Entry) : Prop :=
  let x := s.line l
  let g := x.engine
  let y := t.line l
  let committed := decide (g.inactiveBank.state = .committed)
  let parked := if committed then (x.entries.find? (fun e => decide (e.state = .parked))).toList else []
  let waited := x.entries.filter (fun e => e.isDoing .stopWait)
  y.engine.state = .stopped ∧ y.engine.stopRequested = false ∧ y.engine.stage = .idle ∧ y.engine.lastCompleted = g.lastCompleted ∧
    y.engine.cycle = g.cycle ∧ y.engine.active = (if committed then g.active.other else g.active) ∧
    (parked = [] → y.entries = x.entries.filter (fun e => !e.isDoing .stopWait)) ∧
    (y.entries.length + parked.length + waited.length = x.entries.length) ∧
    s.Raises t (if committed then [.scheduleSwitched l g.cycle g.active.other] else []) ∧
    s.Completes t l ((parked ++ waited ++ also).map (fun e => e.completion x ⟨.ok, 0, false, false⟩)) ∧
    .write (s.context.indexPage + BitVec.ofNat 64 (cycleRecordOffset l)) y.engine.cycleRecord ∈ s.newWrites t

/-- A line with the entry at place `i` gone and its completion counted as written. -/
def Line.afterCompletion (x : Line) (i : Nat) : Line :=
  { x with entries := x.entries.eraseIdx i, completion := { x.completion with producer := x.completion.producer + 1 } }

/-- The first place at which an entry satisfies `p`, with its entry: what `Line.findEntry` looks for. -/
def Line.FirstEntry (x : Line) (p : Entry → Bool) (i : Nat) (e : Entry) : Prop :=
  x.entries[i]? = some e ∧ p e = true ∧ ∀ j, j < i → ∀ e', x.entries[j]? = some e' → p e' = false

end Machine

end Sys2Proof
end

