-- ==== Sys2Proof/WellFormed.lean ====
section
/-! DEFINITION. Well-formed commands: what the operands of a command can be. A command that is not well formed spells no occasion of the part;
`exec` is total on it all the same (log entries 5 and 18). -/

namespace Sys2Proof

/-- Octets of the Device Context Block (R172). -/
def contextLength : Nat := 512

/-- Whether the octets of a read number one of the lengths the block asks for (R180); a completer error is always possible. -/
def ReadResult.lengthIn (ok : Nat → Bool) : ReadResult → Bool
  | .octets d => ok d.length
  | .error => true

/-- Lengths of an out payload or of a slot's output data: 1 to 240 octets (R65, R116: a length of 0 is not read). -/
def payloadLengthOk (n : Nat) : Bool := decide (1 ≤ n) && decide (n ≤ 240)

/-- Lengths of a slot table: 16 octets a slot, 1 to 64 slots (R104, R105). -/
def slotTableLengthOk (n : Nat) : Bool := decide (n % 16 = 0) && decide (16 ≤ n) && decide (n ≤ 1024)

/-- The number of octets after which a received frame ends when its octets give one: 10 more than its LENGTH, where the sync octets are right
and LENGTH is at most 240 (R6). -/
def Reception.frameLength (rx : Reception) : Option Nat :=
  if rx.octets.take 2 = [0x55, 0xD3] ∧ 8 ≤ rx.octets.length ∧ (rx.octets.getD 7 0).toNat ≤ 240 then
    some (10 + (rx.octets.getD 7 0).toNat)
  else none

/-- A reception holds at least one octet, and none beyond the octet that ended the frame (R6). -/
def Reception.wellFormed (rx : Reception) : Bool :=
  !rx.octets.isEmpty && match rx.frameLength with
    | some n => decide (rx.octets.length ≤ n) || rx.codingError
    | none => true

/-- The checks of a command's operands. -/
def Instr.wellFormed : Instr → Bool
  | .contextReadDone _ r => r.lengthIn (fun n => decide (n = contextLength))
  | .requestFetchDone _ _ r => r.lengthIn (fun n => decide (n = 32))
  | .descriptorFetchDone _ _ r => r.lengthIn (fun n => decide (n = 16))
  | .lineParameterBlockReadDone _ _ r => r.lengthIn (fun n => decide (n = 24))
  | .slotTableReadDone _ _ r => r.lengthIn slotTableLengthOk
  | .payloadReadDone _ _ r => r.lengthIn payloadLengthOk
  | .slotOutputReadDone _ _ r => r.lengthIn payloadLengthOk
  | .frameReceived _ rx => rx.wellFormed
  | .powerOn | .nReset | .dctlEnableSet | .dctlEnableClear _ _ | .dctlReset _ => true
  | .notifyRequestProducer _ _ | .notifyCompletionConsumer _ _ | .notifyBufferProducer _ _ | .notifyEventConsumer _ => true
  | .notifyRingId7 _ | .irqpendAcknowledge _ _ _ | .registerWrite _ _ | .hostReadTimeout _ => true
  | .requestFetchIssue _ | .stagedRecordAppend _ | .trafficSelect _ | .holdoffExpiry _ _ => true
  | .stationSet _ | .stationRead _ | .lineConfig _ | .rest _ | .wake _ | .lineRecover _ | .fence _ => true
  | .lineGrant _ | .gapElapsed _ | .collision _ _ | .cmdSent _ | .datSent _ | .quietSent _ | .wackSent _ => true
  | .receivedFrameStart _ | .responseTimeout _ | .descriptorFetchIssue _ | .eventBacklogDrain | .holdTimerExpiry _ => true
  | .cycleTimerExpiry _ | .syncRisingEdge _ | .quiesceTimerExpiry _ | .toneRecognised _ | .toneEnd _ => true
  | .overlongTone _ _ | .masterToneEnd _ | .listenWindowExpiry _ | .stuckLine _ _ | .recoveryWatchExpiry _ => true
  | .recoveryWatchActivity _ | .bufferReturnAtStop _ | .stopLineWorkEnd | .eventDrainExpiry => true

end Sys2Proof
end

