-- ==== Sys2Proof/Certificates/Slice0/Obligations.lean ====
section
/-! DEFINITION. The statements for the provers. Each formalises rules of the manual, named in its docstring. In all of them `exec c s = .next t` says that
the command `c` at the state `s` leads to the state `t`. -/

open Sys2Proof Sys2Proof.Machine

/-! ## The block as a whole -/

/-- A step takes the command at the front of the queue and runs it on the queue's rest; with an empty queue the block idles (the model's own queue, log
entry 2). -/
def Obligations.StepRunsTheFrontCommand : Prop :=
  (∀ (c : Instr) (rest : List Instr) (s : State), s.pending = c :: rest → step s = exec c { s with pending := rest }) ∧
    ∀ s : State, s.pending = [] → step s = .next s

/-- Every command has an effect in every state and leaves the queue alone: no command ends in a fault or a refusal (log entry 3). What the host port has issued stays as
it was issued, and every command only adds behind it (R99, R181). -/
def Obligations.EveryCommandAnswersANextState : Prop :=
  (∀ (c : Instr) (s : State), ∃ t, exec c s = .next t ∧ t.pending = s.pending) ∧
  (∀ (c : Instr) (s t : State), exec c s = .next t → s.port <+: t.port)

/-- The two lines share the device-wide blocks and nothing else: a command of one line leaves every block of the other line, the run state, the
registers and the context as they were (spec/00_scope.md, Block overview). -/
def Obligations.LinesShareOnlyDeviceWideBlocks : Prop :=
  ∀ (c : Instr) (l : LineId) (s t : State), c.lineOf = some l → exec c s = .next t →
    t.line l.other = s.line l.other ∧ t.run = s.run ∧ t.faultInfo = s.faultInfo ∧ t.ctxLo = s.ctxLo ∧ t.ctxHi = s.ctxHi ∧
      t.contextRead = s.contextRead ∧ t.context = s.context ∧ t.drain = s.drain

/-! ## Laws that every step keeps -/

/-- Every step keeps the law of run control: a context read is waited for in STARTING only, the event drain runs in STOPPING only (R170, R178). The run state moves only
as the table of R170 says: which command takes it from which state to which. -/
def Obligations.RunStateMovesByItsTable : Prop :=
  (∀ s t : State, s.RunLaw → step s = .next t → t.RunLaw) ∧
  (∀ (c : Instr) (s t : State), s.RunLaw → exec c s = .next t → t.run ≠ s.run →
     (t.run = .off ∧ (c = .powerOn ∨ c = .nReset ∨ ∃ b, c = .dctlReset b)) ∨
     (s.run = .off ∧ c = .dctlEnableSet ∧ (t.run = .starting ∨ t.run = .fault)) ∨
     (s.run = .starting ∧ (t.run = .running ∨ t.run = .fault) ∧ ((∃ id r, c = .contextReadDone id r) ∨ ∃ id, c = .hostReadTimeout id)) ∨
     (∃ b1 b2, c = .dctlEnableClear b1 b2 ∧
       (s.run = .starting ∧ t.run = .off ∨ s.run = .running ∧ t.run = .stopping ∨ s.run = .fault ∧ t.run = .off)) ∨
     (s.run = .stopping ∧ t.run = .off ∧
       (c = .stopLineWorkEnd ∨ c = .eventDrainExpiry ∨ c = .eventBacklogDrain ∨ ∃ v, c = .notifyEventConsumer v)))

/-- Every step keeps each line's pending list at 8 entries at most (R61). Every step keeps the credit equation of both lines (R58). -/
def Obligations.StepKeepsThePendingAndCreditLaws : Prop :=
  (∀ s t : State, (∀ l, (s.line l).PendingLaw) → step s = .next t → ∀ l, (t.line l).PendingLaw) ∧
  (∀ s t : State, (∀ l, s.CreditLaw l) → step s = .next t → ∀ l, t.CreditLaw l)

/-- Every step keeps the law of the buffer units: consumer less write-back index is the number held, at most two, with a usable head (R83, R85). -/
def Obligations.StepKeepsTheBufferLaw : Prop :=
  ∀ s t : State, (∀ l, (s.line l).buffers.Law) → step s = .next t → ∀ l, (t.line l).buffers.Law

/-- Every step keeps the law of the event unit (R89). -/
def Obligations.StepKeepsTheEventLaw : Prop :=
  ∀ s t : State, s.EventLaw → step s = .next t → t.EventLaw

/-- Every step keeps every line's parameters in their ranges (R24) and every station record in agreement with the offline threshold: OFFLINE
exactly when the failure count equals it (R41, R47, R50). -/
def Obligations.StepKeepsTheStationLaw : Prop :=
  ∀ s t : State, (∀ l, (s.line l).params.InRange ∧ (s.line l).StationLaw) → step s = .next t →
    ∀ l, (t.line l).params.InRange ∧ (t.line l).StationLaw

/-- Every step keeps the law of the line controllers: a line in OFF, REST or FAULTED has nothing in flight, and the wake sequence's phase goes with the
line state (R142, R144). -/
def Obligations.StepKeepsTheControlLaw : Prop :=
  ∀ s t : State, (∀ l, (s.line l).ControlLaw) → step s = .next t → ∀ l, (t.line l).ControlLaw

/-- All these laws hold right after reset (the reset values of blocks that hold no state are the model's choice, log entry 6). -/
def Obligations.ResetMeetsTheLaws : Prop :=
  State.reset.RunLaw ∧ State.reset.EventLaw ∧
    ∀ l, (State.reset.line l).PendingLaw ∧ State.reset.CreditLaw l ∧ (State.reset.line l).buffers.Law ∧
      ((State.reset.line l).params.InRange ∧ (State.reset.line l).StationLaw) ∧ (State.reset.line l).ControlLaw

/-- A line's active schedule bank changes only at a cycle start, or while or when the cycle engine becomes STOPPED or HALTED (R124). -/
def Obligations.ActiveBankChangesOnlyAtStartStopOrHalt : Prop :=
  ∀ (c : Instr) (l : LineId) (s t : State), exec c s = .next t → (t.line l).engine.active ≠ (s.line l).engine.active →
    (t.line l).engine.state = .stopped ∨ (t.line l).engine.state = .halted ∨
      (c = .lineGrant l ∧ (t.line l).engine.cycle = (s.line l).engine.cycle + 1)

/-- A station's master SEQ bit changes only when an exchange with that station ends SUCCESS (R40); a start sets the record to its start
values (R38). Outside a run the table does not exist (R38), and the model gives its records these values there: that the end of a run and a device reset leave them is
the model's choice (log entry 6). -/
def Obligations.SeqBitChangesOnlyOnSuccess : Prop :=
  ∀ (c : Instr) (l : LineId) (a : Nat) (s t : State), exec c s = .next t →
    ((t.line l).station a).seq ≠ ((s.line l).station a).seq →
    (t.line l).station a = Station.fresh ∨
      ∃ rx x stage attn function payload, c = .frameReceived l rx ∧ (s.line l).job = some ⟨.exchange x, stage⟩ ∧ x.station = a ∧
        classifyAnswer x (checkReception rx) = .success attn function payload

/-! ## Shared machinery: records, events, vectors, reports, attempts -/

/-- The completion writer writes one record at the producer index, with the lap of that index, counts it towards the line's vector, and touches nothing else (R80). An
entry that completes leaves the list and is reported in one completion record, which carries its tag, ring index and kind, the attempts used, and the state of the
station it names (R62, R77). The fields of a completion record at their offsets, the reserved octets 0, and the codes of its status and station state (R183; spec/11,
Completion record). -/
def Obligations.CompletionWritesOneRecord : Prop :=
  (∀ (l : LineId) (c : Completion) (s : State),
     let t := complete l c s
     let i := (s.line l).completion.producer
     let ring := (s.context.lineSection l).completionRing
     s.completionWrite l c
       = .write (ring.base + BitVec.ofNat 64 (16 * (i.toNat % ring.size))) (c.octets (if i.toNat / ring.size % 2 = 0 then 1 else 0)) ∧
     (∀ lap, (c.octets lap).length = 16) ∧
     (s.port ++ [s.completionWrite l c]) <+: t.port ∧
     t.line l = { s.line l with completion := { (s.line l).completion with producer := i + 1 } } ∧
     (t.vector (lineVector l)).unreported = min 255 ((s.vector (lineVector l)).unreported + 1) ∧
     (∀ v, v ≠ lineVector l → t.vector v = s.vector v) ∧
     t.line l.other = s.line l.other ∧ t.events = s.events ∧ t.run = s.run ∧ t.reads = s.reads ∧ t.context = s.context) ∧
  (∀ (l : LineId) (i : Nat) (e : Entry) (how : Ending) (s : State), (s.line l).entries[i]? = some e →
     let t := finishEntry l i e how s
     let c : Completion :=
       ⟨e.tag, e.ringIndex, e.kind, how.status, how.truncated, how.marked, how.detail, e.attempts,
         if 1 ≤ e.body.reportStation ∧ e.body.reportStation ≤ 62 then some ((s.line l).station e.body.reportStation).state else none⟩
     t.line l = (s.line l).afterCompletion i ∧ (t.line l).entries.length + 1 = (s.line l).entries.length ∧
       (s.port ++ [s.completionWrite l c]) <+: t.port ∧ t.line l.other = s.line l.other ∧ t.events = s.events) ∧
  ((∀ (c : Completion) (lap : Nat),
     let d := c.octets lap
     field d 0 2 = c.tag.toNat ∧ field d 2 2 = c.ringIndex.toNat ∧ octetAt d 4 = c.kind ∧ field d 5 1 = statusCode c.status ∧
       bitAt d 6 0 = c.truncated ∧ bitAt d 6 1 = c.marked ∧ field d 6 1 < 4 ∧ field d 7 1 = c.attempts % 256 ∧ field d 8 2 = c.detail % 65536 ∧
       field d 10 1 = healthCode c.station ∧ field d 11 4 = 0 ∧ field d 15 1 = lap % 256) ∧
   [Status.ok, .noResponse, .badFrame, .refused, .busyExpired, .stationOffline, .stationDisabled, .aborted, .badRequest, .badAddress, .lineAtRest,
     .lineFault, .busySchedule, .attentionPending, .woken, .stillFaulted].map statusCode = List.range 16 ∧
   [none, some Health.unknown, some .online, some .suspect, some .offline, some .disabled].map healthCode = List.range 6)

/-- A counted record raises the unreported count; the first one starts the hold timer; the one that reaches the moderation count, or the expiry of the
hold timer, raises the vector, which issues a message, or in LEVEL mode the level at the first pending vector (R96, R98). -/
def Obligations.CountedRecordDrivesItsVector : Prop :=
  ∀ (v : VectorId) (s : State),
    let x := s.vector v
    let set := s.context.setting v
    let interrupt : List PortOp := if s.context.level then (if s.anyPending then [] else [.level true]) else [.message v]
    (x.pending = true → countRecord v s = s.setVector v { x with unreported := min 255 (x.unreported + 1) }) ∧
    (x.pending = false → x.unreported < 255 → x.unreported + 1 ≠ set.moderation →
      countRecord v s = s.setVector v
        ⟨x.unreported + 1, if x.unreported = 0 ∧ set.holdTime ≠ 0 then some set.holdTime else x.holdTimer, false⟩) ∧
    (x.pending = false → x.unreported < 255 → x.unreported + 1 = set.moderation →
      countRecord v s = { s.setVector v ⟨x.unreported + 1, none, true⟩ with port := s.port ++ interrupt }) ∧
    (x.pending = false → x.holdTimer.isSome = true →
      exec (.holdTimerExpiry v) s = .next { s.setVector v ⟨x.unreported, none, true⟩ with port := s.port ++ interrupt })

/-- A raised event takes the next sequence number and is written at once, backlogged, or dropped and counted (R90). The fields of an event record at their offsets, for
each of the eleven kinds, and the codes in its detail words (R183; spec/11, Event record). -/
def Obligations.RaisedEventIsWrittenBackloggedOrDropped : Prop :=
  (∀ (e : Event) (s : State),
     let t := raiseEvent e s
     let u := s.events
     let atOnce := u.backlog = [] ∧ u.lossCount = 0 ∧ (u.producer - u.consumer).toNat < s.context.eventRing.size - 1
     (∀ q lap, (e.octets q lap).length = 16) ∧
     (atOnce → t.events = { u with sequence := u.sequence + 1, producer := u.producer + 1 } ∧
       (s.port ++ [s.eventWrite e u.sequence]) <+: t.port ∧
       (t.vector .vector0).unreported = min 255 ((s.vector .vector0).unreported + 1) ∧
       t.line0 = s.line0 ∧ t.line1 = s.line1 ∧ t.vector1 = s.vector1 ∧ t.vector2 = s.vector2 ∧ t.run = s.run) ∧
     (¬atOnce → u.backlog.length < 16 →
       t = { s with events := { u with sequence := u.sequence + 1, backlog := u.backlog ++ [(u.sequence, e)] } }) ∧
     (¬atOnce → 16 ≤ u.backlog.length →
       t = { s with events :=
         { u with
           sequence := u.sequence + 1
           lossCount := min 65535 (u.lossCount + 1)
           firstLost := if u.lossCount = 0 then some u.sequence else u.firstLost } })) ∧
  ((∀ (q : Half) (lap : Nat) (l : LineId) (a n m : Nat) (cycle : Word) (i j : Half),
     let holds := fun (e : Event) (kind line station : Nat) (words : List (Nat × Nat × Nat)) =>
       let d := e.octets q lap
       field d 0 1 = kind ∧ field d 1 1 = line ∧ field d 2 1 = station ∧ field d 3 1 = lap % 256 ∧ field d 4 2 = q.toNat ∧ field d 6 2 = 0 ∧
         ∀ w, w ∈ words → field d w.1 w.2.1 = w.2.2
     let line := lineCode (some l)
     let wide := 4294967296
     (∀ old new cause, holds (.stationState l a old new n cause) 1 line (a % 256)
       [(8, 1, healthCode (some old)), (9, 1, healthCode (some new)), (10, 1, n % 256), (11, 1, healthCauseCode cause), (12, 4, 0)]) ∧
     (∀ src st, holds (.attention l a src st) 2 line (a % 256) [(8, 1, attentionSourceCode src), (9, 1, healthCode (some st)), (10, 4, 0), (14, 2, 0)]) ∧
     (∀ who roll odd, holds (.wake l a who roll odd n) 3 line (a % 256)
       [(8, 1, initiatorCode who), (9, 1, (if roll then 1 else 0) + 2 * (if odd then 1 else 0)), (10, 1, n % 256), (11, 4, 0), (15, 1, 0)]) ∧
     (∀ old new why, holds (.lineState l old new why) 4 line 0
       [(8, 1, lineStateCode old), (9, 1, lineStateCode new), (10, 1, lineReasonCode why), (11, 4, 0), (15, 1, 0)]) ∧
     holds (.cycleOverrun l cycle n) 5 line 0 [(8, 4, cycle.toNat), (12, 4, n % wide)] ∧
     (∀ bank, holds (.scheduleSwitched l cycle bank) 6 line 0 [(8, 4, cycle.toNat), (12, 4, bankCode bank)]) ∧
     holds (.cycleHalted l cycle n) 7 line 0 [(8, 4, cycle.toNat), (12, 4, n % wide)] ∧
     holds (.ringError l m i) 8 line 0 [(8, 4, m % wide), (12, 2, i.toNat), (14, 2, 0)] ∧
     (∀ k, holds (.notifyRejected k m i j) 9 (lineCode k) 0 [(8, 4, m % wide), (12, 2, i.toNat), (14, 2, j.toNat)]) ∧
     holds (.bufferStarved l n) 10 line 0 [(8, 4, n % wide), (12, 4, 0)] ∧
     holds (.eventLoss n i) 11 255 0 [(8, 4, n % wide), (12, 2, i.toNat), (14, 2, 0)]) ∧
   [some LineId.line0, some .line1, none].map lineCode = [0, 1, 255] ∧
   [LineState.off, .active, .quiescing, .rest, .waking, .faulted].map lineStateCode = List.range 6 ∧
   [LineReason.start, .restRequest, .stationWake, .masterWake, .wakeDone, .collisionLimit, .stuckLine, .overlongTone, .recover, .deviceStop].map
     lineReasonCode = List.range' 1 10 ∧
   [HealthCause.exchange, .threshold, .stationSet].map healthCauseCode = [1, 2, 3] ∧ [AttentionSource.rsp, .wake].map attentionSourceCode = [1, 2] ∧
   [Initiator.master, .station, .masterAndStation].map initiatorCode = [1, 2, 3] ∧ [BankId.bank0, .bank1].map bankCode = [0, 1])

/-- The backlog drains, oldest first, into the free entries of the ring, each event with the sequence number it took when raised; when the backlog is then empty, events
were lost and an entry is still free, an EVENT_LOSS record follows, which takes the next sequence number and carries the loss count and the first number lost (R91).
In the event drain of a stop the same records are written, and when nothing is left the stop ends (R178). The values the event unit then holds, in a block without
state, are the model's choice (log entry 6). -/
def Obligations.BacklogDrainsIntoFreeEntries : Prop :=
  ∀ s : State, s.EventLaw → s.context.eventRing.size ≤ 1024 →
    let u := s.events
    let free := s.context.eventRing.size - 1 - (u.producer - u.consumer).toNat
    let n := min free u.backlog.length
    let loss := n = u.backlog.length ∧ u.lossCount ≠ 0 ∧ n < free
    let records := u.backlog.take n ++ if loss then [(u.sequence, Event.eventLoss u.lossCount (u.firstLost.getD 0))] else []
    let drained : EventUnit := { u with producer := u.producer + BitVec.ofNat 16 n, backlog := u.backlog.drop n }
    let after : EventUnit :=
      if loss then { drained with producer := drained.producer + 1, sequence := u.sequence + 1, lossCount := 0, firstLost := none } else drained
    let nothingLeft := after.backlog = [] ∧ after.lossCount = 0
    (s.drain = none ∨ ¬nothingLeft → ∃ t, exec .eventBacklogDrain s = .next t ∧ t.events = after ∧
      s.newWrites t = s.eventWrites u.producer records ∧
      (records ≠ [] → (t.vector .vector0).unreported = min 255 ((s.vector .vector0).unreported + records.length)) ∧
      t.line0 = s.line0 ∧ t.line1 = s.line1 ∧ t.vector1 = s.vector1 ∧ t.vector2 = s.vector2 ∧ t.run = s.run ∧ t.drain = s.drain) ∧
    (s.drain.isSome = true → nothingLeft → ∃ t, exec .eventBacklogDrain s = .next t ∧ s.newWrites t = s.eventWrites u.producer records ∧
      t.run = .off ∧ t.drain = none ∧ t.events = EventUnit.fresh)

/-- An outcome report changes only the record of its station: statistics, health, SEQ and attention by the class of the outcome (R39 to R42, R44); a change of state raises
STATION_STATE, then a rising attention flag ATTENTION with source RSP (R43, R44). That every failed report to an OFFLINE station clears the flag is the model's reading (log entry
34), and that one which takes its station to OFFLINE clears it when the exchange was a FETCH that ended STOPPED is the model's choice (log entry 40). -/
def Obligations.OutcomeReportUpdatesTheRecord : Prop :=
  ∀ (l : LineId) (a : Nat) (s : State), 1 ≤ a → a ≤ 62 →
    let r := (s.line l).station a
    let n := (s.line l).params.offlineThreshold
    let after := fun o => ((reportOutcome l a o s).line l).station a
    let answered := { r with state := Health.online, failures := 0, resync := false }
    (r.state = .disabled → ∀ o, reportOutcome l a o s = s) ∧
    (r.state ≠ .disabled →
      (∀ attn f p, after (.success attn f p) =
        { answered with seq := !r.seq, attention := attn || r.attention, good := min 65535 (r.good + 1) }) ∧
      after .busy = { answered with busy := min 65535 (r.busy + 1) } ∧
      (∀ reason, after (.refused reason) = answered) ∧ after (.stopped .nakSeq) = answered ∧ after .lineFault = r ∧
      (∀ o, o = .noResponse ∨ o = .badFrame ∨ o = .stopped .timeout ∨ o = .stopped .badFrame ∨ o = .stopped .collision →
        (r.state = .offline → after o = { r with resync := true, failures := n, attention := false, failed := min 65535 (r.failed + 1) }) ∧
        (r.state ≠ .offline → r.failures + 1 < n → after o =
          { r with resync := true, failures := r.failures + 1, state := .suspect, failed := min 65535 (r.failed + 1) }) ∧
        (r.state ≠ .offline → r.failures + 1 = n → after o =
          { r with resync := true, failures := n, state := .offline, attention := false, failed := min 65535 (r.failed + 1) }))) ∧
    (∀ o b, b ≠ a → ((reportOutcome l a o s).line l).station b = (s.line l).station b) ∧
    (∀ o,
      let r' := after o
      let noted := s.updLine l (fun x => x.setStation a r')
      let moved := if r'.state = r.state then noted else raiseEvent (.stationState l a r.state r'.state r'.failures .exchange) noted
      reportOutcome l a o s =
        if r'.attention = true ∧ r.attention = false then raiseEvent (.attention l a .rsp r'.state) moved else moved)

/-- The CRC of octets followed by their own CRC, high octet first, is 0: what the master sends passes the check a receiver makes (R4). A received frame is well formed
exactly when it passes the six checks (R7), and a CRC error is a frame that passes the first check and fails the second. The first check asks that the frame ended
with its second CRC octet (R6). -/
def Obligations.ReceiverChecksCrcAndForm : Prop :=
  ((∀ d : List Byte, crc (d ++ [byteOf ((crc d).toNat / 256), byteOf (crc d).toNat]) = 0) ∧
     ∀ (c : Coding) (b : Byte), c.octet (c.levels b) = some b) ∧
  (∀ rx : Reception,
     let d := rx.octets
     let len := field d 7 1
     let whole := rx.codingError = false ∧ d.take 2 = [0x55, 0xD3] ∧ 8 ≤ d.length ∧ len ≤ 240 ∧ 10 + len ≤ d.length
     (endsWithCrc rx = true ↔ whole) ∧
     (checkReception rx = .crcError ↔ whole ∧ crc ((d.drop 2).take (8 + len)) ≠ 0) ∧
     ((∃ f, checkReception rx = .wellFormed f) ↔
       whole ∧ crc ((d.drop 2).take (8 + len)) = 0 ∧ field d 3 1 = 63 ∧ field d 4 1 ≤ 63 ∧
         (field d 2 1 = 3 ∨ field d 2 1 = 4 ∧ len = 1 ∧ 1 ≤ field d 8 1 ∧ field d 8 1 ≤ 3 ∨ field d 2 1 = 6 ∧ len = 0)))

/-- The frame that ends an awaiting attempt is classified by the first row that matches (R13). What an attempt does to its exchange: the budget it uses, whether a
further attempt follows, and the outcome when none does (R14, R16, R17, R18). -/
def Obligations.AttemptIsClassifiedAndUsesBudget : Prop :=
  (∀ (x : Exchange) (f : Frame),
     classifyAnswer x .formatError = .badFrame ∧ classifyAnswer x .crcError = .badFrame ∧
     (f.kind = .wake → classifyAnswer x (.wellFormed f) = .badFrame) ∧
     (f.src ≠ x.station → classifyAnswer x (.wellFormed f) = .badFrame) ∧
     (f.kind = .rsp → f.seq ≠ x.seq → classifyAnswer x (.wellFormed f) = .badFrame) ∧
     (f.kind = .rsp → f.src = x.station → f.seq = x.seq →
       classifyAnswer x (.wellFormed f) = .success f.attn f.function f.payload) ∧
     (∀ reason, f.kind = .nak reason → f.src = x.station → classifyAnswer x (.wellFormed f) =
       if reason = 1 then .nakBusy else if reason = 2 then .nakRefused else .nakSeq)) ∧
  (∀ x : Exchange,
     let spent := { x with used := x.used + 1 }
     let last := x.retryLimit + 1 ≤ x.used + 1
     let goesOn := fun (y : Exchange) (o : ExchangeEnd) => (y, if x.stopMark then some o else none)
     (∀ attn f p, x.afterAttempt (.success attn f p) = (x, some (.success attn f p))) ∧
     x.afterAttempt .nakBusy = (x, some .busy) ∧ x.afterAttempt .nakRefused = (x, some (.refused 2)) ∧
     (x.nakSeqSeen = false → x.afterAttempt .nakSeq = goesOn { x with resync := true, nakSeqSeen := true } (.stopped .nakSeq)) ∧
     (x.nakSeqSeen = true → last → x.afterAttempt .nakSeq = (spent, some (.refused 3))) ∧
     (x.nakSeqSeen = true → ¬last → x.afterAttempt .nakSeq = goesOn spent (.stopped .nakSeq)) ∧
     (last → x.afterAttempt .timeout = (spent, some .noResponse) ∧ x.afterAttempt .badFrame = (spent, some .badFrame) ∧
       x.afterAttempt .collision = (spent, some .badFrame)) ∧
     (¬last → ∀ a, a = .timeout ∨ a = .badFrame ∨ a = .collision → x.afterAttempt a = goesOn spent (.stopped a)))

/-- The candidate is the oldest eligible entry: a WAITING traffic entry with no older traffic entry for its station and no older barrier (R63). -/
def Obligations.CandidateIsTheOldestEligibleEntry : Prop :=
  ∀ x : Line,
    let eligible := fun i => ∃ e a, x.entries[i]? = some e ∧ e.body.trafficStation = some a ∧ e.state = .waiting ∧
      ∀ j e', j < i → x.entries[j]? = some e' → e'.body.trafficStation ≠ some a ∧ e'.body.isBarrier = false
    (∀ i, x.candidate = some i ↔ eligible i ∧ ∀ j, j < i → ¬eligible j) ∧ (x.candidate = none ↔ ∀ i, ¬eligible i)

/-- The index of a refused parameter is that of the first value of the named groups that lies out of its range, in index order (R34). A Device Context Block that passes
the checks has the signature and version 1, an aligned index page, aligned rings of permitted sizes, moderation counts of 1 to 255, and parameter sets in range for
both lines (R172, R173). The checks of a start on the block it read, in their order: the first that fails gives the fault code, detail and line; a block that fails
none passes (R173 checks 3 to 10). -/
def Obligations.OutOfRangeValuesAreNotAccepted : Prop :=
  (∀ (m : GroupMask) (block : List Byte),
     let out := fun i => ∃ r v, m.members[i - 1]? = some true ∧ parameterRanges[i - 1]? = some r ∧
       (parameterValues block)[i - 1]? = some v ∧ (v < r.1 ∨ r.2 < v)
     (∀ i, badParameter m block = some i ↔ 1 ≤ i ∧ out i ∧ ∀ j, 1 ≤ j → j < i → ¬out j) ∧
     (badParameter m block = none ↔ ∀ i, 1 ≤ i → ¬out i)) ∧
  (∀ d : List Byte, d.length = 512 → contextFault d = none →
     let c := parseContext d
     d.take 4 = [0x55, 0x4D, 0x32, 0x32] ∧ field d 4 2 = 1 ∧ c.indexPage.toNat % 64 = 0 ∧
       (c.eventRing.SizeOk 16 1024 ∧ c.eventRing.base.toNat % 64 = 0) ∧
       (∀ v, 1 ≤ (c.setting v).moderation ∧ (c.setting v).moderation ≤ 255 ∧ (c.setting v).holdTime ≤ 65535) ∧
       (field d 6 1 = 0 ∧ c.level = false ∨ field d 6 1 = 1 ∧ c.level = true) ∧
       ∀ l,
         let sec := c.lineSection l
         sec.requestRing.SizeOk 8 1024 ∧ sec.requestRing.base.toNat % 64 = 0 ∧
           sec.completionRing.SizeOk 8 1024 ∧ sec.completionRing.base.toNat % 64 = 0 ∧
           sec.bufferRing.SizeOk 4 256 ∧ sec.bufferRing.base.toNat % 64 = 0 ∧ sec.loadedParams.InRange) ∧
  (∀ d : List Byte,
     let c := parseContext d
     let rings : List (RingSpec × Nat × Nat) :=
       [(c.eventRing, 16, 1024), (c.section0.requestRing, 8, 1024), (c.section0.completionRing, 8, 1024), (c.section0.bufferRing, 4, 256),
         (c.section1.requestRing, 8, 1024), (c.section1.completionRing, 8, 1024), (c.section1.bufferRing, 4, 256)]
     let sized := fun r : RingSpec × Nat × Nat => r.1.SizeOk r.2.1 r.2.2
     let based := fun r : RingSpec × Nat × Nat => r.1.base.toNat % 64 = 0
     let bad := fun sec : LineSection => if sec.defaults then none else badParameter GroupMask.all sec.parameters
     let counts := [c.setting0.moderation, c.setting1.moderation, c.setting2.moderation]
     let gives := fun code detail line => contextFault d = some ⟨code, detail, line⟩
     let p3 := d.take 4 = [0x55, 0x4D, 0x32, 0x32]
     let p4 := p3 ∧ field d 4 2 = 1
     let p5 := p4 ∧ c.indexPage.toNat % 64 = 0
     let p6 := p5 ∧ ∀ r, r ∈ rings → sized r
     let p7 := p6 ∧ ∀ r, r ∈ rings → based r
     let p8 := p7 ∧ bad c.section0 = none ∧ bad c.section1 = none
     let p9 := p8 ∧ ∀ n, n ∈ counts → n ≠ 0
     (¬p3 → gives .badSignature 0 0) ∧ (p3 → ¬p4 → gives .badVersion 0 0) ∧ (p4 → ¬p5 → gives .badAlignment 7 0) ∧
     (∀ i r, p5 → rings[i]? = some r → ¬sized r → (∀ j r', j < i → rings[j]? = some r' → sized r') → gives .badRingSize i 0) ∧
     (∀ i r, p6 → rings[i]? = some r → ¬based r → (∀ j r', j < i → rings[j]? = some r' → based r') → gives .badAlignment i 0) ∧
     (∀ i, p7 → bad c.section0 = some i → gives .badParameter i 0) ∧
     (∀ i, p7 → bad c.section0 = none → bad c.section1 = some i → gives .badParameter i 1) ∧
     (∀ i, p8 → counts[i]? = some 0 → (∀ j, j < i → counts[j]? ≠ some 0) → gives .badVectorSetting i 0) ∧
     (p9 → 1 < field d 6 1 → gives .badDeliveryMode 0 0) ∧ (p9 → field d 6 1 ≤ 1 → contextFault d = none))

/-! ## Reset, the register window, start and stop -/

/-- A device reset puts every block, both lines, the run state and the registers to their reset values, keeping CTXLO and CTXHI after a DCTL RESET only; it
writes nothing and in LEVEL mode takes the interrupt line inactive (R179, R169). The queue and the record of reads and of what was issued are the model's
own (log entry 4), and so are the values that stand in lines, events, vectors and context while the blocks hold no state (log entry 6). -/
def Obligations.DeviceResetLeavesTheResetState : Prop :=
  ∀ s : State,
    let after := fun keep : Bool =>
      { State.reset with
        pending := s.pending
        ctxLo := if keep then s.ctxLo else 0
        ctxHi := if keep then s.ctxHi else 0
        reads := s.reads
        nextRead := s.nextRead
        port := s.port ++ if s.context.level && s.anyPending then [.level false] else [] }
    exec .powerOn s = .next (after false) ∧ exec .nReset s = .next (after false) ∧ ∀ enable, exec (.dctlReset enable) s = .next (after true)

/-- A DCTL write with ENABLE set starts an OFF device, or takes it to FAULT when the context address is not 64-octet aligned, and changes nothing elsewhere; a
write with ENABLE clear abandons a start and takes FAULT to OFF, and changes nothing in OFF and STOPPING (R170, R173 check 1). -/
def Obligations.EnableWriteStartsOrAbandons : Prop :=
  ∀ s : State,
    (s.run = .off → (s.ctxHi ++ s.ctxLo).toNat % 64 = 0 → exec .dctlEnableSet s = .next
      { s with
        run := .starting, faultInfo := ⟨.none, 0, 0⟩, contextRead := some s.nextRead
        reads := s.reads ++ [⟨s.nextRead, .context, s.ctxHi ++ s.ctxLo, 512⟩], nextRead := s.nextRead + 1 }) ∧
    (s.run = .off → (s.ctxHi ++ s.ctxLo).toNat % 64 ≠ 0 → exec .dctlEnableSet s = .next
      { s with run := .fault, faultInfo := ⟨.badContextAddress, (s.ctxHi ++ s.ctxLo).toNat % 64, 0⟩, contextRead := none }) ∧
    (s.run ≠ .off → exec .dctlEnableSet s = .next s) ∧
    ∀ b1 b2,
      (s.run = .starting → exec (.dctlEnableClear b1 b2) s = .next { s with run := .off, contextRead := none }) ∧
      (s.run = .fault → exec (.dctlEnableClear b1 b2) s = .next { s with run := .off }) ∧
      (s.run = .off ∨ s.run = .stopping → exec (.dctlEnableClear b1 b2) s = .next s)

/-- Clearing ENABLE in RUNNING enters STOPPING: each line's list is completed but for the entries tied to work on the wire, the staged record too; exchanges in
flight get their stop mark, the collector's claim is withdrawn, the cycle engine loses its start source; the station records and the held descriptors
stay (R176, R177, R127). Each entry of the walk, and the staged record last, completes ABORTED with detail 1 and MARKED clear; every slot still due and not in flight ends
SKIPPED_STOP, and a COMMITTED bank does not become active (R177, R127). The wake detector is disarmed at REST and while QUIESCING, and an episode whose quiesce timer
runs ends (R157). An engine that becomes STOPPED writes its cycle record (R127; log entry 14).
Which line and which engine acts first is left to the command (log entry 8). -/
def Obligations.EntryToStoppingTakesTheBlocksDown : Prop :=
  ∀ (s : State) (line1First cycleFirst : Bool), s.run = .running →
    ∃ t, exec (.dctlEnableClear line1First cycleFirst) s = .next t ∧ t.run = .stopping ∧ t.drain = s.drain ∧
      ∀ l,
        let x := s.line l
        let y := t.line l
        y.entries = x.entries.filter x.stopWake.outlivesWalk ∧ y.intake = { x.intake with staged := none } ∧
          y.completion.producer = x.completion.producer +
            BitVec.ofNat 16 ((x.entries.filter (fun e => !x.stopWake.outlivesWalk e)).length + (if x.intake.staged.isSome then 1 else 0)) ∧
          y.job = x.job.map Job.marked ∧ y.collector = { x.collector with claim := false } ∧ y.state = x.state ∧
          y.detector = (if x.state = .rest ∨ x.state = .quiescing then .disarmed else x.detector) ∧
          y.wake = (if x.state = .quiescing ∧ x.wake.phase = .quiesce then WakeSequence.fresh else x.wake) ∧
          (x.engine.state ≠ .stopped → y.engine.state = .stopped →
            .write (s.context.indexPage + BitVec.ofNat 64 (cycleRecordOffset l)) y.engine.cycleRecord ∈ s.newWrites t) ∧
          y.engine.source = none ∧ y.engine.timer = none ∧ y.engine.pendingStart = false ∧
          y.engine.inactiveBank.state ≠ .committed ∧ y.engine.inactiveBank.state ≠ .loading ∧
          y.stations = x.stations ∧ y.params = x.params ∧ y.buffers = x.buffers ∧
          (∀ e, x.stopWake.outlivesWalk e = true ↔
            (e.state = .inFlight .onLine ∧ e.body.isTraffic = true) ∨
            (e.state = .inFlight .quiescing ∧ (x.wake.phase = .quiet1 ∨ x.wake.phase = .quiet2)) ∨
            (e.state = .inFlight .waking ∧ x.wake.phase ≠ .none ∧ ¬(x.state = .quiescing ∧ x.wake.phase = .quiesce))) ∧
          s.Completes t l ((x.entries.filter (fun e => !x.stopWake.outlivesWalk e) ++ x.intake.staged.toList).map
            (fun e => e.completion x ⟨.aborted, 1, false, false⟩)) ∧
          (x.engine.due = dueSlots x.engine.cycle 1 x.engine.activeBank.slots →
            let g := x.engine
            let left := if g.state = .inCycle ∧ g.stopRequested = false then (if g.stage = .inFlight then g.remaining.drop 1 else g.remaining) else []
            (y.engine.bank g.active).slots = (g.activeBank.ended g.cycle .skippedStop left).slots ∧
              (g.activeBank.statusWrites g.cycle .skippedStop left).Sublist (s.newWrites t)) ∧
          y.engine.lastCompleted = x.engine.lastCompleted ∧ y.engine.active = x.engine.active ∧
          (y.engine.state = .stopped ∨ x.engine.state = .inCycle ∧ x.engine.stage = .inFlight ∧ y.engine.stopRequested = true)

/-- A producer NOTIFY of an enabled line passes when it meets the advance and the outstanding limit, and then replaces the held producer index; otherwise it changes no
index and raises NOTIFY_REJECTED with the index held (R57, R84, R93). Ring id 7 is rejected in RUNNING; a NOTIFY of a disabled line is rejected with held index 0
where it is acted on; elsewhere every NOTIFY is discarded without an event (R171). -/
def Obligations.ProducerNotifyMeetsTwoLimits : Prop :=
  (∀ (l : LineId) (v : Half) (s : State), s.run = .running → (s.context.lineSection l).enable = true →
     let k := (s.line l).intake
     let b := (s.line l).buffers
     let requestSize := (s.context.lineSection l).requestRing.size
     let bufferSize := (s.context.lineSection l).bufferRing.size
     ((v - k.producer).toNat ≤ requestSize ∧ (v - k.consumer).toNat ≤ requestSize - 1 →
       exec (.notifyRequestProducer l v) s = .next (s.updLine l (fun x => { x with intake := { x.intake with producer := v } }))) ∧
     (¬((v - k.producer).toNat ≤ requestSize ∧ (v - k.consumer).toNat ≤ requestSize - 1) →
       exec (.notifyRequestProducer l v) s = .next (raiseEvent (.notifyRejected (some l) (requestRingId l) v k.producer) s)) ∧
     ((v - b.producer).toNat ≤ bufferSize ∧ (v - b.writeBack).toNat ≤ bufferSize - 1 →
       exec (.notifyBufferProducer l v) s = .next (s.updLine l (fun x => { x with buffers := { x.buffers with producer := v } }))) ∧
     (¬((v - b.producer).toNat ≤ bufferSize ∧ (v - b.writeBack).toNat ≤ bufferSize - 1) →
       exec (.notifyBufferProducer l v) s = .next (raiseEvent (.notifyRejected (some l) (bufferRingId l) v b.producer) s)) ∧
     (k.errored = true → exec (.requestFetchIssue l) s = .next s) ∧ (b.errored = true → exec (.descriptorFetchIssue l) s = .next s)) ∧
  (∀ (l : LineId) (v : Half) (s : State),
     (s.run = .running → exec (.notifyRingId7 v) s = .next (raiseEvent (.notifyRejected none 7 v 0) s)) ∧
     (s.run = .running → (s.context.lineSection l).enable = false →
       exec (.notifyRequestProducer l v) s = .next (raiseEvent (.notifyRejected (some l) (requestRingId l) v 0) s) ∧
       exec (.notifyBufferProducer l v) s = .next (raiseEvent (.notifyRejected (some l) (bufferRingId l) v 0) s)) ∧
     (s.run = .running ∨ s.run = .stopping → (s.context.lineSection l).enable = false →
       exec (.notifyCompletionConsumer l v) s = .next (raiseEvent (.notifyRejected (some l) (completionRingId l) v 0) s)) ∧
     (s.run ≠ .running → exec (.notifyRequestProducer l v) s = .next s ∧ exec (.notifyBufferProducer l v) s = .next s ∧
       exec (.notifyRingId7 v) s = .next s) ∧
     (s.run ≠ .running → s.run ≠ .stopping →
       exec (.notifyCompletionConsumer l v) s = .next s ∧ exec (.notifyEventConsumer v) s = .next s))

/-- A completion consumer NOTIFY between the held consumer index and the producer index releases records and returns that much credit; outside it is rejected (R82, R93).
It is acted on in RUNNING and STOPPING (R171). An event consumer NOTIFY between the held consumer index and the producer index frees ring entries, into which the
event unit drains its backlog as in EVENT_BACKLOG_DRAIN, in the event drain of a stop too (log entry 25); outside it is rejected, the rejection being an event like
any other (R92, R93). -/
def Obligations.ConsumerNotifyReleasesRecords : Prop :=
  (∀ (l : LineId) (v : Half) (s : State), s.run = .running ∨ s.run = .stopping → (s.context.lineSection l).enable = true →
     let c := (s.line l).completion
     ((v - c.consumer).toNat ≤ (c.producer - c.consumer).toNat → exec (.notifyCompletionConsumer l v) s = .next
       (s.updLine l (fun x => { x with completion := ⟨c.producer, v, c.credit + (v - c.consumer).toNat⟩ }))) ∧
     ((c.producer - c.consumer).toNat < (v - c.consumer).toNat →
       exec (.notifyCompletionConsumer l v) s = .next (raiseEvent (.notifyRejected (some l) (completionRingId l) v c.consumer) s))) ∧
  (∀ (v : Half) (s : State), s.run = .running ∨ s.run = .stopping →
     let u := s.events
     ((v - u.consumer).toNat ≤ (u.producer - u.consumer).toNat →
       exec (.notifyEventConsumer v) s = exec .eventBacklogDrain { s with events := { u with consumer := v } } ∧
       (s.drain = none → u.backlog = [] → u.lossCount = 0 →
         exec (.notifyEventConsumer v) s = .next { s with events := { u with consumer := v } })) ∧
     ((u.producer - u.consumer).toNat < (v - u.consumer).toNat → s.drain = none ∨ ¬(u.backlog = [] ∧ u.lossCount = 0) →
       exec (.notifyEventConsumer v) s = .next (raiseEvent (.notifyRejected none 0 v u.consumer) s)))

/-- Reading IRQPEND gives the pending flags; writing it clears the pending flag and the count of each pending vector written with 1, leaves every other vector as it was,
and in LEVEL mode takes the interrupt line inactive when the last pending vector is cleared (R97, R98). A write to CTXLO or CTXHI replaces the held value in OFF and
in FAULT and is discarded elsewhere; a write to a read-only register has no effect (R169). What a read of each register returns: IDENT the family code and revision,
DCTL the ENABLE position, DSTAT the run state and both line states, FAULTINFO code, detail and line, CTXLO and CTXHI the held values, NOTIFY 0, with every other bit
0 (R169, R170; spec/11, Registers). The command that a 32-bit write to an offset of the register window spells: by the ring id and index of a NOTIFY, by RESET and
ENABLE of DCTL, and by the positions of IRQPEND; no register stands at any other offset (R169 to R171, R97; spec/11, Registers). Which order of lines and blocks a
stop takes is left to the command's operands, and a register write spells one of them (log entry 8). -/
def Obligations.RegisterWritesActByTheirRegister : Prop :=
  (∀ (w : VectorId → Bool) (s : State),
     let cleared := fun v => w v && (s.vector v).pending
     ((s.readRegister .irqpend).getLsbD 0 = s.vector0.pending ∧ (s.readRegister .irqpend).getLsbD 1 = s.vector1.pending ∧
       (s.readRegister .irqpend).getLsbD 2 = s.vector2.pending) ∧
     ∃ t, exec (.irqpendAcknowledge (w .vector0) (w .vector1) (w .vector2)) s = .next t ∧
       (∀ v, t.vector v = if cleared v then ⟨0, (s.vector v).holdTimer, false⟩ else s.vector v) ∧
       t = { s with
         vector0 := t.vector0, vector1 := t.vector1, vector2 := t.vector2
         port := s.port ++ if s.context.level && s.anyPending && !t.anyPending then [.level false] else [] }) ∧
  (∀ (value : Word) (s : State),
     (s.run = .off ∨ s.run = .fault →
       exec (.registerWrite .ctxlo value) s = .next { s with ctxLo := value } ∧
       exec (.registerWrite .ctxhi value) s = .next { s with ctxHi := value }) ∧
     (s.run = .starting ∨ s.run = .running ∨ s.run = .stopping →
       exec (.registerWrite .ctxlo value) s = .next s ∧ exec (.registerWrite .ctxhi value) s = .next s) ∧
     (∀ r, r = .ident ∨ r = .dstat ∨ r = .faultinfo → exec (.registerWrite r value) s = .next s)) ∧
  (∀ s : State,
     let reads := fun r => (s.readRegister r).toNat
     reads .ident = 0x02200001 ∧
       reads .dctl = (if s.run = .starting ∨ s.run = .running ∨ s.run = .fault then 1 else 0) ∧
       reads .dstat = runStateCode s.run + 256 * lineStateCode s.line0.state + 4096 * lineStateCode s.line1.state ∧
       (s.faultInfo.detail < 256 → s.faultInfo.line ≤ 1 →
         reads .faultinfo = faultCode s.faultInfo.code + 256 * s.faultInfo.detail + 65536 * s.faultInfo.line) ∧
       s.readRegister .ctxlo = s.ctxLo ∧ s.readRegister .ctxhi = s.ctxHi ∧ reads .notify = 0 ∧
       reads .irqpend = (if s.vector0.pending then 1 else 0) + (if s.vector1.pending then 2 else 0) + (if s.vector2.pending then 4 else 0) ∧
       [RunState.off, .starting, .running, .stopping, .fault].map runStateCode = List.range 5 ∧
       [FaultCode.none, .badContextAddress, .contextReadError, .badSignature, .badVersion, .badAlignment, .badRingSize, .badParameter,
         .badVectorSetting, .badDeliveryMode].map faultCode = List.range 10) ∧
  (∀ value : Word,
     let ring := value.toNat / 65536 % 8
     let index := BitVec.ofNat 16 value.toNat
     let spells := fun (offset : Nat) (c : Instr) => decodeRegisterWrite offset value = some c
     (ring = 0 → spells 0x18 (.notifyEventConsumer index)) ∧
     (ring = 1 → spells 0x18 (.notifyRequestProducer .line0 index)) ∧ (ring = 2 → spells 0x18 (.notifyCompletionConsumer .line0 index)) ∧
     (ring = 3 → spells 0x18 (.notifyBufferProducer .line0 index)) ∧ (ring = 4 → spells 0x18 (.notifyRequestProducer .line1 index)) ∧
     (ring = 5 → spells 0x18 (.notifyCompletionConsumer .line1 index)) ∧ (ring = 6 → spells 0x18 (.notifyBufferProducer .line1 index)) ∧
     (ring = 7 → spells 0x18 (.notifyRingId7 index)) ∧
     (value.getLsbD 1 = true → spells 0x04 (.dctlReset (value.getLsbD 0))) ∧
     (value.getLsbD 1 = false → value.getLsbD 0 = true → spells 0x04 .dctlEnableSet) ∧
     (value.getLsbD 1 = false → value.getLsbD 0 = false → spells 0x04 (.dctlEnableClear false false)) ∧
     spells 0x00 (.registerWrite .ident value) ∧ spells 0x08 (.registerWrite .dstat value) ∧ spells 0x0C (.registerWrite .faultinfo value) ∧
     spells 0x10 (.registerWrite .ctxlo value) ∧ spells 0x14 (.registerWrite .ctxhi value) ∧
     spells 0x1C (.irqpendAcknowledge (value.getLsbD 0) (value.getLsbD 1) (value.getLsbD 2)) ∧
     ∀ offset, 0x20 ≤ offset ∨ offset % 4 ≠ 0 → decodeRegisterWrite offset value = none)

/-- The end of the Device Context Block read: with every check passed the part is initialised, RUNNING, each enabled line ACTIVE with the first events of the
run; a failed check or a read error ends the start in FAULT, with the fault echo written when the check was the sixth or a later one (R173, R174). -/
def Obligations.ContextReadEndsTheStart : Prop :=
  ∀ (id : Nat) (a : Addr) (d : List Byte) (s : State), s.run = .starting → s.contextRead = some id →
    s.findRead id = some ⟨id, .context, a, 512⟩ → d.length = 512 →
    let c := parseContext d
    (contextFault d = none → ∃ t, exec (.contextReadDone id (.octets d)) s = .next t ∧ t.run = .running ∧ t.context = c ∧
      t.contextRead = none ∧ t.drain = none ∧ t.faultInfo = s.faultInfo ∧
      (∀ l, t.line l = { Line.fresh (c.lineSection l).loadedParams ((c.lineSection l).completionRing.size - 1) with
        state := if (c.lineSection l).enable then .active else .off }) ∧
      t.events.sequence = BitVec.ofNat 16 (bitNat c.section0.enable + bitNat c.section1.enable) ∧
      t.events.producer = t.events.sequence ∧ t.events.consumer = 0 ∧ t.events.backlog = [] ∧ t.events.lossCount = 0 ∧
      (s.port ++ [.write c.indexPage (zeros 256)]) <+: t.port ∧
      s.newWrites t = .write c.indexPage (zeros 256) :: t.eventWrites 0
        ((if c.section0.enable then [(0, .lineState .line0 .off .active .start)] else []) ++
          if c.section1.enable then [(BitVec.ofNat 16 (bitNat c.section0.enable), .lineState .line1 .off .active .start)] else [])) ∧
    (∀ f, contextFault d = some f → exec (.contextReadDone id (.octets d)) s = .next
      { s.endRead id with
        run := .fault, faultInfo := f, contextRead := none
        port := s.port ++ if echoesFault f then [.write (c.indexPage + 8) [byteOf (faultCode f.code)]] else [] }) ∧
    exec (.contextReadDone id .error) s = .next
      { s.endRead id with run := .fault, faultInfo := ⟨.contextReadError, 0, 0⟩, contextRead := none }

/-- A read not complete within 1 ms is a read error: HOST_READ_TIMEOUT does what an error result does to the block that asked, and the data that arrive later
change nothing (R180).
Reads are named by the model's own numbers (log entry 4). -/
def Obligations.TimedOutReadIsAReadError : Prop :=
  ∀ (id : Nat) (r : HostRead) (s : State), s.findRead id = some r → id < s.nextRead →
    ∃ t, exec (.hostReadTimeout id) s = .next t ∧ exec (r.reader.done id .error) s = .next t ∧
      ∀ result, exec (r.reader.done id result) t = .next t

/-- Intake and the buffer unit each issue a fetch exactly when all their conditions hold: the read of the record at the consumer index is issued, and a request
fetch takes one credit (R58, R85). -/
def Obligations.FetchIsIssuedWhenItsConditionsHold : Prop :=
  ∀ (l : LineId) (s : State),
    let k := (s.line l).intake
    let b := (s.line l).buffers
    let ring := (s.context.lineSection l).requestRing
    let bring := (s.context.lineSection l).bufferRing
    let request := s.run = .running ∧ k.errored = false ∧ k.producer ≠ k.consumer ∧ k.fetch = none ∧ k.staged = none ∧
      1 ≤ (s.line l).completion.credit
    let descriptor := s.run = .running ∧ b.errored = false ∧ b.producer ≠ b.consumer ∧ b.held.length < 2 ∧ b.fetch = none
    (request → exec (.requestFetchIssue l) s = .next
      ((s.updLine l (fun x =>
        { x with
          intake := { k with fetch := some s.nextRead }
          completion := { x.completion with credit := x.completion.credit - 1 } })).issueRead (.request l)
            (ring.base + BitVec.ofNat 64 (32 * (k.consumer.toNat % ring.size))) 32)) ∧
    (¬request → exec (.requestFetchIssue l) s = .next s) ∧
    (descriptor → exec (.descriptorFetchIssue l) s = .next
      ((s.updLine l (fun x => { x with buffers := { b with fetch := some s.nextRead } })).issueRead (.descriptor l)
        (bring.base + BitVec.ofNat 64 (16 * (b.consumer.toNat % bring.size))) 16)) ∧
    (¬descriptor → exec (.descriptorFetchIssue l) s = .next s)

/-- In STOPPING, once no FETCH and no descriptor fetch is in flight, every held descriptor is written back, oldest first, an invalid one with reason INVALID and the
others with reason STOPPED: the list is empty, and the write-back index has risen by the number held (R88, R176). That the return waits for a descriptor fetch is the
model's reading (log entry 21). When the line work of both lines has ended, both go to OFF, line 0 first, each that was not OFF with LINE_STATE reason DEVICE_STOP,
and the event drain begins; it ends at once when nothing is then backlogged or lost; the drain's expiry ends the stop. The end of a stop writes nothing, raises each
vector that has unreported records and is not pending (one message each in mode MESSAGE), discards every block's state, and the run state is OFF (R178). The order of
the vectors (log entry 27) and the values that stand in a block without state (log entry 6) are the model's choices. -/
def Obligations.StopReturnsBuffersAndEnds : Prop :=
  (∀ (l : LineId) (s : State), s.run = .stopping → (s.line l).fetching = false → (s.line l).buffers.fetch = none →
     let b := (s.line l).buffers
     ∃ t, exec (.bufferReturnAtStop l) s = .next t ∧
       t.line l = { s.line l with buffers := { b with held := [], writeBack := b.writeBack + BitVec.ofNat 16 b.held.length } } ∧
       t.events = s.events ∧
       s.newWrites t = s.writeBacks l b.writeBack (b.held.map (fun d => returnedOctets d (if d.usable then 2 else 1)))) ∧
  (∀ s : State, s.run = .stopping →
     let ended := fun u t : State => t.run = .off ∧ t.line0 = Line.absent ∧ t.line1 = Line.absent ∧ t.events = EventUnit.fresh ∧
       t.vector0 = VectorState.fresh ∧ t.vector1 = VectorState.fresh ∧ t.vector2 = VectorState.fresh ∧ t.drain = none ∧
       t.faultInfo = s.faultInfo ∧ t.ctxLo = s.ctxLo ∧ t.ctxHi = s.ctxHi ∧ s.newWrites t = s.newWrites u ∧
       (s.context.level = false → t.port = u.port ++
         ([VectorId.vector0, .vector1, .vector2].filter (fun v => decide ((u.vector v).unreported ≠ 0) && !(u.vector v).pending)).map PortOp.message)
     let down := fun (l : LineId) (u : State) => if (u.line l).state = .off then u else
       raiseEvent (.lineState l (u.line l).state .off .deviceStop) (u.updLine l (fun x => { x with state := .off, detector := .disarmed }))
     let off := down .line1 (down .line0 s)
     (s.drain = none → s.line0.workEnded = true → s.line1.workEnded = true →
       (off.events.backlog = [] → off.events.lossCount = 0 → ∃ t, exec .stopLineWorkEnd s = .next t ∧ ended off t) ∧
       (¬(off.events.backlog = [] ∧ off.events.lossCount = 0) → exec .stopLineWorkEnd s = .next { off with drain := some 10 })) ∧
     (s.drain.isSome = true → ∃ t, exec .eventDrainExpiry s = .next t ∧ ended s t))

/-! ## Requests -/

/-- The end of a request record read: on success the consumer index advances, is written to the index page, and the record is taken; a read error returns the
credit and makes the ring ERRORED with RING_ERROR (R59). In STOPPING the record completes ABORTED unchecked (R177).
Which station such an unchecked record names (log entry 11), and its attempts of 0 (log entry 20), are the model's readings. -/
def Obligations.RequestReadTakesTheRecord : Prop :=
  ∀ (l : LineId) (id : Nat) (a : Addr) (d : List Byte) (s : State), s.findRead id = some ⟨id, .request l, a, 32⟩ →
    (s.line l).intake.fetch = some id → d.length = 32 →
    let k := (s.line l).intake
    let next := (((s.endRead id).updLine l (fun x => { x with intake := { k with consumer := k.consumer + 1, fetch := none } })).hostWrite
      (s.context.indexPage + BitVec.ofNat 64 (requestConsumerOffset l)) (leBytes 2 (k.consumer + 1).toNat))
    (s.run ≠ .stopping → exec (.requestFetchDone l id (.octets d)) s = .next (takeRecord l k.consumer d next)) ∧
    (s.run = .stopping → exec (.requestFetchDone l id (.octets d)) s = .next (complete l
      ⟨halfAt d 2, k.consumer, octetAt d 0, .aborted, false, false, 1, 0, (s.line l).reportedState (namedStation d)⟩ next)) ∧
    exec (.requestFetchDone l id .error) s = .next (raiseEvent (.ringError l (requestRingId l) k.consumer)
      ((s.endRead id).updLine l (fun x =>
        { x with
          intake := { k with errored := true, fetch := none }
          completion := { x.completion with credit := x.completion.credit + 1 } })))

/-- A taken record: a malformed one completes BAD_REQUEST at once; a traffic or barrier record joins the tail of the list in state WAITING, or is staged while the list
holds 8; an ABORT takes no entry. A staged record is appended as soon as an entry has left (R60, R61). A schedule record acts in the step in which it is appended
(R73): a SCHEDULE_LOAD makes an EMPTY or LOADED inactive bank LOADING and reads its slot table, or completes BUSY_SCHEDULE (R105). The attempts of 0 in the
completion of a malformed record are the model's reading (log entry 20). A record is malformed exactly by the checks of its kind: the conditions under which
EXCHANGE, SEND, STATION_SET, STATION_READ, LINE_CONFIG, SCHEDULE_LOAD, SCHEDULE_CONTROL and ABORT records pass, and the kinds that are known (R60, R31, R51, R54,
R74, R104, R108). The fields of a request record that its body takes, by kind (R60; spec/11, Request record). -/
def Obligations.TakenRecordIsCheckedAndPlaced : Prop :=
  (∀ (l : LineId) (i : Half) (d : List Byte) (s : State),
     let entry := fun body : Body => (⟨halfAt d 2, i, octetAt d 0, body, .waiting, 0, 0, false⟩ : Entry)
     (parseBody d = none →
       takeRecord l i d s = complete l ⟨halfAt d 2, i, octetAt d 0, .badRequest, false, false, 0, 0, none⟩ s) ∧
     (∀ body, parseBody d = some body → body.isTraffic = true ∨ body.isBarrier = true → (s.line l).entries.length < 8 →
       takeRecord l i d s = s.updLine l (fun x => { x with entries := x.entries ++ [entry body] })) ∧
     (∀ body, parseBody d = some body → (∀ sel, body ≠ .abort sel) → 8 ≤ (s.line l).entries.length →
       takeRecord l i d s = s.updLine l (fun x => { x with intake := { x.intake with staged := some (entry body) } })) ∧
     (∀ sel, parseBody d = some (.abort sel) → takeRecord l i d s = executeAbort l (entry (.abort sel)) sel s) ∧
     (∀ body, parseBody d = some body → body.isSchedule = true → (s.line l).entries.length < 8 →
       takeRecord l i d s = actSchedule l (entry body) s) ∧
     (∀ e, (s.line l).intake.staged = some e → s.run = .running → (s.line l).entries.length < 8 →
       let u := s.updLine l (fun x => { x with intake := { x.intake with staged := none } })
       (e.body.isTraffic = true ∨ e.body.isBarrier = true → exec (.stagedRecordAppend l) s = .next
         (s.updLine l (fun x => { x with entries := x.entries ++ [e], intake := { x.intake with staged := none } }))) ∧
       (e.body.isSchedule = true → exec (.stagedRecordAppend l) s = .next (actSchedule l e u))) ∧
     (∀ body, parseBody d = some body → body.isTraffic = true ∨ body.isBarrier = true ∨ body.isSchedule = true ∨ ∃ sel, body = .abort sel) ∧
     (∀ e n size table arr base, e.body = .scheduleLoad n size table arr base →
       let g := (s.line l).engine
       (g.inactiveBank.state = .empty ∨ g.inactiveBank.state = .loaded →
         actSchedule l e s = (s.updLine l (fun x => { x with
           engine := g.setBank g.active.other { Bank.empty with state := .loading }
           entries := x.entries ++ [{ e with state := .inFlight (.tableRead s.nextRead) }] })).issueRead (.slotTable l) table (16 * n)) ∧
       (g.inactiveBank.state = .loading ∨ g.inactiveBank.state = .committed →
         actSchedule l e s = complete l (e.completion (s.line l) ⟨.busySchedule, 0, false, false⟩) s))) ∧
  (∀ d : List Byte,
     let passes := (parseBody d).isSome = true
     let range := 1 ≤ field d 12 1 ∧ field d 12 1 ≤ field d 13 1 ∧ field d 13 1 ≤ 62
     (field d 0 1 = 0 ∨ 12 < field d 0 1 → ¬passes) ∧
     (field d 0 1 = 1 → (passes ↔ 1 ≤ field d 4 1 ∧ field d 4 1 ≤ 62 ∧ field d 5 1 ≤ 223 ∧ field d 6 2 ≤ 240)) ∧
     (field d 0 1 = 2 → (passes ↔ field d 4 1 ≤ 62 ∧ field d 5 1 ≤ 223 ∧ field d 6 2 ≤ 240)) ∧
     (field d 0 1 = 3 → (passes ↔ range ∧ (field d 14 1 = 1 ∨ field d 14 1 = 2 ∨ field d 14 1 = 3 ∨
       field d 14 1 = 4 ∧ field d 10 2 ≤ 1 ∨ field d 14 1 = 5 ∧ (field d 10 2 = 0 ∨ 20 ≤ field d 10 2)))) ∧
     (field d 0 1 = 4 → (passes ↔ range ∧ 16 * (field d 13 1 - field d 12 1 + 1) ≤ field d 8 2)) ∧
     (field d 0 1 = 5 → (passes ↔ field d 12 1 ≤ 15 ∧ (field d 12 1 = 0 ∨ bitAt d 1 2 = true ∨ field d 6 2 = 24) ∧
       (field d 8 2 = 0 ∨ 24 ≤ field d 8 2))) ∧
     (6 ≤ field d 0 1 → field d 0 1 ≤ 9 → passes) ∧
     (field d 0 1 = 10 → (passes ↔ 1 ≤ field d 4 1 ∧ field d 4 1 ≤ 64)) ∧
     (field d 0 1 = 11 → (passes ↔ field d 10 1 = 2 ∨ field d 10 1 = 3 ∨ field d 10 1 = 4 ∨
       field d 10 1 = 1 ∧ (field d 11 1 = 1 ∧ 250 ≤ field d 12 4 ∧ field d 12 4 ≤ 1000000 ∨ field d 11 1 = 2 ∨ field d 11 1 = 3))) ∧
     (field d 0 1 = 12 → (passes ↔ field d 12 1 = 1 ∨ field d 12 1 = 2 ∧ field d 10 2 ≤ 62 ∨ field d 12 1 = 3))) ∧
  (∀ (d : List Byte) (body : Body), parseBody d = some body →
     let kind := field d 0 1
     let half := fun off => BitVec.ofNat 16 (field d off 2)
     let address := fun off => BitVec.ofNat 64 (field d off 8)
     let bit := fun off k => (d.getD off 0).getLsbD k
     (kind = 1 → body = .exchange (bit 1 0) (bit 1 1) (field d 4 1) (d.getD 5 0) (field d 6 2) (address 16) (field d 8 2) (address 24)) ∧
     (kind = 2 → body = .send (field d 4 1) (d.getD 5 0) (field d 6 2) (address 16)) ∧
     (kind = 3 → ∃ act, body = .stationSet (field d 12 1) (field d 13 1) act ∧ (field d 14 1 = 1 → act = .enable) ∧ (field d 14 1 = 2 → act = .disable) ∧
       (field d 14 1 = 3 → act = .forget) ∧ (field d 14 1 = 4 → act = .wakeCapable (decide (field d 10 2 = 1))) ∧
       (field d 14 1 = 5 → act = .timeoutOverride (field d 10 2))) ∧
     (kind = 4 → body = .stationRead (field d 12 1) (field d 13 1) (bit 1 3) (address 24)) ∧
     (kind = 5 → body = .lineConfig ⟨bit 12 0, bit 12 1, bit 12 2, bit 12 3⟩ (bit 1 2) (address 16) (field d 8 2) (address 24)) ∧
     (kind = 6 → body = .rest) ∧ (kind = 7 → body = .wake) ∧ (kind = 8 → body = .lineRecover) ∧ (kind = 9 → body = .fence) ∧
     (kind = 10 → body = .scheduleLoad (field d 4 1) (field d 6 2 + 1) (address 16) (address 8) (address 24)) ∧
     (kind = 11 → (field d 10 1 = 1 → field d 11 1 = 1 → body = .scheduleControl (.start (.timer (field d 12 4)))) ∧
       (field d 10 1 = 1 → field d 11 1 = 2 → body = .scheduleControl (.start .sync)) ∧
       (field d 10 1 = 1 → field d 11 1 = 3 → body = .scheduleControl (.start .manual)) ∧ (field d 10 1 = 2 → body = .scheduleControl .stop) ∧
       (field d 10 1 = 3 → body = .scheduleControl .switch) ∧ (field d 10 1 = 4 → body = .scheduleControl .trigger)) ∧
     (kind = 12 → (field d 12 1 = 1 → body = .abort (.tag (half 10))) ∧ (field d 12 1 = 2 → body = .abort (.station (field d 10 2))) ∧
       (field d 12 1 = 3 → body = .abort .all)))

/-- An ABORT completes every matching WAITING or HOLDOFF traffic entry ABORTED with detail 0 and MARKED clear, in list order, marks every matching IN_FLIGHT one, sets the stop mark
of the exchange in flight for one of them, and then completes OK with the number completed at once as detail, MARKED when it marked or found marked an IN_FLIGHT entry, and
station state NONE; these are all its writes (R74, R75). -/
def Obligations.AbortWithdrawsMatchingTraffic : Prop :=
  ∀ (l : LineId) (a : Entry) (sel : AbortSelector) (s : State),
    let x := s.line l
    let hit := fun e : Entry => e.body.isTraffic && (match sel with
      | .tag v => decide (e.tag = v)
      | .station n => decide (e.body.trafficStation = some n)
      | .all => true)
    let gone := x.entries.filter (fun e => hit e && !e.isInFlight)
    let t := executeAbort l a sel s
    let y := t.line l
    y.entries = (x.entries.filter (fun e => !(hit e && !e.isInFlight))).map (fun e => if hit e then { e with abortMark := true } else e) ∧
      y.completion.producer = x.completion.producer + BitVec.ofNat 16 (gone.length + 1) ∧
      y.completion.credit = x.completion.credit ∧
      y.job = (if x.entries.any (fun e => hit e && e.isDoing .onLine) then x.markRequestExchange.job else x.job) ∧
      y.stations = x.stations ∧ y.intake = x.intake ∧ t.events = s.events ∧
      s.newWrites t = s.completionWrites l x.completion.producer (gone.map (fun e => e.completion x ⟨.aborted, 0, false, false⟩) ++
        [a.completion x ⟨.ok, gone.length, false, x.entries.any (fun e => hit e && e.isInFlight)⟩]) ∧
      (a.body = .abort sel → (a.completion x ⟨.ok, gone.length, false, x.entries.any (fun e => hit e && e.isInFlight)⟩).station = none)

/-- The request engine selects the candidate: it completes for the line's or the station's sake, asks for a master wake, or becomes IN_FLIGHT and reads its payload or
waits for the grant (R64, R65). How a traffic request is judged by its station's record: an EXCHANGE by DISABLED and, without PROBE, by OFFLINE; a SEND to a station
by DISABLED only; a broadcast SEND not at all (R46). -/
def Obligations.TrafficSelectJudgesTheCandidate : Prop :=
  (∀ (l : LineId) (i : Nat) (e : Entry) (s : State), s.run = .running → (s.line l).maySelect = true → (s.line l).candidate = some i →
     (s.line l).entries[i]? = some e →
     let x := s.line l
     let ends := fun status => exec (.trafficSelect l) s = .next (finishEntry l i e ⟨status, 0, false, false⟩ s)
     let becomes := fun (work : Work) => s.updLine l (fun x => { x with entries := x.entries.set i { e with state := .inFlight work } })
     (x.state = .faulted → ends .lineFault) ∧
     (x.state = .rest → x.params.autoWake = false → ends .lineAtRest) ∧
     (x.state = .rest → x.params.autoWake = true → ∃ t, exec (.trafficSelect l) s = .next t ∧ (t.line l).state = .waking ∧
       (t.line l).job = some ⟨.tone x.params.wakeToneLength, .toning⟩ ∧ (t.line l).wake.phase = .masterTone ∧
       (t.line l).wake.masterTone = true ∧ (t.line l).entries = x.entries ∧ t.events.sequence = s.events.sequence + 1) ∧
     (x.state = .active → ∀ status, x.judgeTraffic e.body = some status → ends status) ∧
     (x.state = .active → x.judgeTraffic e.body = none →
       (e.body.outPayload.2 = 0 → exec (.trafficSelect l) s = .next (becomes (.awaitGrant []))) ∧
       (e.body.outPayload.2 ≠ 0 → exec (.trafficSelect l) s = .next
         ((becomes (.payloadRead s.nextRead)).issueRead (.payload l) e.body.outPayload.1 e.body.outPayload.2)))) ∧
  (∀ (x : Line) (probe noRetry : Bool) (a : Nat) (f : Byte) (n : Nat) (out : Addr) (cap : Nat) (inn : Addr),
     let state := (x.station a).state
     let exchange := x.judgeTraffic (.exchange probe noRetry a f n out cap inn)
     let send := x.judgeTraffic (.send a f n out)
     (state = .disabled → exchange = some .stationDisabled ∧ (1 ≤ a → send = some .stationDisabled)) ∧
     (state = .offline → exchange = (if probe then none else some .stationOffline) ∧ send = none) ∧
     (state ≠ .disabled → state ≠ .offline → exchange = none ∧ send = none) ∧
     x.judgeTraffic (.send 0 f n out) = none)

/-- The end of an out payload read makes the entry wait for the grant with its payload, or completes it BAD_ADDRESS, or ABORTED when it is marked (R65, R76). The end of
a slot's output data read makes the cycle engine claim the line for it, or records the slot HOST_ERROR (R116). The expiry of an entry's holdoff timer returns the
entry to WAITING and changes nothing else (R69). -/
def Obligations.OutDataReadAndHoldoffExpiry : Prop :=
  (∀ (l : LineId) (id i n : Nat) (e : Entry) (a : Addr) (d : List Byte) (s : State), d.length = n →
     (s.findRead id = some ⟨id, .payload l, a, n⟩ → (s.line l).FirstEntry (fun e => e.isDoing (.payloadRead id)) i e →
       let s' := s.endRead id
       (e.abortMark = false → exec (.payloadReadDone l id (.octets d)) s = .next
         (s'.updLine l (fun x => { x with entries := x.entries.set i { e with state := .inFlight (.awaitGrant d) } })) ∧
         exec (.payloadReadDone l id .error) s = .next (finishEntry l i e ⟨.badAddress, 0, false, false⟩ s')) ∧
       (e.abortMark = true → ∀ r, exec (.payloadReadDone l id r) s = .next (finishEntry l i e ⟨.aborted, 0, false, true⟩ s'))) ∧
     (s.findRead id = some ⟨id, .slotOutput l, a, n⟩ → (s.line l).engine.stage = .outputRead id →
       let s' := s.endRead id
       exec (.slotOutputReadDone l id (.octets d)) s = .next
         (s'.updLine l (fun x => { x with engine := { x.engine with stage := .claiming d } })) ∧
         exec (.slotOutputReadDone l id .error) s = .next (endSlot l .hostError s'))) ∧
  (∀ (l : LineId) (i : Nat) (e : Entry) (timer : Nat) (s : State),
     (s.line l).FirstEntry (fun e' => decide (e'.ringIndex = e.ringIndex) && (match e'.state with | .holdoff _ => true | _ => false)) i e →
     e.state = .holdoff timer →
     exec (.holdoffExpiry l e.ringIndex) s = .next (s.updLine l (fun x => { x with entries := x.entries.set i { e with state := .waiting } })))

/-- A STATION_SET acts as the oldest entry on an idle line that is ACTIVE, at REST or FAULTED: its action on every record of its range, one STATION_STATE for each change
of state, and OK with the number of records changed; nothing else of the line changes (R51, R52, R43). The table of STATION_SET actions on a record (R52). -/
def Obligations.StationSetChangesItsRange : Prop :=
  (∀ (l : LineId) (e : Entry) (rest : List Entry) (first last : Nat) (act : SetAction) (s : State), s.run = .running →
     (s.line l).job = none → (s.line l).entries = e :: rest → e.state = .waiting → e.body = .stationSet first last act →
     (s.line l).state = .active ∨ (s.line l).state = .rest ∨ (s.line l).state = .faulted → 1 ≤ first → first ≤ last → last ≤ 62 →
     ∃ t, exec (.stationSet l) s = .next t ∧
       (∀ a, (t.line l).station a = if first ≤ a ∧ a ≤ last then act.apply ((s.line l).station a) else (s.line l).station a) ∧
       t.line l = { (s.line l).afterCompletion 0 with stations := (t.line l).stations } ∧
       t.events.sequence = s.events.sequence + BitVec.ofNat 16 ((List.range' first (last + 1 - first)).countP
         (fun a => decide ((act.apply ((s.line l).station a)).state ≠ ((s.line l).station a).state))) ∧
       let changed := (List.range' first (last + 1 - first)).countP (fun a => decide (act.apply ((s.line l).station a) ≠ (s.line l).station a))
       let moved := (List.range' first (last + 1 - first)).filterMap (fun a =>
         let r := (s.line l).station a
         let r' := act.apply r
         if r'.state = r.state then none else some (Event.stationState l a r.state r'.state r'.failures .stationSet))
       s.Raises t moved ∧
         s.newWrites t = s.newWrites (raiseAll moved s) ++ [s.completionWrite l ⟨e.tag, e.ringIndex, e.kind, .ok, false, false, changed,
           e.attempts, some (act.apply ((s.line l).station first)).state⟩]) ∧
  (∀ r : Station,
     (r.state = .disabled →
       SetAction.enable.apply r =
         { r with state := .unknown, failures := 0, resync := true, attention := false, good := 0, failed := 0, busy := 0 } ∧
       SetAction.disable.apply r = r ∧ SetAction.forget.apply r = r) ∧
     (r.state ≠ .disabled →
       SetAction.enable.apply r = r ∧ SetAction.disable.apply r = { r with state := .disabled, failures := 0, attention := false } ∧
       SetAction.forget.apply r = { r with state := .unknown, failures := 0, resync := true, attention := false }) ∧
     (∀ v, (SetAction.wakeCapable v).apply r = { r with wakeCapable := v }) ∧
     ∀ v, (SetAction.timeoutOverride v).apply r = { r with timeoutOverride := v })

/-- A STATION_READ acts as the oldest entry: one 16-octet image of each record of its range in ascending address, the statistics set to 0 when CLEAR is set, and OK with
the number of records copied (R54). That CLEAR sets the statistics of a DISABLED record to 0 too is the model's choice (log entry 39). The fields of a station record image at their offsets, the reserved octets 0 (R55; spec/11, Station record image). -/
def Obligations.StationReadWritesTheImages : Prop :=
  (∀ (l : LineId) (e : Entry) (rest : List Entry) (first last : Nat) (clear : Bool) (address : Addr) (s : State), s.run = .running →
     (s.line l).job = none → (s.line l).entries = e :: rest → e.state = .waiting → e.body = .stationRead first last clear address →
     (s.line l).state = .active ∨ (s.line l).state = .rest ∨ (s.line l).state = .faulted → 1 ≤ first → first ≤ last → last ≤ 62 →
     ∃ t, exec (.stationRead l) s = .next t ∧
       (∀ a, (t.line l).station a = if first ≤ a ∧ a ≤ last ∧ clear = true then
         { (s.line l).station a with good := 0, failed := 0, busy := 0 } else (s.line l).station a) ∧
       t.line l = { (s.line l).afterCompletion 0 with stations := (t.line l).stations } ∧ t.events = s.events ∧
       (s.port ++ (List.range' first (last + 1 - first)).map
           (fun a => PortOp.write (address + BitVec.ofNat 64 (16 * (a - first))) (((s.line l).station a).image a)) ++
         [s.completionWrite l ⟨e.tag, e.ringIndex, e.kind, .ok, false, false, last + 1 - first, e.attempts,
           some ((s.line l).station first).state⟩]) <+: t.port) ∧
  (∀ (r : Station) (a : Nat),
     let d := r.image a
     d.length = 16 ∧ field d 0 1 = a % 256 ∧ field d 1 1 = healthCode (some r.state) ∧ field d 2 1 = r.failures % 256 ∧ bitAt d 3 0 = r.seq ∧
       bitAt d 3 1 = r.resync ∧ bitAt d 3 2 = r.attention ∧ bitAt d 3 3 = r.wakeCapable ∧ field d 3 1 < 16 ∧
       field d 4 2 = r.timeoutOverride % 65536 ∧ field d 6 2 = r.good % 65536 ∧ field d 8 2 = r.failed % 65536 ∧ field d 10 2 = r.busy % 65536 ∧
       field d 12 4 = 0)

/-- A LINE_CONFIG that names LINK is refused while the cycle engine runs or the line is FAULTED; with DEFAULTS or an empty mask it installs the Default values of the
named groups and completes OK with the mask, its copy written first; otherwise it issues the read of its Line Parameter Block (R33, R35). The events of the
re-evaluation, and a starvation that begins with attention collection turned on, stand before the copy and the completion (R35, R140, R100; log entry 9). A parameter set in range as
a Line Parameter Block: each parameter at its offset, the reserved octets 0, and the block reads back as the set (R35, R183; spec/11, Line Parameter Block). -/
def Obligations.LineConfigActsByItsMask : Prop :=
  (∀ (l : LineId) (e : Entry) (rest : List Entry) (m : GroupMask) (defaults : Bool) (out : Addr) (cap : Nat) (inn : Addr) (s : State),
     s.run = .running → (s.line l).job = none → (s.line l).entries = e :: rest → e.state = .waiting →
     e.body = .lineConfig m defaults out cap inn →
     (s.line l).state = .active ∨ (s.line l).state = .rest ∨ (s.line l).state = .faulted →
     let x := s.line l
     let copy := fun p : Params => if cap = 0 then [] else [PortOp.write inn p.toBlock]
     let report := fun status detail => s.completionWrite l ⟨e.tag, e.ringIndex, e.kind, status, false, false, detail, e.attempts, none⟩
     let free := m.link = false ∨ x.engine.runs = false ∧ x.state ≠ .faulted
     let moved := (List.range' 1 62).filterMap (fun a =>
       let r := x.station a
       let r' := r.rethreshold x.params.offlineThreshold Params.default.offlineThreshold
       if m.health = false ∨ r'.state = r.state then none else some (Event.stationState l a r.state r'.state r'.failures .threshold))
     (m.link = true → x.engine.runs = true → ∃ t, exec (.lineConfig l) s = .next t ∧ (t.line l).params = x.params ∧
       (t.line l).entries = rest ∧ (s.port ++ copy x.params ++ [report .busySchedule 0]) <+: t.port) ∧
     (m.link = true → x.engine.runs = false → x.state = .faulted → ∃ t, exec (.lineConfig l) s = .next t ∧ (t.line l).params = x.params ∧
       (t.line l).entries = rest ∧ (s.port ++ copy x.params ++ [report .lineFault 0]) <+: t.port) ∧
     (free → defaults = true ∨ m.isEmpty = true → ∃ t, exec (.lineConfig l) s = .next t ∧
       (t.line l).params = x.params.install m Params.default ∧ (t.line l).entries = rest ∧
       (∀ b, 1 ≤ b → b ≤ 62 → (t.line l).station b = (if m.health then
         (x.station b).rethreshold x.params.offlineThreshold Params.default.offlineThreshold else x.station b)) ∧
       ((raiseAll (moved ++ s.starvation l (t.line l)) s).port ++ copy (x.params.install m Params.default) ++ [report .ok m.code]) <+: t.port) ∧
     (free → defaults = false → m.isEmpty = false → ∃ t, exec (.lineConfig l) s = .next t ∧ (t.line l).params = x.params ∧
       (t.line l).entries = { e with state := .inFlight (.blockRead s.nextRead) } :: rest ∧
       t.reads = s.reads ++ [⟨s.nextRead, .parameters l, out, 24⟩])) ∧
  (∀ p : Params, p.InRange →
     let d := p.toBlock
     d.length = 24 ∧ Params.ofBlock d = p ∧ badParameter GroupMask.all d = none ∧
       field d 0 1 = p.rate ∧ field d 1 1 = (match p.coding with | .nrz => 0 | .manchester => 1) ∧ field d 2 1 = p.gap ∧ field d 3 1 = p.retryLimit ∧
       field d 4 2 = p.responseTimeout ∧ field d 6 1 = p.slotRetryLimit ∧ field d 7 1 = p.busyLimit ∧ field d 8 2 = p.busyHoldoff ∧
       field d 10 1 = p.offlineThreshold ∧ field d 11 1 = p.rejoinInterval ∧ field d 12 1 = p.collisionLimit ∧ field d 13 1 = p.wakeToneLength ∧
       field d 14 2 = p.listenWindow ∧ field d 16 2 = p.quiesceTime ∧ field d 18 1 = (if p.autoWake then 1 else 0) ∧
       field d 19 1 = (if p.attentionCollection then 1 else 0) ∧ field d 20 4 = 0)

/-- The end of a Line Parameter Block read: BAD_ADDRESS on a read error, BAD_REQUEST with the index of the first bad parameter, LINE_FAULT when LINK is named and the
line is now FAULTED, and otherwise the named groups installed; the copy of the set in force is written before the completion in every case, and a starvation that
begins with the installed values is raised before both (R33 to R35, R163, R100, R140; log entry 9). A slot in flight whose
frame waits for a new LINK group takes the gap from it (R33; log entry 16). That a
FAULTED line gives LINE_FAULT before a read error does is the model's choice (log entry 15), as is the re-evaluation at this moment with an order in flight (log
entry 32). The re-evaluation of a record after a threshold change (R50; log entry 33). -/
def Obligations.BlockReadInstallsTheNamedGroups : Prop :=
  (∀ (l : LineId) (id i : Nat) (e : Entry) (a : Addr) (m : GroupMask) (defaults : Bool) (out : Addr) (cap : Nat) (inn : Addr) (d : List Byte) (s : State),
     s.findRead id = some ⟨id, .parameters l, a, 24⟩ → d.length = 24 →
     (s.line l).FirstEntry (fun e => e.isDoing (.blockRead id)) i e → e.body = .lineConfig m defaults out cap inn →
     let x := s.line l
     let copy := fun p : Params => if cap = 0 then [] else [PortOp.write inn p.toBlock]
     let report := fun status detail => s.completionWrite l ⟨e.tag, e.ringIndex, e.kind, status, false, false, detail, e.attempts, none⟩
     let moved := (List.range' 1 62).filterMap (fun a =>
       let r := x.station a
       let r' := r.rethreshold x.params.offlineThreshold (Params.ofBlock d).offlineThreshold
       if m.health = false ∨ r'.state = r.state then none else some (Event.stationState l a r.state r'.state r'.failures .threshold))
     let refuses := fun r status detail => ∃ t, exec (.lineParameterBlockReadDone l id r) s = .next t ∧ (t.line l).params = x.params ∧
       (t.line l).stations = x.stations ∧ (t.line l).entries = x.entries.eraseIdx i ∧
       (s.port ++ copy x.params ++ [report status detail]) <+: t.port
     (m.link = true → x.state = .faulted → ∀ r, refuses r .lineFault 0) ∧
     (m.link = false ∨ x.state ≠ .faulted →
       refuses .error .badAddress 0 ∧
       (∀ bad, badParameter m d = some bad → refuses (.octets d) .badRequest bad) ∧
       (badParameter m d = none → ∃ t, exec (.lineParameterBlockReadDone l id (.octets d)) s = .next t ∧
         (t.line l).params = x.params.install m (Params.ofBlock d) ∧ (t.line l).entries = x.entries.eraseIdx i ∧
         (∀ k gap, x.job = some ⟨k, .gapWait gap⟩ → (t.line l).job =
           some ⟨k, .gapWait (if m.link = true ∧ k.isSlot = true then (Params.ofBlock d).gap else gap)⟩) ∧
         (∀ b, 1 ≤ b → b ≤ 62 → (t.line l).station b = (if m.health then
           Station.rethreshold x.params.offlineThreshold (Params.ofBlock d).offlineThreshold (x.station b) else x.station b)) ∧
         ((raiseAll (moved ++ s.starvation l (t.line l)) s).port ++ copy (x.params.install m (Params.ofBlock d)) ++ [report .ok m.code]) <+: t.port))) ∧
  (∀ (old new : Nat) (r : Station),
     (r.state = .disabled ∨ old = new → r.rethreshold old new = r) ∧
     (r.state ≠ .disabled → new < old →
       (new ≤ r.failures → r.rethreshold old new = { r with failures := new, state := .offline, attention := false }) ∧
       (r.failures < new → r.rethreshold old new = r)) ∧
     (old < new →
       (r.state = .offline → r.rethreshold old new = { r with failures := new }) ∧ (r.state ≠ .offline → r.rethreshold old new = r)))

/-! ## Rest, wake and recovery -/

/-- A REST acts as the oldest entry: its four checks in order, or a BARRIER claim; at the grant checks 3 and 4 are made again, and the line goes to QUIESCING with the
first QUIET handed over (R145, R146). The grant of a REST's BARRIER claim: checks 3 and 4 of R145 again, and then QUIESCING, LINE_STATE, phase QUIET_1 and the first
QUIET; the grant counts as the request engine's turn either way (R146, R131). -/
def Obligations.RestMakesItsChecksTwice : Prop :=
  (∀ (l : LineId) (e : Entry) (rest : List Entry) (s : State), s.run = .running → (s.line l).job = none →
     (s.line l).entries = e :: rest → e.state = .waiting → e.body = .rest →
     let x := s.line l
     let pending := x.params.attentionCollection = true ∧ x.attentionSet ≠ []
     let ends := fun status => exec (.rest l) s = .next (finishEntry l 0 e ⟨status, 0, false, false⟩ s)
     (x.state = .faulted → ends .lineFault) ∧ (x.state = .rest → ends .ok) ∧
     (x.state = .active → x.engine.runs = true → ends .busySchedule) ∧
     (x.state = .active → x.engine.runs = false → pending → ends .attentionPending) ∧
     (x.state = .active → x.engine.runs = false → ¬pending → exec (.rest l) s = .next
       (s.updLine l (fun x => { x with entries := { e with state := .inFlight .restClaim } :: rest }))) ∧
     (x.state = .quiescing ∨ x.state = .waking → exec (.rest l) s = .next s)) ∧
  (∀ (l : LineId) (i : Nat) (e : Entry) (s : State), s.run = .running → (s.line l).state = .active → (s.line l).job = none →
     (s.line l).choose = some .barrier → (s.line l).FirstEntry (fun e => e.isDoing .restClaim) i e →
     let x := s.line l
     let turn := fun y : Line => { y with lastGrantee := .requestEngine }
     (∀ status, x.restRefusal = some status →
       exec (.lineGrant l) s = .next (finishEntry l i e ⟨status, 0, false, false⟩ (s.updLine l turn))) ∧
     (x.restRefusal = none → ∃ t, exec (.lineGrant l) s = .next t ∧ t.events.sequence = s.events.sequence + 1 ∧
       s.Raises t [.lineState l .active .quiescing .restRequest] ∧
       t.line l = { x with
         lastGrantee := .requestEngine, state := .quiescing, wake := { x.wake with phase := .quiet1 }
         job := some ⟨.quiet, .gapWait x.params.gap⟩, entries := x.entries.set i { e with state := .inFlight .quiescing } }))

/-- A WAKE acts as the oldest entry: OK on an ACTIVE line, LINE_FAULT on a FAULTED one, and at REST a master wake, whose tone starts at once at the length in force
(R151, R152). A FENCE completes OK with detail 0 in any line state once it is the oldest entry and nothing is in flight, and does nothing else (R71, R72). A
LINE_RECOVER completes OK on an ACTIVE or resting line and begins its watch on a FAULTED one; a watch that stays idle takes the line to ACTIVE with the consecutive
collision count 0, raises LINE_STATE and completes OK; activity ends it STILL_FAULTED with the line as it was (R166). The watch begins even if a
frame has not ended, for the line may be idle by then; activity as it begins is the command RECOVERY_WATCH_ACTIVITY (R2, R6, log entry 28). A frame that was being received as the master's tone begins is cut off by it (log entry 38). A starvation that begins as the
recovered line becomes ACTIVE is raised before the completion (R100, R140; log entry 9). -/
def Obligations.WakeFenceAndRecoverActAsTheOldestEntry : Prop :=
  (∀ (l : LineId) (e : Entry) (rest : List Entry) (s : State), s.run = .running → (s.line l).job = none →
     (s.line l).entries = e :: rest → e.state = .waiting → e.body = .wake →
     let x := s.line l
     (x.state = .active → exec (.wake l) s = .next (finishEntry l 0 e ⟨.ok, 0, false, false⟩ s)) ∧
     (x.state = .faulted → exec (.wake l) s = .next (finishEntry l 0 e ⟨.lineFault, 0, false, false⟩ s)) ∧
     (x.state = .rest → ∃ t, exec (.wake l) s = .next t ∧ t.events.sequence = s.events.sequence + 1 ∧
       s.Raises t [.lineState l .rest .waking .masterWake] ∧
       t.line l = { x with
         state := .waking, job := some ⟨.tone x.params.wakeToneLength, .toning⟩, reception := none, detector := .disarmed
         wake := { WakeSequence.fresh with phase := .masterTone, masterTone := true }
         entries := { e with state := .inFlight .waking } :: rest }) ∧
     (x.state = .quiescing ∨ x.state = .waking → exec (.wake l) s = .next s)) ∧
  (∀ (l : LineId) (e : Entry) (rest : List Entry) (s : State), s.run = .running → (s.line l).job = none →
     (s.line l).entries = e :: rest → e.state = .waiting → e.body = .fence →
     exec (.fence l) s = .next (finishEntry l 0 e ⟨.ok, 0, false, false⟩ s)) ∧
  (∀ (l : LineId) (e : Entry) (rest : List Entry) (s : State), (s.line l).entries = e :: rest →
     let x := s.line l
     (s.run = .running → x.job = none → e.state = .waiting → e.body = .lineRecover →
       (x.state = .active ∨ x.state = .rest → exec (.lineRecover l) s = .next (finishEntry l 0 e ⟨.ok, 0, false, false⟩ s)) ∧
       (x.state = .faulted → exec (.lineRecover l) s = .next
         (s.updLine l (fun x => { x with entries := { e with state := .inFlight .watching } :: rest }))) ∧
       (x.state = .quiescing ∨ x.state = .waking → exec (.lineRecover l) s = .next s)) ∧
     (e.state = .inFlight .watching → e.body = .lineRecover → x.state = .faulted →
       (x.reception = none → ∃ t, exec (.recoveryWatchExpiry l) s = .next t ∧ (t.line l).state = .active ∧
         (t.line l).consecutiveCollisions = 0 ∧ (t.line l).entries = rest ∧ (t.line l).stations = x.stations ∧
         (t.line l).engine = x.engine ∧ (t.line l).counters = x.counters ∧
         ((raiseAll (.lineState l .faulted .active .recover :: s.starvation l (t.line l)) s).port ++
           [s.completionWrite l ⟨e.tag, e.ringIndex, e.kind, .ok, false, false, 0, e.attempts, none⟩]) <+: t.port) ∧
       exec (.recoveryWatchActivity l) s = .next (finishEntry l 0 e ⟨.stillFaulted, 0, false, false⟩ s)))

/-- The quiesce timer's expiry takes the line from QUIESCING to REST and completes the REST OK; a tone recognised at REST or while QUIESCING takes it to WAKING, in the
latter case completing the REST WOKEN (R147, R149, R150); a WAKE that acted at REST in the same moment stays IN_FLIGHT and no master tone is sent (R152, log entry
37). The end of a station's tone and the end of the master's tone open the listen window at the length in force; the window's expiry before any frame leads to a WACK
carrying 0 (R150, R152, R153, R154). A frame that the receiver began within a station's tone is still under way at the tone's end (log entry 38). -/
def Obligations.RestAndTonesMoveTheWakeSequence : Prop :=
  (∀ (l : LineId) (e : Entry) (s : State),
     let x := s.line l
     (x.state = .quiescing → x.wake.phase = .quiesce → x.wake.quiesceTimer.isSome = true →
       x.FirstEntry (fun e => e.isDoing .quiescing) 0 e → e.body = .rest →
       ∃ t, exec (.quiesceTimerExpiry l) s = .next t ∧
         t.line l = { x.afterCompletion 0 with state := .rest, wake := WakeSequence.fresh } ∧
         t.events.sequence = s.events.sequence + 1 ∧ s.Raises t [.lineState l .quiescing .rest .restRequest] ∧
         ((raiseEvent (.lineState l .quiescing .rest .restRequest) s).port ++ [s.completionWrite l ⟨e.tag, e.ringIndex, e.kind, .ok, false, false, 0, e.attempts, none⟩]) <+: t.port) ∧
     (∀ asked, x.detector = .armed → x.transmitting = false → x.state = .rest →
       let joins := asked = true ∧ s.run = .running ∧ x.job = none ∧ ∃ e rest, x.entries = e :: rest ∧ e.state = .waiting ∧ e.body = .wake
       ∃ t, exec (.toneRecognised ⟨l, asked⟩) s = .next t ∧ t.events.sequence = s.events.sequence + 1 ∧
         s.Raises t [.lineState l .rest .waking .stationWake] ∧
         (¬joins → t.line l = { x with
           state := .waking, job := none, detector := .toneSeen, wake := { WakeSequence.fresh with phase := .toneIn } }) ∧
         ∀ e rest, joins → x.entries = e :: rest → t.line l = { x with
           state := .waking, job := none, detector := .toneSeen, wake := { WakeSequence.fresh with phase := .toneIn }
           entries := { e with state := .inFlight .waking } :: rest }) ∧
     (∀ asked, x.detector = .armed → x.transmitting = false → x.state = .quiescing →
       x.FirstEntry (fun e => e.isDoing .quiescing) 0 e → e.body = .rest →
       ∃ t, exec (.toneRecognised ⟨l, asked⟩) s = .next t ∧ t.events.sequence = s.events.sequence + 1 ∧
         s.Raises t [.lineState l .quiescing .waking .stationWake] ∧
         t.line l = { x.afterCompletion 0 with
           state := .waking, job := none, detector := .toneSeen, wake := { WakeSequence.fresh with phase := .toneIn } } ∧
         ((raiseEvent (.lineState l .quiescing .waking .stationWake) s).port ++ [s.completionWrite l ⟨e.tag, e.ringIndex, e.kind, .woken, false, false, 0, e.attempts, none⟩]) <+: t.port)) ∧
  (∀ (l : LineId) (n : Nat) (s : State),
     let x := s.line l
     let opened := fun y : Line => { y with job := none, wake := { y.wake with phase := .listen, windowTimer := some y.params.listenWindow } }
     (x.detector = .toneSeen → x.wake.phase = .toneIn →
       exec (.toneEnd l) s = .next (s.updLine l (fun y => opened { y with detector := .disarmed }))) ∧
     (x.job = some ⟨.tone n, .toning⟩ → exec (.masterToneEnd l) s = .next (s.updLine l opened)) ∧
     (x.wake.phase = .listen → x.wake.windowTimer.isSome = true → exec (.listenWindowExpiry l) s = .next
       (s.updLine l (fun y => { y with
         wake := { y.wake with phase := .closing, result := some .silence, windowTimer := none, acknowledged := 0, rollCall := [] }
         job := some ⟨.wack 0, .gapWait y.params.gap⟩ }))))

/-- The frame that decides the listen window: a valid WAKE from a station 1 to 62 leads to a WACK naming it and sets its attention flag unless it is DISABLED; any other
frame, a WAKE from another address too, leads to a roll call of the wake-capable stations that are neither DISABLED nor OFFLINE, from the lowest address on (R153,
R154, R155). In STOPPING no station is queried, and the roll call goes to CLOSING at once (R157). -/
def Obligations.ListenWindowIsDecidedByItsFirstFrame : Prop :=
  ∀ (l : LineId) (rx : Reception) (g : Signalling) (s : State),
    let x := s.line l
    x.state = .waking → x.wake.phase = .listen → x.reception = some ⟨.window, g⟩ → x.job = none → s.run = .running ∨ s.run = .stopping →
    let wakes := fun f : Frame => f.kind = .wake ∧ 1 ≤ f.src ∧ f.src ≤ 62
    (∀ f, checkReception rx = .wellFormed f → wakes f →
      ∃ t, exec (.frameReceived l rx) s = .next t ∧ (t.line l).wake.phase = .closing ∧ (t.line l).wake.acknowledged = f.src ∧
        (t.line l).wake.result = some .validWake ∧ (t.line l).job = some ⟨.wack f.src, .gapWait x.params.gap⟩ ∧
        (t.line l).station f.src =
          (if (x.station f.src).state = .disabled then x.station f.src else { x.station f.src with attention := true }) ∧
        s.Raises t (if (x.station f.src).state ≠ .disabled ∧ (x.station f.src).attention = false then
          [.attention l f.src .wake (x.station f.src).state] else []) ∧
        t.events.sequence = s.events.sequence +
          (if (x.station f.src).state ≠ .disabled ∧ (x.station f.src).attention = false then 1 else 0)) ∧
    ((∀ f, checkReception rx = .wellFormed f → ¬wakes f) →
      ∃ t, exec (.frameReceived l rx) s = .next t ∧ (t.line l).stations = x.stations ∧ (t.line l).wake.result = some .garbage ∧
        (x.rollCallList = [] ∨ s.run = .stopping → (t.line l).wake.phase = .closing ∧ (t.line l).wake.acknowledged = 0 ∧
          (t.line l).wake.rollCall = [] ∧ (t.line l).wake.queried = x.wake.queried ∧ (t.line l).job = some ⟨.wack 0, .gapWait x.params.gap⟩) ∧
        ∀ a more, s.run = .running → x.rollCallList = a :: more → (t.line l).wake.phase = .rollCall ∧ (t.line l).wake.rollCall = more ∧
          (t.line l).wake.queried = x.wake.queried + 1 ∧
          (t.line l).job = some ⟨.exchange (x.takeExchange a 241 [] 0 .wakeSequence), .gapWait x.params.gap⟩) ∧
    ∀ a, a ∈ x.rollCallList ↔ 1 ≤ a ∧ a ≤ 62 ∧ (x.station a).wakeCapable = true ∧ (x.station a).state ≠ .disabled ∧
      (x.station a).state ≠ .offline

/-! ## The line controller -/

/-- A start of a transmission waits for the gap: when it has run, the frame begins, unless a frame is being received; a CMD counts towards the attempts used (R2, R14).
The frame of a slot waits as long as a LINE_CONFIG that names LINK reads its block, for its cycle runs under the new values (R33; log entry 16).
What is sent is a frame with SRC 63, SEQ and RESYNC only in a CMD, and a CRC over header and payload (R3, R15, R21, R22). The last octet of a frame sent with
readback intact clears the consecutive collision count: a CMD starts the response timeout (R11), a QUIET arms the detector and is followed by the second QUIET or by
the quiesce time (R147), a SEND's DAT completes its request OK with one attempt (R21, R70), the DAT of an OUTPUT slot ends the slot OK (R117). The quiesce time is
read at this moment (log entry 29). A QUIET sent in STOPPING is the last: the episode ends with the line still QUIESCING, and the REST completes ABORTED with detail 1
(R157, R177). -/
def Obligations.FramesBeginAfterTheGapAndEndIntact : Prop :=
  (∀ (l : LineId) (gap a : Nat) (x : Exchange) (d : DataOrder) (s : State), (s.line l).reception = none →
     let header := fun (kind dest flags : Nat) (function : Byte) (payload : List Byte) =>
       [byteOf kind, byteOf dest, 63, byteOf flags, function, byteOf payload.length] ++ payload
     let framed := fun body : List Byte => [0x55, 0xD3] ++ body ++ [byteOf ((crc body).toNat / 256), byteOf (crc body).toNat]
     let begins := fun (kind : JobKind) (octets : List Byte) =>
       exec (.gapElapsed l) s = .next (s.updLine l (fun y => { y with job := some ⟨kind, .sending ⟨y.params.rate, y.params.coding⟩ octets⟩ }))
     let readsLink := ∃ e id m defaults out n b, e ∈ (s.line l).entries ∧ e.state = .inFlight (.blockRead id) ∧
       e.body = .lineConfig m defaults out n b ∧ m.link = true
     ((s.line l).job = some ⟨.exchange x, .gapWait gap⟩ → x.claimant = .cycleEngine → readsLink → exec (.gapElapsed l) s = .next s) ∧
     ((s.line l).job = some ⟨.data d, .gapWait gap⟩ → d.claimant = .cycleEngine → readsLink → exec (.gapElapsed l) s = .next s) ∧
     ((s.line l).job = some ⟨.exchange x, .gapWait gap⟩ → x.claimant ≠ .cycleEngine ∨ ¬readsLink → begins (.exchange { x with cmds := x.cmds + 1 })
       (framed (header 1 x.station ((if x.seq then 1 else 0) + 2 * (if x.resync then 1 else 0)) x.function x.payload))) ∧
     ((s.line l).job = some ⟨.data d, .gapWait gap⟩ → d.claimant ≠ .cycleEngine ∨ ¬readsLink → begins (.data d) (framed (header 2 d.station 0 d.function d.payload))) ∧
     ((s.line l).job = some ⟨.quiet, .gapWait gap⟩ → begins .quiet (framed (header 5 0 0 0 []))) ∧
     ((s.line l).job = some ⟨.wack a, .gapWait gap⟩ → begins (.wack a) (framed (header 7 0 0 0 [byteOf a])))) ∧
  (∀ (l : LineId) (i : Nat) (e : Entry) (x : Exchange) (d : DataOrder) (g : Signalling) (octets : List Byte) (s : State),
     let y := s.line l
     (y.job = some ⟨.exchange x, .sending g octets⟩ → exec (.cmdSent l) s = .next
       (s.updLine l (fun y => { y with consecutiveCollisions := 0, job := some ⟨.exchange x, .awaiting⟩ }))) ∧
     (y.job = some ⟨.quiet, .sending g octets⟩ → s.run = .running → y.wake.phase = .quiet1 → exec (.quietSent l) s = .next
       (s.updLine l (fun y => { y with
         consecutiveCollisions := 0, detector := .armed, wake := { y.wake with phase := .quiet2 }
         job := some ⟨.quiet, .gapWait y.params.gap⟩ }))) ∧
     (y.job = some ⟨.quiet, .sending g octets⟩ → s.run = .running → y.wake.phase = .quiet2 → exec (.quietSent l) s = .next
       (s.updLine l (fun y => { y with
         consecutiveCollisions := 0, job := none
         wake := { y.wake with phase := .quiesce, quiesceTimer := some y.params.quiesceTime } }))) ∧
     (y.job = some ⟨.quiet, .sending g octets⟩ → s.run = .stopping →
       let u := s.updLine l (fun y => { y with consecutiveCollisions := 0, job := none, wake := WakeSequence.fresh })
       (y.FirstEntry (fun e => e.isDoing .quiescing) i e → exec (.quietSent l) s = .next (finishEntry l i e ⟨.aborted, 1, false, false⟩ u)) ∧
       ((∀ e, e ∈ y.entries → e.isDoing .quiescing = false) → exec (.quietSent l) s = .next u)) ∧
     (y.job = some ⟨.data d, .sending g octets⟩ → d.claimant = .cycleEngine → exec (.datSent l) s = .next
       (endSlot l .ok (s.updLine l (fun y => { y with consecutiveCollisions := 0, job := none })))) ∧
     (y.job = some ⟨.data d, .sending g octets⟩ → d.claimant = .requestEngine → y.FirstEntry (fun e => e.isDoing .onLine) i e →
       exec (.datSent l) s = .next (finishEntry l i { e with attempts := 1 } ⟨.ok, 0, false, false⟩
         (s.updLine l (fun y => { y with consecutiveCollisions := 0, job := none })))))

/-- A WACK sent intact ends the wake: one WAKE event, then LINE_STATE with the line ACTIVE, the episode over, and behind the events a WAKE request that waited completes OK
with the acknowledged station as detail, or in STOPPING ABORTED with detail 1 (R156, R151, R100, R157, R177). A starvation that begins as the line becomes ACTIVE is
raised behind LINE_STATE and before the completion (R140; log entry 9). -/
def Obligations.WackSentEndsTheWake : Prop :=
  ∀ (l : LineId) (a : Nat) (g : Signalling) (octets : List Byte) (s : State),
    let x := s.line l
    x.job = some ⟨.wack a, .sending g octets⟩ → s.run = .running ∨ s.run = .stopping → x.state = .waking →
    ∃ t, exec (.wackSent l) s = .next t ∧ (t.line l).state = .active ∧ (t.line l).job = none ∧
      (t.line l).wake = WakeSequence.fresh ∧ (t.line l).consecutiveCollisions = 0 ∧ (t.line l).stations = x.stations ∧
      let events := [
        .wake l x.wake.acknowledged
          (if x.wake.masterTone then (if x.wake.result = some .validWake then .masterAndStation else .master) else .station)
          (decide (x.wake.result = some .garbage))
          (decide (x.wake.acknowledged ≠ 0) && !(x.station x.wake.acknowledged).wakeCapable) x.wake.queried,
        .lineState l .waking .active .wakeDone] ++ s.starvation l (t.line l)
      s.Raises t events ∧
      ((∀ e, e ∈ x.entries → e.isDoing .waking = false) → (t.line l).entries = x.entries ∧ s.newWrites t = s.newWrites (raiseAll events s)) ∧
      ∀ i e, x.FirstEntry (fun e => e.isDoing .waking) i e → (t.line l).entries = x.entries.eraseIdx i ∧
        s.newWrites t = s.newWrites (raiseAll events s) ++ [s.completionWrite l (e.completion x
          (if s.run = .stopping then ⟨.aborted, 1, false, false⟩ else ⟨.ok, x.wake.acknowledged, false, false⟩))]

/-- The first octet of a received frame stops the response timeout or the window timer, and fixes to whom the frame will go (R8, R12, R153); it ends a recovery watch
STILL_FAULTED (R166). Nothing is received while the master transmits, or on an OFF line but in the event drain of a stop (R6, R168; log entry 19); a frame whose
start was not told begins as it ends (log entry 17). A frame received while the master neither awaits an answer nor listens: a well-formed one counts as a stray
frame, one with a CRC error as such, a format error not at all; nothing else of the line changes (R7, R8, R168).
A frame that ends with its second CRC octet within a recovery watch is activity in it and ends it STILL_FAULTED before it is counted; a broken frame that ends by idle
leaves the watch running (R2, R6, R166; log entry 28). -/
def Obligations.ReceptionStopsTimersAndCountsStrays : Prop :=
  (∀ (l : LineId) (x : Exchange) (rx : Reception) (s : State),
     let y := s.line l
     let receives := y.state ≠ .off ∨ s.run = .stopping ∧ (s.context.lineSection l).enable = true
     (¬receives ∨ y.transmitting = true → exec (.receivedFrameStart l) s = .next s ∧ exec (.frameReceived l rx) s = .next s) ∧
     (receives → y.transmitting = false → y.reception ≠ none → exec (.receivedFrameStart l) s = .next s) ∧
     (receives → y.transmitting = false → y.reception = none → y.job = none → y.wake.phase ≠ .listen → ∀ i e,
       y.FirstEntry (fun e => e.isDoing .watching) i e → exec (.receivedFrameStart l) s = .next
         ((finishEntry l i e ⟨.stillFaulted, 0, false, false⟩ s).updLine l
           (fun y => { y with reception := some ⟨.other, ⟨y.params.rate, y.params.coding⟩⟩ }))) ∧
     (receives → y.transmitting = false → y.reception = none → (∀ e, e ∈ y.entries → e.isDoing .watching = false) →
     (y.job = some ⟨.exchange x, .awaiting⟩ → exec (.receivedFrameStart l) s = .next
       (s.updLine l (fun y => { y with reception := some ⟨.answer, ⟨y.params.rate, y.params.coding⟩⟩, job := some ⟨.exchange x, .answering⟩ }))) ∧
     (y.job = none → y.wake.phase = .listen → y.wake.windowTimer.isSome = true → exec (.receivedFrameStart l) s = .next
       (s.updLine l (fun y => { y with reception := some ⟨.window, ⟨y.params.rate, y.params.coding⟩⟩, wake := { y.wake with windowTimer := none } }))) ∧
     (y.job = none → y.wake.phase ≠ .listen → exec (.receivedFrameStart l) s = .next
       (s.updLine l (fun y => { y with reception := some ⟨.other, ⟨y.params.rate, y.params.coding⟩⟩ }))) ∧
     exec (.frameReceived l rx) s = exec (.frameReceived l rx) (s.updLine l Line.beginReception))) ∧
  (∀ (l : LineId) (rx : Reception) (g : Signalling) (s : State),
     (s.line l).state ≠ .off ∨ s.run = .stopping ∧ (s.context.lineSection l).enable = true → (s.line l).transmitting = false →
     (s.line l).reception = some ⟨.other, g⟩ →
     let y := s.line l
     let leaves := fun (k : Counters) (writes : List PortOp) => ∃ t, exec (.frameReceived l rx) s = .next t ∧
       t.line l = { y with reception := none, counters := k, collector := { (t.line l).collector with rotation := y.collector.rotation } } ∧
       (s.port ++ writes) <+: t.port
     let block := fun k : Counters => PortOp.write (s.context.indexPage + BitVec.ofNat 64 (counterBlockOffset l)) k.octets
     let stray := { y.counters with strayFrames := y.counters.strayFrames + 1 }
     let bad := { y.counters with crcErrors := y.counters.crcErrors + 1 }
     (endsWithCrc rx = false ∨ (∀ e, e ∈ y.entries → e.isDoing .watching = false) →
       (∀ f, checkReception rx = .wellFormed f → leaves stray [block stray]) ∧
       (checkReception rx = .crcError → leaves bad [block bad]) ∧
       (checkReception rx = .formatError → leaves y.counters [])) ∧
     (∀ i e, endsWithCrc rx = true → y.FirstEntry (fun e => e.isDoing .watching) i e →
       let ends := fun (k : Counters) (writes : List PortOp) => ∃ t, exec (.frameReceived l rx) s = .next t ∧
         t.line l = { y.afterCompletion i with
           reception := none, counters := k, collector := { (t.line l).collector with rotation := y.collector.rotation } } ∧
         ([s.completionWrite l ⟨e.tag, e.ringIndex, e.kind, .stillFaulted, false, false, 0, e.attempts,
           y.reportedState e.body.reportStation⟩] ++ writes) <+: s.newWrites t
       (∀ f, checkReception rx = .wellFormed f → ends stray [block stray]) ∧
       (checkReception rx = .crcError → ends bad [block bad]) ∧ (checkReception rx = .formatError → ends y.counters [])) ∧
     ∀ k : Counters, k.octets.length = 20 ∧ field k.octets 0 4 = k.collisions.toNat ∧ field k.octets 4 4 = k.crcErrors.toNat ∧
       field k.octets 8 4 = k.timeouts.toNat ∧ field k.octets 12 4 = k.strayFrames.toNat ∧ field k.octets 16 4 = k.faultsEntered.toNat)

/-- A response timeout counts, and the counter block is written at once; with budget left and no stop mark a further attempt waits for the gap, and the station record is as
it was; with the budget used up the station's record takes a failed report, and behind the events of that report an EXCHANGE request completes NO_RESPONSE (R11, R14,
R17, R39, R66, R100, R168). -/
def Obligations.ResponseTimeoutRetriesOrFails : Prop :=
  ∀ (l : LineId) (x : Exchange) (s : State), (s.line l).job = some ⟨.exchange x, .awaiting⟩ → 1 ≤ x.station → x.station ≤ 62 →
    let y := s.line l
    let counted := { y.counters with timeouts := y.counters.timeouts + 1 }
    let block := PortOp.write (s.context.indexPage + BitVec.ofNat 64 (counterBlockOffset l)) counted.octets
    ∃ t, exec (.responseTimeout l) s = .next t ∧ (t.line l).counters = counted ∧ (s.port ++ [block]) <+: t.port ∧
      (x.used + 1 < x.retryLimit + 1 → x.stopMark = false →
        (t.line l).job = some ⟨.exchange { x with used := x.used + 1 }, .gapWait y.params.gap⟩ ∧ (t.line l).stations = y.stations ∧
          (t.line l).entries = y.entries) ∧
      (x.retryLimit + 1 ≤ x.used + 1 → x.claimant ≠ .wakeSequence →
        (t.line l).job = none ∧ (t.line l).station x.station = (y.station x.station).applyReport y.params.offlineThreshold .noResponse) ∧
      (x.retryLimit + 1 ≤ x.used + 1 → x.claimant = .requestEngine → ∀ i e, y.FirstEntry (fun e => e.isDoing .onLine) i e →
        (t.line l).entries = y.entries.eraseIdx i ∧ ∃ front, (reportOutcome l x.station .noResponse (s.issue block)).port <+: front ∧
          (front ++ [s.completionWrite l ⟨e.tag, e.ringIndex, e.kind, .noResponse, false, false, 0, min 255 (e.attempts + x.cmds),
            (t.line l).reportedState e.body.reportStation⟩]) <+: t.port)

/-- A well-formed RSP that answers an EXCHANGE request: the report is applied (good exchanges, ONLINE, SEQ toggled), then the payload that fits is written to the in
buffer, then the request completes OK with the RSP's LENGTH as detail and the station's new state (R39, R40, R66, R67). A response timeout or an answering frame ends
the attempt: with an outcome the exchange ends, its report is applied and then the outcome handed to its claimant; with none a further attempt waits for the gap
(R14, R19, R39). A starvation that the report begins is raised before the outcome is handed over (R100, R140), and the collector looks again at its conditions at the
end of the step (log entry 9). What the request engine makes of each outcome of an EXCHANGE, with
the attempts added: SUCCESS completes OK, REFUSED, NO_RESPONSE and BAD_FRAME complete with their status whatever the mark, BUSY follows the busy rule, STOPPED
completes ABORTED (R66, R67, R68); at a device stop BUSY and STOPPED complete ABORTED with detail 1 (R177). -/
def Obligations.AnswerCompletesTheExchangeRequest : Prop :=
  (∀ (l : LineId) (rx : Reception) (x : Exchange) (i : Nat) (e : Entry) (attn : Bool) (function : Byte) (payload : List Byte) (g : Signalling) (s : State),
     let y := s.line l
     y.state = .active → y.job = some ⟨.exchange x, .answering⟩ → y.reception = some ⟨.answer, g⟩ → x.claimant = .requestEngine →
     1 ≤ x.station → x.station ≤ 62 → y.FirstEntry (fun e => e.isDoing .onLine) i e → e.body.reportStation = x.station →
     classifyAnswer x (checkReception rx) = .success attn function payload → (y.station x.station).state ≠ .disabled →
     let n := min payload.length e.body.inBuffer.2
     let data := if n = 0 then [] else [PortOp.write e.body.inBuffer.1 (payload.take n)]
     ∃ t front, exec (.frameReceived l rx) s = .next t ∧ (t.line l).job = none ∧ (t.line l).reception = none ∧
       (reportOutcome l x.station (.success attn function payload) s).port <+: front ∧
       (t.line l).station x.station = { y.station x.station with
         state := .online, failures := 0, resync := false, seq := !(y.station x.station).seq
         good := min 65535 ((y.station x.station).good + 1), attention := attn || (y.station x.station).attention } ∧
       (t.line l).entries = y.entries.eraseIdx i ∧
       (front ++ data ++ [s.completionWrite l ⟨e.tag, e.ringIndex, e.kind, .ok, decide (e.body.inBuffer.2 < payload.length), false,
         payload.length, min 255 (e.attempts + x.cmds), some .online⟩]) <+: t.port) ∧
  (∀ (l : LineId) (rx : Reception) (x : Exchange) (g : Signalling) (s : State),
     let y := s.line l
     let ends := fun (a : AttemptEnd) (u t : State) =>
       (∀ o, (x.afterAttempt a).2 = some o → t = settle l (x.handedOver l o u)) ∧
       ((x.afterAttempt a).2 = none →
         t = settle l (u.updLine l (fun y => { y with job := some ⟨.exchange (x.afterAttempt a).1, .gapWait y.params.gap⟩ })))
     (y.job = some ⟨.exchange x, .awaiting⟩ → ∃ t, exec (.responseTimeout l) s = .next t ∧
       ends .timeout (countOnLine l (fun k => { k with timeouts := k.timeouts + 1 }) s) t) ∧
     (y.state ≠ .off → y.job = some ⟨.exchange x, .answering⟩ → y.reception = some ⟨.answer, g⟩ → ∃ t, exec (.frameReceived l rx) s = .next t ∧
       let u := s.updLine l (fun y => { y with reception := none })
       ends (classifyAnswer x (checkReception rx))
         (if checkReception rx = .crcError then countOnLine l (fun k => { k with crcErrors := k.crcErrors + 1 }) u else u) t)) ∧
  (∀ (l : LineId) (i : Nat) (e : Entry) (cmds : Nat) (s : State), (s.line l).FirstEntry (fun e => e.isDoing .onLine) i e →
     let p := (s.line l).params
     let e' := { e with attempts := min 255 (e.attempts + cmds) }
     let count := e.busyCount + 1
     let ends := fun (o : ExchangeEnd) (how : Ending) (u : State) => requestOutcome l o cmds s = finishEntry l i e' how u
     (∀ attn f payload, let n := min payload.length e.body.inBuffer.2
       ends (.success attn f payload) ⟨.ok, payload.length, decide (e.body.inBuffer.2 < payload.length), false⟩
         (if n = 0 then s else s.hostWrite e.body.inBuffer.1 (payload.take n))) ∧
     (∀ reason, ends (.refused reason) ⟨.refused, reason, false, false⟩ s) ∧ ends .noResponse ⟨.noResponse, 0, false, false⟩ s ∧
     ends .badFrame ⟨.badFrame, 0, false, false⟩ s ∧
     (s.run = .stopping → ends .busy ⟨.aborted, 1, false, false⟩ s ∧ ∀ last, ends (.stopped last) ⟨.aborted, 1, false, false⟩ s) ∧
     (s.run ≠ .stopping → e.abortMark = true → ∀ last, ends (.stopped last) ⟨.aborted, 0, false, true⟩ s) ∧
     (s.run ≠ .stopping →
       (p.busyLimit < count → ends .busy ⟨.busyExpired, count, false, false⟩ s) ∧
       (count ≤ p.busyLimit → e.abortMark = true → ends .busy ⟨.aborted, 0, false, true⟩ s) ∧
       (count ≤ p.busyLimit → e.abortMark = false → requestOutcome l .busy cmds s = s.updLine l (fun x =>
         { x with entries := x.entries.set i { e' with busyCount := count, state := .holdoff p.busyHoldoff } }))))

/-- A collision below the collision limit raises both counts, writes the counter block, and ends the transmission as collided: an exchange's attempt ends COLLISION, a SEND
completes BAD_FRAME, an OUTPUT slot ends BAD_FRAME, an exchange whose budget it uses up, or whose stop mark is set, ends and its outcome is handed to its claimant, a WACK or a QUIET is handed over again in the same phase (R9, R14, R17, R18, R19, R21, R70, R117, R147, R156, R159). A QUIET that collides
during a stop is not sent again (log entry 26). The collector looks again at its conditions at the end of the step (log entry 9). -/
def Obligations.CollisionBelowTheLimitEndsTheTransmission : Prop :=
  ∀ (l : LineId) (kind : JobKind) (g : Signalling) (octets : List Byte) (cycleFirst : Bool) (s : State),
    let y := s.line l
    y.job = some ⟨kind, .sending g octets⟩ → y.consecutiveCollisions + 1 < y.params.collisionLimit →
    let counted := { y.counters with collisions := y.counters.collisions + 1 }
    let block := PortOp.write (s.context.indexPage + BitVec.ofNat 64 (counterBlockOffset l)) counted.octets
    ∃ t, exec (.collision l cycleFirst) s = .next t ∧ (t.line l).counters = counted ∧
      (t.line l).consecutiveCollisions = y.consecutiveCollisions + 1 ∧ (s.port ++ [block]) <+: t.port ∧ (t.line l).state = y.state ∧
      (∀ x, kind = .exchange x → x.used + 1 < x.retryLimit + 1 → x.stopMark = false →
        (t.line l).job = some ⟨.exchange { x with used := x.used + 1 }, .gapWait y.params.gap⟩ ∧ (t.line l).stations = y.stations) ∧
      (∀ x, kind = .exchange x →
        let u := (s.updLine l (fun y => { y with consecutiveCollisions := y.consecutiveCollisions + 1, counters := counted })).issue block
        (x.retryLimit + 1 ≤ x.used + 1 → t = settle l ({ x with used := x.used + 1 }.handedOver l .badFrame u)) ∧
        (x.used + 1 < x.retryLimit + 1 → x.stopMark = true → t = settle l ({ x with used := x.used + 1 }.handedOver l (.stopped .collision) u))) ∧
      (∀ a, kind = .wack a → (t.line l).job = some ⟨.wack a, .gapWait y.params.gap⟩) ∧
      (kind = .quiet → s.run = .running → (t.line l).job = some ⟨.quiet, .gapWait y.params.gap⟩ ∧ (t.line l).wake = y.wake ∧
        (t.line l).entries = y.entries) ∧
      (kind = .quiet → s.run = .stopping → ∀ i e, y.FirstEntry (fun e => e.isDoing .quiescing) i e →
        (t.line l).job = none ∧ (t.line l).wake = WakeSequence.fresh ∧ (t.line l).entries = y.entries.eraseIdx i ∧
          (s.port ++ [block, s.completionWrite l (e.completion y ⟨.aborted, 1, false, false⟩)]) <+: t.port) ∧
      (∀ d, kind = .data d → d.claimant = .cycleEngine → ∃ u, t = settle l (endSlot l .badFrame u) ∧ u.line l =
        { y with consecutiveCollisions := y.consecutiveCollisions + 1, counters := counted, job := none } ∧ u.port = s.port ++ [block]) ∧
      (∀ d, kind = .data d → d.claimant = .requestEngine → ∀ i e, y.FirstEntry (fun e => e.isDoing .onLine) i e →
        (t.line l).job = none ∧ (t.line l).entries = y.entries.eraseIdx i ∧ (t.line l).stations = y.stations ∧
          (s.port ++ [block, s.completionWrite l ⟨e.tag, e.ringIndex, e.kind, .badFrame, false, false, 0, 1,
            y.reportedState e.body.reportStation⟩]) <+: t.port)

/-- The entry to FAULTED, by a collision that reaches the limit, a stuck line or an overlong tone: what is on the wire is cut, the wake episode ends, faults entered rises by 1
and the counter block is written, every traffic, REST and WAKE entry completes and the others stay, a running cycle engine is HALTED unless a STOP waits, and no station record
changes (R159 to R164, R126). The completions are LINE_FAULT with detail 0, MARKED when the entry is marked, with the attempts of what was cut (R163; ABORTED with detail 1
during a stop, R177); the rotation pointer moves past a FETCH that is cut (R139, R164); a PARKED SWITCH completes OK when the engine switches, and a STOP that waits when it
becomes STOPPED (R126); slots still due end SKIPPED_FAULT, LINE_STATE is raised, and CYCLE_HALTED by an engine that halts (R126, R162).
Whether the cycle engine or the request engine acts first is left to the command (log entry 7). -/
def Obligations.EntryToFaultedCutsTheLine : Prop :=
  ∀ (l : LineId) (cycleFirst : Bool) (s : State),
    let y := s.line l
    let entered := fun (t : State) (counted : Counters) (why : LineReason) =>
      (t.line l).state = .faulted ∧ (t.line l).job = none ∧ (t.line l).wake = WakeSequence.fresh ∧ (t.line l).detector = .disarmed ∧
        (t.line l).counters = { counted with faultsEntered := counted.faultsEntered + 1 } ∧
        (t.line l).stations = y.stations ∧ (t.line l).params = y.params ∧ (t.line l).buffers = y.buffers ∧
        (t.line l).lastGrantee = y.lastGrantee ∧
        (∀ e, e ∈ (t.line l).entries → e.body.isTraffic = false ∧ e.body ≠ .rest ∧ e.body ≠ .wake) ∧
        (t.line l).entries.length ≤ y.entries.length ∧
        (t.line l).completion.producer =
          y.completion.producer + BitVec.ofNat 16 (y.entries.length - (t.line l).entries.length) ∧
        (∀ e, e ∈ y.entries → e.body.isTraffic = false → e.body ≠ .rest → e.body ≠ .wake → e.state ≠ .parked → e.isDoing .stopWait = false →
          e.isDoing .onLine = false → e ∈ (t.line l).entries) ∧
        (y.engine.runs = true → y.engine.stopRequested = false → (t.line l).engine.state = .halted) ∧
        (y.engine.runs = true → y.engine.stopRequested = true → (t.line l).engine.state = .stopped) ∧
        (y.engine.runs = false → (t.line l).engine = y.engine) ∧
        (s.port ++ [.write (s.context.indexPage + BitVec.ofNat 64 (counterBlockOffset l)) (t.line l).counters.octets]) <+: t.port ∧
        (let cut := fun e : Entry => if e.isDoing .onLine then
            (match y.job with
              | some ⟨.exchange x, _⟩ => if x.claimant = .requestEngine then { e with attempts := min 255 (e.attempts + x.cmds) } else e
              | some ⟨.data _, .sending _ _⟩ => { e with attempts := 1 }
              | _ => e) else e
          let g := y.engine
          let ends := fun e : Entry => e.body.isTraffic || decide (e.body = .rest) || decide (e.body = .wake)
          let parked := fun e : Entry => g.runs && decide (g.inactiveBank.state = .committed) && decide (e.state = .parked)
          let waited := fun e : Entry => g.runs && g.stopRequested && e.isDoing .stopWait
          let released := fun es : List Entry => ((es.find? parked).toList ++ es.filter waited).map (fun e => e.completion y ⟨.ok, 0, false, false⟩)
          let gone := fun es : List Entry => (es.filter ends).map (fun e => (cut e).completion y
            (if s.run = .stopping then ⟨.aborted, 1, false, false⟩ else ⟨.lineFault, 0, false, e.abortMark⟩))
          let left := (y.entries.eraseP parked).filter (fun e => !waited e)
          s.Completes t l (if cycleFirst then released y.entries ++ gone left
            else gone y.entries ++ released (y.entries.filter (fun e => !ends e)))) ∧
        (t.line l).collector = (match y.job with
          | some ⟨.exchange x, _⟩ =>
            if x.claimant = .collector then { y.collector with rotation := if x.station = 62 then 1 else x.station + 1 } else y.collector
          | _ => y.collector) ∧
        (let g := y.engine
          let left := if g.state = .inCycle then (if g.stopRequested then g.remaining.take 1 else g.remaining) else []
          g.runs = true → g.due = dueSlots g.cycle 1 g.activeBank.slots → (g.stopRequested = true → g.state = .inCycle) →
            ((t.line l).engine.bank g.active).slots = (g.activeBank.ended g.cycle .skippedFault left).slots ∧
            (g.activeBank.statusWrites g.cycle .skippedFault left).Sublist (s.newWrites t) ∧
            (t.line l).engine.active = (if g.inactiveBank.state = .committed then g.active.other else g.active) ∧
            (t.line l).engine.lastCompleted = g.lastCompleted) ∧
        (let g := y.engine
          let left := if g.state = .inCycle then g.remaining else []
          let halted := if g.runs && !g.stopRequested then [Event.cycleHalted l g.cycle left.length] else []
          let switched := if g.runs && decide (g.inactiveBank.state = .committed) then [Event.scheduleSwitched l g.cycle g.active.other] else []
          s.Raises t ([Event.lineState l y.state .faulted why] ++ switched ++ halted))
    (∀ kind g octets, y.job = some ⟨kind, .sending g octets⟩ → y.params.collisionLimit ≤ y.consecutiveCollisions + 1 →
      ∃ t, exec (.collision l cycleFirst) s = .next t ∧ entered t { y.counters with collisions := y.counters.collisions + 1 } .collisionLimit ∧
        (t.line l).consecutiveCollisions = y.consecutiveCollisions + 1) ∧
    (y.watchActs = true → ∃ t, exec (.stuckLine l cycleFirst) s = .next t ∧ entered t y.counters .stuckLine) ∧
    (y.detector = .toneSeen → y.wake.phase = .toneIn → ∃ t, exec (.overlongTone l cycleFirst) s = .next t ∧ entered t y.counters .overlongTone)

/-! ## Grants, buffers and the cyclic schedule -/

/-- The grant of the request engine's traffic claim judges the entry once more and hands its order, with the SEQ, RESYNC and timeout the station record then gives; a marked entry
completes ABORTED, one that fails the judgement completes with its status, and the grant lapses, but counts as a turn (R65, R131, R132, R10). -/
def Obligations.TrafficGrantHandsTheOrder : Prop :=
  ∀ (l : LineId) (i : Nat) (e : Entry) (payload : List Byte) (s : State), s.run = .running → (s.line l).state = .active →
    (s.line l).job = none → (s.line l).choose = some .traffic → (s.line l).FirstEntry Entry.awaitsGrant i e →
    e.state = .inFlight (.awaitGrant payload) →
    let x := s.line l
    let r := fun a => x.station a
    let handed := fun kind : JobKind => exec (.lineGrant l) s = .next
      (s.updLine l (fun x => { x with
        lastGrantee := .requestEngine, job := some ⟨kind, .gapWait x.params.gap⟩
        entries := x.entries.set i { e with state := .inFlight .onLine } }))
    (e.abortMark = true → exec (.lineGrant l) s = .next (finishEntry l i e ⟨.aborted, 0, false, true⟩
      (s.updLine l (fun x => { x with lastGrantee := .requestEngine })))) ∧
    (e.abortMark = false → ∀ status, x.judgeTraffic e.body = some status → exec (.lineGrant l) s = .next
      (finishEntry l i e ⟨status, 0, false, false⟩ (s.updLine l (fun x => { x with lastGrantee := .requestEngine })))) ∧
    (e.abortMark = false → x.judgeTraffic e.body = none →
      (∀ probe noRetry a f n out cap inn, e.body = .exchange probe noRetry a f n out cap inn →
        handed (.exchange ⟨a, f, payload, if noRetry then 0 else x.params.retryLimit, .requestEngine, false, (r a).seq, (r a).resync,
          if (r a).timeoutOverride = 0 then x.params.responseTimeout else (r a).timeoutOverride, 0, 0, false⟩)) ∧
      (∀ a f n out, e.body = .send a f n out → handed (.data ⟨a, f, payload, .requestEngine⟩)))

/-- The grant of the collector's claim fetches from the first station of the attention set at or above the rotation pointer, or from the lowest, and lapses when the set
is empty, collection is off or no buffer is held (R135). The arbiter's choice: the schedule first, otherwise the two acyclic claimants in turn (R130). While a start
is pending the cycle engine is granted for it (R112). The outcome of a FETCH to a station, whatever it is, moves the rotation pointer past it (R139). SUCCESS with ATTN 0 clears its attention flag (R136, R137). A
message fills the head: the payload that fits is written, then the FILLED write-back, then an unusable descriptor that has become the head goes back INVALID, and each
write-back counts towards the line's vector (R87, R85, R88, R96); without a message the head stays held (R137, R138). The fields of a buffer descriptor written back FILLED or RETURNED, at their offsets (R87, R88; spec/11,
Buffer descriptor). -/
def Obligations.ArbiterAlternatesAndFetchesRotate : Prop :=
  (∀ (l : LineId) (s : State), s.run = .running → (s.line l).state = .active → (s.line l).job = none →
     (s.line l).choose = some .fetch →
     let x := s.line l
     let ready := x.params.attentionCollection = true ∧ x.attentionSet ≠ [] ∧ x.buffers.held ≠ []
     let turn := fun x : Line => { x with lastGrantee := .collector, collector := { x.collector with claim := false } }
     (¬ready → exec (.lineGrant l) s = .next (s.updLine l turn)) ∧
     (ready → ∃ a, (x.station a).attention = true ∧ 1 ≤ a ∧ a ≤ 62 ∧
       (∀ b, 1 ≤ b → b ≤ 62 → (x.station b).attention = true → (x.collector.rotation ≤ b → x.collector.rotation ≤ a ∧ a ≤ b) ∧
         (a < x.collector.rotation → a ≤ b)) ∧
       exec (.lineGrant l) s = .next (s.updLine l (fun x => { turn x with
         job := some ⟨.exchange (x.takeExchange a 240 [] x.params.retryLimit .collector), .gapWait x.params.gap⟩ })))) ∧
  (∀ x : Line,
     (x.engine.pendingStart = true → x.choose = some .start) ∧
     (x.engine.pendingStart = false → x.engine.state = .inCycle →
       x.choose = (match x.engine.stage with | .claiming _ => some .slot | _ => none)) ∧
     (x.engine.pendingStart = false → x.engine.state ≠ .inCycle →
       (x.collector.claim = false → x.choose = x.requestClaim) ∧
       (x.requestClaim = none → x.collector.claim = true → x.choose = some .fetch) ∧
       (∀ r, x.requestClaim = some r → x.collector.claim = true →
         (x.lastGrantee = .requestEngine → x.choose = some .fetch) ∧ (x.lastGrantee = .collector → x.choose = some r)))) ∧
  (∀ (l : LineId) (a : Nat) (function : Byte) (attn : Bool) (payload : List Byte) (s : State),
     let x := s.line l
     let b := x.buffers
     let turned := fun y : Line => { y with collector := { y.collector with rotation := if a = 62 then 1 else a + 1 } }
     let flagged := fun y : Line => if attn then y else y.setStation a { y.station a with attention := false }
     (∀ o, (∀ at' f p, o ≠ .success at' f p) → fetchOutcome l a o s = s.updLine l turned) ∧
     (payload = [] ∨ b.held = [] → fetchOutcome l a (.success attn function payload) s = s.updLine l (fun y => turned (flagged y))) ∧
     ∀ d rest, payload ≠ [] → b.held = d :: rest →
       let t := fetchOutcome l a (.success attn function payload) s
       let k := min payload.length d.length
       let invalid := rest.takeWhile (fun d => !d.usable)
       t.line l = { turned (flagged x) with buffers := { b with
         held := rest.dropWhile (fun d => !d.usable), writeBack := b.writeBack + BitVec.ofNat 16 (1 + invalid.length) } } ∧
       t.events = s.events ∧ (∀ v, t.vector v = ((countRecord (lineVector l))^[1 + invalid.length] s).vector v) ∧
       s.newWrites t = (if k = 0 then [] else [PortOp.write d.address (payload.take k)]) ++
         s.writeBacks l b.writeBack (filledOctets d a function k payload.length attn :: invalid.map (fun d => returnedOctets d 1))) ∧
  (∀ (d : Descriptor) (a stored full reason : Nat) (function : Byte) (more : Bool),
     let filled := filledOctets d a function stored full more
     let returned := returnedOctets d reason
     filled.length = 16 ∧ field filled 0 8 = d.address.toNat ∧ field filled 8 2 = d.length % 65536 ∧ field filled 10 1 = 1 ∧
       bitAt filled 11 0 = decide (d.length < full) ∧ bitAt filled 11 1 = more ∧ field filled 11 1 < 4 ∧ field filled 12 1 = a % 256 ∧
       octetAt filled 13 = function ∧ field filled 14 1 = stored % 256 ∧ field filled 15 1 = full % 256 ∧
     returned.length = 16 ∧ field returned 0 8 = d.address.toNat ∧ field returned 8 2 = d.length % 65536 ∧ field returned 10 1 = 2 ∧
       field returned 11 1 = 16 * reason % 256 ∧ field returned 12 4 = 0)

/-- A taken start with no overrun: the late start is counted, the cycle number rises by 1, a COMMITTED bank becomes active first with SCHEDULE_SWITCHED, the due list is
formed from the active bank, the cycle record is written, and then the first due slot is reached; with no due slot the cycle ends at once, with one record (R112,
R113, R114, R121, R124; log entry 13). The switch writes the cycle record behind SCHEDULE_SWITCHED, and then the PARKED SWITCH completes OK (R124). The due list holds, in ascending
number, every slot whose divisor leaves its phase as remainder of the cycle number (R114). Reaching the due slots in turn: a slot of a DISABLED station, or of an
OFFLINE one in a cycle that is no probe, ends skipped and the next is reached in the same step; a slot that runs claims the line at once, or reads its output data
first; after the last the cycle ends, with last completed, WAITING and the cycle record (R115, R116, R121). -/
def Obligations.CycleStartIsTaken : Prop :=
  (∀ (l : LineId) (s : State), s.run = .running → (s.line l).state = .active → (s.line l).job = none →
     (s.line l).engine.pendingStart = true → (s.line l).engine.state = .waiting →
     let e := (s.line l).engine
     let switched := e.inactiveBank.state = .committed
     let bank := if switched then e.inactiveBank else e.activeBank
     let due := dueSlots (e.cycle + 1) 1 bank.slots
     ∃ t, exec (.lineGrant l) s = .next t ∧
       let g := (t.line l).engine
       g.cycle = e.cycle + 1 ∧ g.pendingStart = false ∧ g.due = due ∧ g.active = (if switched then e.active.other else e.active) ∧
         g.lateStarts = (if e.startLate then e.lateStarts + 1 else e.lateStarts) ∧ g.overruns = e.overruns ∧ g.source = e.source ∧
         (due = [] → g.state = .waiting ∧ g.lastCompleted = e.cycle + 1) ∧
         (t.line l).entries = (if switched then (s.line l).entries.eraseP (fun p => decide (p.state = .parked)) else (s.line l).entries) ∧
         (¬switched → t.events = s.events) ∧
         s.Raises t (if switched then [.scheduleSwitched l e.cycle e.active.other] else []) ∧
         (∃ u, (if due = [] then t = endCycle l u else t = reachSlots l due u) ∧
           (u.line l).engine = { g with
             state := if due = [] then .waiting else .inCycle, bank0 := (u.line l).engine.bank0, bank1 := (u.line l).engine.bank1
             lastCompleted := e.lastCompleted, cursor := 1, stage := .idle } ∧
           (u.line l).engine.activeBank.slots = bank.slots ∧
           let record := fun g : Engine => PortOp.write (s.context.indexPage + BitVec.ofNat 64 (cycleRecordOffset l)) g.cycleRecord
           s.newWrites u = (if switched then s.newWrites (raiseEvent (.scheduleSwitched l e.cycle e.active.other) s) ++
               [record { e with lateStarts := g.lateStarts, active := e.active.other }] ++
               s.completionWrites l (s.line l).completion.producer
                 (((s.line l).entries.find? (fun p => decide (p.state = .parked))).toList.map
                   (fun p => p.completion (s.line l) ⟨.ok, 0, false, false⟩)) else []) ++
             if due = [] then [] else [record (u.line l).engine]) ∧
         (t.line l).lastGrantee = (s.line l).lastGrantee ∧ (t.line l).stations = (s.line l).stations ∧ (t.line l).job = none) ∧
  (∀ (cycle : Word) (cells : List SlotCell),
     (∀ n, n ∈ dueSlots cycle 1 cells ↔ 1 ≤ n ∧ ∃ c, cells[n - 1]? = some c ∧ cycle.toNat % c.slot.divisor = c.slot.phase) ∧
       (dueSlots cycle 1 cells).Pairwise (· < ·)) ∧
  (∀ (l : LineId) (n : Nat) (more : List Nat) (c : SlotCell) (s : State),
     let x := s.line l
     let b := x.engine.activeBank
     let r := x.station c.slot.station
     let runs := c.slot.station = 0 ∨ r.state ≠ .disabled ∧
       (r.state ≠ .offline ∨ x.params.rejoinInterval ≠ 0 ∧ x.engine.cycle.toNat % x.params.rejoinInterval = 0)
     let passed := fun u : State => u.updLine l (fun y => { y with engine := { y.engine with cursor := y.engine.cursor + 1, stage := .idle } })
     let ended := { x.engine with lastCompleted := x.engine.cycle, state := .waiting }
     reachSlots l [] s = (s.updLine l (fun y => { y with engine := ended })).issue
       (.write (s.context.indexPage + BitVec.ofNat 64 (cycleRecordOffset l)) ended.cycleRecord) ∧
     (b.slots[n - 1]? = some c → 1 ≤ n →
       (c.slot.station ≠ 0 → r.state = .disabled → reachSlots l (n :: more) s = reachSlots l more (passed (recordSlot l .skippedDisabled none s n))) ∧
       (¬runs → r.state ≠ .disabled → reachSlots l (n :: more) s = reachSlots l more (passed (recordSlot l .skippedOffline none s n))) ∧
       (runs → c.slot.outLength = 0 →
         reachSlots l (n :: more) s = s.updLine l (fun y => { y with engine := { y.engine with stage := .claiming [] } })) ∧
       (runs → c.slot.outLength ≠ 0 → reachSlots l (n :: more) s =
         (s.updLine l (fun y => { y with engine := { y.engine with stage := .outputRead s.nextRead } })).issueRead (.slotOutput l)
           (b.imageBase + BitVec.ofNat 64 c.slot.outOffset) c.slot.outLength)))

/-- A start taken while IN_CYCLE overruns the cycle: the overrun count rises by 1, every due slot at or after the cursor takes status SKIPPED_OVERRUN with the number of
the cycle cut short, its record written in ascending slot number, and CYCLE_OVERRUN is raised with the new number and their count, before a COMMITTED bank becomes
active with SCHEDULE_SWITCHED, the cycle record, and the completion of the PARKED SWITCH; last completed keeps its value, and the new cycle goes on as any other (R113,
R120, R122, R124). A slot that ends updates its status and writes its record into the status array of its bank, and every other slot keeps
its status; a POLL that ends OK first writes its payload into the half that the status does not name as newest (R119, R120). The end of the slot at the cursor, with
the status its outcome maps to: its record is written (after its input when a POLL ends OK), the cursor advances, and the engine goes on: it becomes STOPPED when a
STOP waits, ends the cycle after the last slot, leaves the next slot unreached while a start is pending, or reaches it (R111, R115, R117, R119, R121, R125). That a
cycle whose last slot was in flight at a STOP does not count as completed is the model's choice (log entry 35). The fields of a line's cycle record and of a slot
status record at their offsets, and the codes of engine state and slot status (R120, R121; spec/11, Index page, Slot entry and slot status record). -/
def Obligations.OverrunsAndSlotEndsWriteStatuses : Prop :=
  (∀ (l : LineId) (s : State), s.run = .running → (s.line l).state = .active → (s.line l).job = none →
     (s.line l).engine.pendingStart = true → (s.line l).engine.state = .inCycle →
     (s.line l).engine.due = dueSlots (s.line l).engine.cycle 1 (s.line l).engine.activeBank.slots →
     let e := (s.line l).engine
     let switched := e.inactiveBank.state = .committed
     let bank := if switched then e.inactiveBank else e.activeBank.ended e.cycle .skippedOverrun e.remaining
     let due := dueSlots (e.cycle + 1) 1 bank.slots
     ∃ t, exec (.lineGrant l) s = .next t ∧ (t.line l).engine.overruns = e.overruns + 1 ∧ (t.line l).engine.cycle = e.cycle + 1 ∧
       (t.line l).engine.active = (if switched then e.active.other else e.active) ∧ (t.line l).engine.due = due ∧
       s.Raises t (.cycleOverrun l (e.cycle + 1) e.remaining.length ::
         if switched then [.scheduleSwitched l e.cycle e.active.other] else []) ∧
       e.activeBank.statusWrites e.cycle .skippedOverrun e.remaining <+: s.newWrites t ∧
       (switched → ((t.line l).engine.bank e.active).slots = (e.activeBank.ended e.cycle .skippedOverrun e.remaining).slots ∧
         ((t.line l).engine.bank e.active).state = (if e.activeBank.state = .active then .loaded else e.activeBank.state)) ∧
       (∃ u, (if due = [] then t = endCycle l u else t = reachSlots l due u) ∧ (u.line l).engine.activeBank.slots = bank.slots ∧
         (u.line l).engine.cycle = e.cycle + 1 ∧ (u.line l).engine.lastCompleted = e.lastCompleted ∧
         (u.line l).engine.lateStarts = (if e.startLate then e.lateStarts + 1 else e.lateStarts) ∧
         (u.line l).entries = (if switched then (s.line l).entries.eraseP (fun p => decide (p.state = .parked)) else (s.line l).entries) ∧
         let record := fun g : Engine => PortOp.write (s.context.indexPage + BitVec.ofNat 64 (cycleRecordOffset l)) g.cycleRecord
         s.newWrites u = e.activeBank.statusWrites e.cycle .skippedOverrun e.remaining ++
           s.newWrites (raiseAll (.cycleOverrun l (e.cycle + 1) e.remaining.length ::
             if switched then [.scheduleSwitched l e.cycle e.active.other] else []) s) ++
           (if switched then
             [record { e with lateStarts := (u.line l).engine.lateStarts, overruns := e.overruns + 1, active := e.active.other }] ++
               s.completionWrites l (s.line l).completion.producer
                 (((s.line l).entries.find? (fun p => decide (p.state = .parked))).toList.map
                   (fun p => p.completion (s.line l) ⟨.ok, 0, false, false⟩)) else []) ++
           if due = [] then [] else [record (u.line l).engine]) ∧
       ∀ n c, 1 ≤ n → e.activeBank.slots[n - 1]? = some c →
         (e.activeBank.ended e.cycle .skippedOverrun e.remaining).slots[n - 1]? =
           some (if n ∈ e.remaining then { c with status := c.status.after e.cycle .skippedOverrun none } else c)) ∧
  (∀ (l : LineId) (n : Nat) (c : SlotCell) (result : SlotResult) (payload : List Byte) (s : State), 1 ≤ n →
     let e := (s.line l).engine
     let b := e.activeBank
     b.slots[n - 1]? = some c →
     let st := c.status
     let k := min payload.length c.slot.inLength
     let written := { b with slots := b.slots.set (n - 1) { c with status := st.after e.cycle result none } }
     let record := fun st' : SlotStatus => PortOp.write (b.statusArray + BitVec.ofNat 64 (16 * (n - 1))) st'.octets
     let half := if st.newestHalf = 0 then 1 else 0
     recordSlot l result none s n = (s.updLine l (fun x => { x with engine := e.setBank e.active written })).issue
         (record (st.after e.cycle result none)) ∧
     st.after e.cycle result none =
       ⟨e.cycle, if result = .ok then e.cycle else st.lastSuccess, result, st.newestHalf, st.newestLength,
         if result = .ok then 0 else min 255 (st.misses + 1), st.updates + 1⟩ ∧
     (recordPollOk l n payload s).port = s.port ++
       (if k = 0 then [] else [.write (b.imageBase + BitVec.ofNat 64 (c.slot.inOffset + half * c.slot.inLength)) (payload.take k)]) ++
       [record ⟨e.cycle, e.cycle, .ok, half, k, 0, st.updates + 1⟩]) ∧
  (∀ (l : LineId) (n : Nat) (more : List Nat) (attn : Bool) (function : Byte) (payload : List Byte) (s : State),
     let e := (s.line l).engine
     e.remaining = n :: more → 1 ≤ e.cursor →
     let goesOn := fun (recorded t : State) =>
       let u := recorded.updLine l (fun y => { y with engine := { y.engine with cursor := y.engine.cursor + 1, stage := .idle } })
       (e.stopRequested = true → u.BecomesStopped t l []) ∧
       (e.stopRequested = false → more = [] → t = reachSlots l [] u) ∧
       (e.stopRequested = false → more ≠ [] → e.pendingStart = true → t = u) ∧
       (e.stopRequested = false → more ≠ [] → e.pendingStart = false → t = reachSlots l more u)
     (∀ result, goesOn (recordSlot l result none s n) (endSlot l result s)) ∧
     goesOn (recordPollOk l n payload s) (pollOutcome l (.success attn function payload) s) ∧
     (∀ o result, (o, result) ∈ [(ExchangeEnd.busy, SlotResult.nakBusy), (.refused 2, .refused), (.refused 3, .refused), (.noResponse, .noResponse),
       (.badFrame, .badFrame), (.stopped .timeout, .noResponse), (.stopped .badFrame, .badFrame), (.stopped .collision, .badFrame), (.stopped .nakSeq, .refused),
       (.lineFault, .skippedFault)] → pollOutcome l o s = endSlot l result s)) ∧
  ((∀ e : Engine,
     let d := e.cycleRecord
     d.length = 22 ∧ field d 0 4 = e.cycle.toNat ∧ field d 4 4 = e.lastCompleted.toNat ∧ field d 8 4 = e.overruns.toNat ∧
       field d 12 4 = e.mergedStarts.toNat ∧ field d 16 4 = e.lateStarts.toNat ∧ field d 20 1 = (if e.active = .bank0 then 0 else 1) ∧
       field d 21 1 = engineStateCode e.state) ∧
   (∀ st : SlotStatus,
     let d := st.octets
     d.length = 16 ∧ field d 0 4 = st.lastAttempt.toNat ∧ field d 4 4 = st.lastSuccess.toNat ∧ field d 8 1 = slotResultCode st.result ∧
       field d 9 1 = st.newestHalf % 256 ∧ field d 10 1 = st.newestLength % 256 ∧ field d 11 1 = st.misses % 256 ∧
       field d 12 2 = st.updates.toNat ∧ field d 14 2 = 0) ∧
   [EngineState.stopped, .waiting, .inCycle, .halted].map engineStateCode = List.range 4 ∧
   [SlotResult.none, .ok, .noResponse, .badFrame, .nakBusy, .refused, .skippedOffline, .skippedDisabled, .skippedOverrun, .skippedStop, .skippedFault,
     .hostError].map slotResultCode = List.range 12 ∧
   [LineId.line0, .line1].map cycleRecordOffset = [16, 48])

/-- The slot at the cursor is judged again at its grant: it is recorded skipped, or its POLL exchange or OUTPUT transmission is handed over with the slot retry limit in force
(R115, R116). -/
def Obligations.SlotGrantHandsTheOrder : Prop :=
  ∀ (l : LineId) (n : Nat) (more : List Nat) (c : SlotCell) (payload : List Byte) (s : State), s.run = .running → (s.line l).state = .active →
    (s.line l).job = none → (s.line l).choose = some .slot → (s.line l).engine.stage = .claiming payload →
    (s.line l).engine.remaining = n :: more → (s.line l).engine.activeBank.cell n = some c →
    let x := s.line l
    let a := c.slot.station
    let r := x.station a
    let skipped := fun result => exec (.lineGrant l) s = .next (endSlot l result s)
    let handed := fun kind : JobKind => exec (.lineGrant l) s = .next
      (s.updLine l (fun x => { x with engine := { x.engine with stage := .inFlight }, job := some ⟨kind, .gapWait x.params.gap⟩ }))
    let runs := a = 0 ∨ r.state ≠ .disabled ∧
      (r.state ≠ .offline ∨ x.params.rejoinInterval ≠ 0 ∧ x.engine.cycle.toNat % x.params.rejoinInterval = 0)
    (a ≠ 0 → r.state = .disabled → skipped .skippedDisabled) ∧
    (¬runs → r.state ≠ .disabled → skipped .skippedOffline) ∧
    (runs → c.slot.kind = .poll → handed (.exchange (x.takeExchange a c.slot.function payload x.params.slotRetryLimit .cycleEngine))) ∧
    (runs → c.slot.kind = .output → handed (.data ⟨a, c.slot.function, payload, .cycleEngine⟩))

/-- The end of a slot table read: a read error or a failing slot makes the bank EMPTY with BAD_ADDRESS, or BAD_REQUEST and the slot's number; a table that passes makes
it LOADED with fresh statuses, whose records are written before the completion; the active bank is not touched (R105, R106, R107). The number reported is that of the
first entry that fails, and the bank takes the slots of the entries in ascending number (R105, R106). A slot entry passes exactly when it meets the checks of R106, and
then gives the slot its fields (R103; spec/11, Slot entry and slot status record). -/
def Obligations.SlotTableReadLoadsTheBank : Prop :=
  (∀ (l : LineId) (id i n size : Nat) (e : Entry) (a table arr base : Addr) (d : List Byte) (s : State),
     s.findRead id = some ⟨id, .slotTable l, a, 16 * n⟩ → d.length = 16 * n →
     (s.line l).FirstEntry (fun e => e.isDoing (.tableRead id)) i e → e.body = .scheduleLoad n size table arr base →
     let x := s.line l
     let g := x.engine
     let report := fun status detail => s.completionWrite l ⟨e.tag, e.ringIndex, e.kind, status, false, false, detail, e.attempts, none⟩
     let fails := fun r status detail => ∃ t, exec (.slotTableReadDone l id r) s = .next t ∧ (t.line l).entries = x.entries.eraseIdx i ∧
       (t.line l).engine = g.setBank g.active.other { g.inactiveBank with state := .empty } ∧ (s.port ++ [report status detail]) <+: t.port
     fails .error .badAddress 0 ∧
     (∀ bad, parseSlots size 1 n d = .error bad → fails (.octets d) .badRequest bad) ∧
     ∀ slots, parseSlots size 1 n d = .ok slots → slots.length = n ∧
       ∃ t, exec (.slotTableReadDone l id (.octets d)) s = .next t ∧ (t.line l).entries = x.entries.eraseIdx i ∧
         (t.line l).engine = g.setBank g.active.other
           ⟨.loaded, slots.map (fun slot => ⟨slot, ⟨0, 0, .none, 1, 0, 0, 0⟩⟩), base, size, arr⟩ ∧
         (s.port ++ (List.range n).map (fun k =>
           PortOp.write (arr + BitVec.ofNat 64 (16 * k)) (SlotStatus.octets ⟨0, 0, .none, 1, 0, 0, 0⟩)) ++ [report .ok 0]) <+: t.port) ∧
  (∀ (size n : Nat) (d : List Byte),
     let entry := fun k => (d.drop (16 * (k - 1))).take 16
     (∀ bad, parseSlots size 1 n d = .error bad ↔
       1 ≤ bad ∧ bad ≤ n ∧ parseSlot (entry bad) size = none ∧ ∀ k, 1 ≤ k → k < bad → parseSlot (entry k) size ≠ none) ∧
     ∀ slots, parseSlots size 1 n d = .ok slots ↔ slots.length = n ∧ ∀ k, k < n → slots[k]? = parseSlot (entry (k + 1)) size) ∧
  (∀ (d : List Byte) (size : Nat) (slot : Slot), parseSlot d size = some slot →
     slot = ⟨if field d 0 1 = 1 then .poll else .output, field d 1 1, d.getD 2 0, field d 3 1, field d 4 1, field d 6 2, field d 8 2, field d 10 2,
       field d 12 2⟩) ∧
  (∀ (d : List Byte) (size : Nat),
     let passes := (parseSlot d size).isSome = true
     let divisor := field d 3 1
     let common := field d 2 1 ≤ 223 ∧ (divisor = 1 ∨ divisor = 2 ∨ divisor = 4 ∨ divisor = 8 ∨ divisor = 16) ∧ field d 4 1 < divisor ∧
       field d 8 2 ≤ 240 ∧ field d 6 2 + field d 8 2 ≤ size
     passes ↔ (field d 0 1 = 1 ∧ common ∧ 1 ≤ field d 1 1 ∧ field d 1 1 ≤ 62 ∧ field d 12 2 ≤ 240 ∧
         field d 10 2 + 2 * field d 12 2 ≤ size) ∨
       (field d 0 1 = 2 ∧ common ∧ field d 1 1 ≤ 62))

/-- The end of a descriptor read: on success the descriptor is held behind the others, the consumer index advances and is written to the index page, and an unusable one that is the
head goes back at once; a read error makes the ring ERRORED with RING_ERROR (R85, R86).
The collector looks again at its conditions at the end of the step (the model's order, log entry 9). When it looks, an episode of starvation begins with one BUFFER_STARVED
if the line is starved and none is in progress, and ends without an event when a head is held (R140). -/
def Obligations.DescriptorReadHoldsTheDescriptor : Prop :=
  (∀ (l : LineId) (id : Nat) (a : Addr) (d : List Byte) (s : State), s.findRead id = some ⟨id, .descriptor l, a, 16⟩ → d.length = 16 →
    (s.line l).buffers.fetch = some id →
    let b := (s.line l).buffers
    let desc := parseDescriptor d
    let page := PortOp.write (s.context.indexPage + BitVec.ofNat 64 (bufferConsumerOffset l)) (leBytes 2 (b.consumer + 1).toNat)
    (desc.usable = true ↔ field d 10 1 = 0 ∧ 16 ≤ field d 8 2 ∧ field d 8 2 ≤ 4096) ∧
    (∃ t, exec (.descriptorFetchDone l id .error) s = .next t ∧ (t.line l).buffers = { b with errored := true, fetch := none } ∧
      (raiseEvent (.ringError l (bufferRingId l) b.consumer) s).port <+: t.port) ∧
    (b.held = [] → desc.usable = false → ∃ t, exec (.descriptorFetchDone l id (.octets d)) s = .next t ∧
      (t.line l).buffers = { b with consumer := b.consumer + 1, writeBack := b.writeBack + 1, held := [], fetch := none } ∧
      (s.port ++ [page, .write ((s.context.lineSection l).bufferRing.position b.writeBack 16) (returnedOctets desc 1)]) <+: t.port) ∧
    (∀ head, b.held = [head] → head.usable = true → ∃ t, exec (.descriptorFetchDone l id (.octets d)) s = .next t ∧
      (t.line l).buffers = { b with consumer := b.consumer + 1, held := [head, desc], fetch := none } ∧ (s.port ++ [page]) <+: t.port) ∧
    (b.held = [] → desc.usable = true → ∃ t, exec (.descriptorFetchDone l id (.octets d)) s = .next t ∧
      (t.line l).buffers = { b with consumer := b.consumer + 1, held := [desc], fetch := none } ∧ t.events = s.events ∧
      (t.line l).collector.starved = false ∧
      ((t.line l).collector.claim = true ↔ (s.line l).collector.claim = true ∨
        (s.run = .running ∧ (s.line l).state = .active ∧ (s.line l).params.attentionCollection = true ∧ (s.line l).attentionSet ≠ [] ∧
          (s.line l).fetching = false)))) ∧
  (∀ (l : LineId) (s : State),
     let x := s.line l
     let starved := s.run = .running ∧ x.state = .active ∧ x.params.attentionCollection = true ∧ x.attentionSet ≠ [] ∧ x.buffers.held = [] ∧
       x.buffers.fetch = none ∧ (x.buffers.errored = true ∨ x.buffers.producer = x.buffers.consumer)
     let flagged := fun v => s.updLine l (fun x => { x with collector := { x.collector with starved := v } })
     (x.buffers.held ≠ [] → checkStarved l s = flagged false) ∧
     (starved → x.collector.starved = false →
       checkStarved l s = raiseEvent (.bufferStarved l x.attentionSet.length) (flagged true)) ∧
     (x.buffers.held = [] → ¬(starved ∧ x.collector.starved = false) → checkStarved l s = s))

/-- While the engine is WAITING or IN_CYCLE, the timer's expiry, a rising SYNC edge and an accepted TRIGGER raise a start event, which sets the pending-start flag or is merged into the
start that is pending; the timer starts again at its period. A TRIGGER in any other case completes BAD_REQUEST, and an edge or an expiry with the engine STOPPED or HALTED changes nothing
(R110, R111). -/
def Obligations.StartEventSetsOrMerges : Prop :=
  ∀ (l : LineId) (e : Entry) (period n : Nat) (s : State),
    let g := (s.line l).engine
    let started := fun x : Line => if x.engine.pendingStart
      then { x with engine := { x.engine with mergedStarts := x.engine.mergedStarts + 1 } }
      else { x with engine := { x.engine with pendingStart := true, startLate := x.job.isSome } }
    (g.state = .waiting ∨ g.state = .inCycle →
      (g.source = some (.timer period) → g.timer = some n → exec (.cycleTimerExpiry l) s = .next
        (s.updLine l (fun x => { started x with engine := { (started x).engine with timer := some period } }))) ∧
      (g.source = some .sync → exec (.syncRisingEdge l) s = .next (s.updLine l started)) ∧
      (g.source ≠ some .sync → exec (.syncRisingEdge l) s = .next s) ∧
      (e.body = .scheduleControl .trigger → g.source = some .manual →
        actSchedule l e s = complete l (e.completion (s.line l) ⟨.ok, 0, false, false⟩) (s.updLine l started)) ∧
      (e.body = .scheduleControl .trigger → g.source ≠ some .manual →
        actSchedule l e s = complete l (e.completion (s.line l) ⟨.badRequest, 0, false, false⟩) s)) ∧
    (g.state = .stopped ∨ g.state = .halted →
      exec (.cycleTimerExpiry l) s = .next s ∧ exec (.syncRisingEdge l) s = .next s ∧
        (e.body = .scheduleControl .trigger →
          actSchedule l e s = complete l (e.completion (s.line l) ⟨.badRequest, 0, false, false⟩) s))

/-- A START makes its four checks in order, and otherwise takes the source, becomes WAITING, completes OK and writes the cycle record, with a first start event for TIMER
(R109). That the completion record stands before the cycle record is the model's choice (log entry 12). A STOP completes OK on a STOPPED engine and makes a HALTED
one STOPPED. On a running engine it clears the source, records every due slot at or after the cursor that is not in flight SKIPPED_STOP, and with no slot in flight
the engine becomes STOPPED at once; with one in flight the STOP waits IN_FLIGHT, and so does a second STOP (R125). A SWITCH is refused, acts at once and completes
OK, or commits the bank and parks (R123, R124). -/
def Obligations.ScheduleControlActsAtIntake : Prop :=
  (∀ (l : LineId) (e : Entry) (source : StartSource) (s : State), e.body = .scheduleControl (.start source) →
     let x := s.line l
     let t := actSchedule l e s
     let ends := fun status => t = complete l (e.completion x ⟨status, 0, false, false⟩) s
     (x.engine.runs = true → ends .busySchedule) ∧
     (x.engine.runs = false → x.state = .faulted → ends .lineFault) ∧
     (x.engine.runs = false → x.state = .quiescing ∨ x.state = .rest ∨ x.state = .waking → ends .lineAtRest) ∧
     (x.engine.runs = false → x.state = .active → x.engine.activeBank.state = .empty → ends .badRequest) ∧
     (x.engine.runs = false → x.state = .active → x.engine.activeBank.state ≠ .empty →
       let timer := match source with | .timer period => some period | _ => none
       (t.line l).engine = { x.engine with
         state := .waiting, source := some source, timer := timer, pendingStart := timer.isSome
         startLate := timer.isSome && x.job.isSome, due := [], cursor := 1, stage := .idle } ∧
       (t.line l).entries = x.entries ∧ t.events = s.events ∧ s.newWrites t = [s.completionWrite l (e.completion x ⟨.ok, 0, false, false⟩),
         .write (s.context.indexPage + BitVec.ofNat 64 (cycleRecordOffset l)) (t.line l).engine.cycleRecord])) ∧
  (∀ (l : LineId) (e : Entry) (s : State),
     let x := s.line l
     let g := x.engine
     let t := actSchedule l e s
     let ends := fun status => t = complete l (e.completion x ⟨status, 0, false, false⟩) s
     let record := fun g : Engine => PortOp.write (s.context.indexPage + BitVec.ofNat 64 (cycleRecordOffset l)) g.cycleRecord
     let skips := fun left : List Nat => g.due = dueSlots g.cycle 1 g.activeBank.slots →
       ((t.line l).engine.bank g.active).slots = (g.activeBank.ended g.cycle .skippedStop left).slots ∧
         g.activeBank.statusWrites g.cycle .skippedStop left <+: s.newWrites t
     (e.body = .scheduleControl .stop →
       (g.state = .stopped → ends .ok) ∧
       (g.state = .halted → t.line l = { x with
           engine := { g with state := .stopped }, completion := { x.completion with producer := x.completion.producer + 1 } } ∧
         s.newWrites t = [record { g with state := .stopped }, s.completionWrite l (e.completion x ⟨.ok, 0, false, false⟩)]) ∧
       (g.runs = true → g.stopRequested = false → g.stage ≠ .inFlight →
         (t.line l).engine.source = none ∧ (t.line l).engine.timer = none ∧ (t.line l).engine.pendingStart = false ∧
           (t.line l).stations = x.stations ∧ (t.line l).job = x.job ∧ s.BecomesStopped t l [e] ∧ skips (if g.state = .inCycle then g.remaining else [])) ∧
       (g.runs = true → g.stopRequested = false → g.stage = .inFlight →
         (t.line l).engine.state = g.state ∧ (t.line l).engine.source = none ∧ (t.line l).engine.timer = none ∧
           (t.line l).engine.pendingStart = false ∧ (t.line l).engine.stopRequested = true ∧ (t.line l).engine.stage = .inFlight ∧
           (t.line l).entries = x.entries ++ [{ e with state := .inFlight .stopWait }] ∧ (t.line l).job = x.job ∧
           (t.line l).completion = x.completion ∧ skips (if g.state = .inCycle then g.remaining.drop 1 else [])) ∧
       (g.runs = true → g.stopRequested = true →
         t = s.updLine l (fun x => { x with entries := x.entries ++ [{ e with state := .inFlight .stopWait }] }))) ∧
     (e.body = .scheduleControl .switch →
       (g.inactiveBank.state = .empty → ends .badRequest) ∧
       (g.inactiveBank.state = .loading ∨ g.inactiveBank.state = .committed → ends .busySchedule) ∧
       (g.inactiveBank.state = .loaded → g.runs = true →
         t = s.updLine l (fun x => { x with
           engine := g.setBank g.active.other { g.inactiveBank with state := .committed }
           entries := x.entries ++ [{ e with state := .parked }] })) ∧
       (g.inactiveBank.state = .loaded → g.runs = false →
         (t.line l).engine.active = g.active.other ∧ (t.line l).engine.activeBank = { g.inactiveBank with state := .active } ∧
           (t.line l).engine.inactiveBank = { g.activeBank with state := if g.activeBank.state = .active then .loaded else g.activeBank.state } ∧
           (t.line l).engine.state = g.state ∧ s.Raises t [.scheduleSwitched l g.cycle g.active.other] ∧
           ((∀ p, p ∈ x.entries → p.state ≠ .parked) → (t.line l).entries = x.entries ∧
             s.Completes t l [e.completion x ⟨.ok, 0, false, false⟩] ∧ record (t.line l).engine ∈ s.newWrites t))))
end

