-- ==== Sys2Proof/Laws/State.lean ====
section
/-! SUPPORT. What each update of the state leaves and sets, field by field, so that no later proof unfolds a record update. -/

namespace Sys2Proof.Machine

/-! ## One line replaced or changed -/

@[simp] theorem State.setLine_pending (s : State) (l : LineId) (x : Line) : (s.setLine l x).pending = s.pending := by cases l <;> rfl
@[simp] theorem State.setLine_run (s : State) (l : LineId) (x : Line) : (s.setLine l x).run = s.run := by cases l <;> rfl
@[simp] theorem State.setLine_faultInfo (s : State) (l : LineId) (x : Line) : (s.setLine l x).faultInfo = s.faultInfo := by cases l <;> rfl
@[simp] theorem State.setLine_ctxLo (s : State) (l : LineId) (x : Line) : (s.setLine l x).ctxLo = s.ctxLo := by cases l <;> rfl
@[simp] theorem State.setLine_ctxHi (s : State) (l : LineId) (x : Line) : (s.setLine l x).ctxHi = s.ctxHi := by cases l <;> rfl
@[simp] theorem State.setLine_contextRead (s : State) (l : LineId) (x : Line) : (s.setLine l x).contextRead = s.contextRead := by cases l <;> rfl
@[simp] theorem State.setLine_context (s : State) (l : LineId) (x : Line) : (s.setLine l x).context = s.context := by cases l <;> rfl
@[simp] theorem State.setLine_events (s : State) (l : LineId) (x : Line) : (s.setLine l x).events = s.events := by cases l <;> rfl
@[simp] theorem State.setLine_vector0 (s : State) (l : LineId) (x : Line) : (s.setLine l x).vector0 = s.vector0 := by cases l <;> rfl
@[simp] theorem State.setLine_vector1 (s : State) (l : LineId) (x : Line) : (s.setLine l x).vector1 = s.vector1 := by cases l <;> rfl
@[simp] theorem State.setLine_vector2 (s : State) (l : LineId) (x : Line) : (s.setLine l x).vector2 = s.vector2 := by cases l <;> rfl
@[simp] theorem State.setLine_drain (s : State) (l : LineId) (x : Line) : (s.setLine l x).drain = s.drain := by cases l <;> rfl
@[simp] theorem State.setLine_reads (s : State) (l : LineId) (x : Line) : (s.setLine l x).reads = s.reads := by cases l <;> rfl
@[simp] theorem State.setLine_nextRead (s : State) (l : LineId) (x : Line) : (s.setLine l x).nextRead = s.nextRead := by cases l <;> rfl
@[simp] theorem State.setLine_port (s : State) (l : LineId) (x : Line) : (s.setLine l x).port = s.port := by cases l <;> rfl
@[simp] theorem State.updLine_pending (s : State) (l : LineId) (f : Line → Line) : (s.updLine l f).pending = s.pending := by cases l <;> rfl
@[simp] theorem State.updLine_run (s : State) (l : LineId) (f : Line → Line) : (s.updLine l f).run = s.run := by cases l <;> rfl
@[simp] theorem State.updLine_faultInfo (s : State) (l : LineId) (f : Line → Line) : (s.updLine l f).faultInfo = s.faultInfo := by cases l <;> rfl
@[simp] theorem State.updLine_ctxLo (s : State) (l : LineId) (f : Line → Line) : (s.updLine l f).ctxLo = s.ctxLo := by cases l <;> rfl
@[simp] theorem State.updLine_ctxHi (s : State) (l : LineId) (f : Line → Line) : (s.updLine l f).ctxHi = s.ctxHi := by cases l <;> rfl
@[simp] theorem State.updLine_contextRead (s : State) (l : LineId) (f : Line → Line) : (s.updLine l f).contextRead = s.contextRead := by cases l <;> rfl
@[simp] theorem State.updLine_context (s : State) (l : LineId) (f : Line → Line) : (s.updLine l f).context = s.context := by cases l <;> rfl
@[simp] theorem State.updLine_events (s : State) (l : LineId) (f : Line → Line) : (s.updLine l f).events = s.events := by cases l <;> rfl
@[simp] theorem State.updLine_vector0 (s : State) (l : LineId) (f : Line → Line) : (s.updLine l f).vector0 = s.vector0 := by cases l <;> rfl
@[simp] theorem State.updLine_vector1 (s : State) (l : LineId) (f : Line → Line) : (s.updLine l f).vector1 = s.vector1 := by cases l <;> rfl
@[simp] theorem State.updLine_vector2 (s : State) (l : LineId) (f : Line → Line) : (s.updLine l f).vector2 = s.vector2 := by cases l <;> rfl
@[simp] theorem State.updLine_drain (s : State) (l : LineId) (f : Line → Line) : (s.updLine l f).drain = s.drain := by cases l <;> rfl
@[simp] theorem State.updLine_reads (s : State) (l : LineId) (f : Line → Line) : (s.updLine l f).reads = s.reads := by cases l <;> rfl
@[simp] theorem State.updLine_nextRead (s : State) (l : LineId) (f : Line → Line) : (s.updLine l f).nextRead = s.nextRead := by cases l <;> rfl
@[simp] theorem State.updLine_port (s : State) (l : LineId) (f : Line → Line) : (s.updLine l f).port = s.port := by cases l <;> rfl
@[simp] theorem State.setLine_line_same (s : State) (l : LineId) (x : Line) : (s.setLine l x).line l = x := by cases l <;> rfl
@[simp] theorem State.setLine_line_other (s : State) (l : LineId) (x : Line) : (s.setLine l x).line l.other = s.line l.other := by cases l <;> rfl
@[simp] theorem State.updLine_line_same (s : State) (l : LineId) (f : Line → Line) : (s.updLine l f).line l = f (s.line l) := by cases l <;> rfl
@[simp] theorem State.updLine_line_other (s : State) (l : LineId) (f : Line → Line) : (s.updLine l f).line l.other = s.line l.other := by cases l <;> rfl
@[simp] theorem State.setLine_vector (s : State) (l : LineId) (x : Line) (v : VectorId) : (s.setLine l x).vector v = s.vector v := by cases l <;> cases v <;> rfl
@[simp] theorem State.updLine_vector (s : State) (l : LineId) (f : Line → Line) (v : VectorId) : (s.updLine l f).vector v = s.vector v := by cases l <;> cases v <;> rfl
@[simp] theorem State.updLine_updLine (s : State) (l : LineId) (f g : Line → Line) : (s.updLine l f).updLine l g = s.updLine l (fun x => g (f x)) := by cases l <;> rfl

/-- Changes of the two lines commute. -/
theorem State.updLine_comm (s : State) (l : LineId) (f g : Line → Line) :
    (s.updLine l f).updLine l.other g = (s.updLine l.other g).updLine l f := by cases l <;> rfl

@[simp] theorem LineId.other_other (l : LineId) : l.other.other = l := by cases l <;> rfl

/-- A line is the one named or the other. -/
theorem LineId.eq_or_other (l k : LineId) : k = l ∨ k = l.other := by cases l <;> cases k <;> simp [LineId.other]

/-! ## One vector replaced -/

@[simp] theorem State.setVector_pending (s : State) (v : VectorId) (x : VectorState) : (s.setVector v x).pending = s.pending := by cases v <;> rfl
@[simp] theorem State.setVector_run (s : State) (v : VectorId) (x : VectorState) : (s.setVector v x).run = s.run := by cases v <;> rfl
@[simp] theorem State.setVector_faultInfo (s : State) (v : VectorId) (x : VectorState) : (s.setVector v x).faultInfo = s.faultInfo := by cases v <;> rfl
@[simp] theorem State.setVector_ctxLo (s : State) (v : VectorId) (x : VectorState) : (s.setVector v x).ctxLo = s.ctxLo := by cases v <;> rfl
@[simp] theorem State.setVector_ctxHi (s : State) (v : VectorId) (x : VectorState) : (s.setVector v x).ctxHi = s.ctxHi := by cases v <;> rfl
@[simp] theorem State.setVector_contextRead (s : State) (v : VectorId) (x : VectorState) : (s.setVector v x).contextRead = s.contextRead := by cases v <;> rfl
@[simp] theorem State.setVector_context (s : State) (v : VectorId) (x : VectorState) : (s.setVector v x).context = s.context := by cases v <;> rfl
@[simp] theorem State.setVector_events (s : State) (v : VectorId) (x : VectorState) : (s.setVector v x).events = s.events := by cases v <;> rfl
@[simp] theorem State.setVector_drain (s : State) (v : VectorId) (x : VectorState) : (s.setVector v x).drain = s.drain := by cases v <;> rfl
@[simp] theorem State.setVector_line0 (s : State) (v : VectorId) (x : VectorState) : (s.setVector v x).line0 = s.line0 := by cases v <;> rfl
@[simp] theorem State.setVector_line1 (s : State) (v : VectorId) (x : VectorState) : (s.setVector v x).line1 = s.line1 := by cases v <;> rfl
@[simp] theorem State.setVector_reads (s : State) (v : VectorId) (x : VectorState) : (s.setVector v x).reads = s.reads := by cases v <;> rfl
@[simp] theorem State.setVector_nextRead (s : State) (v : VectorId) (x : VectorState) : (s.setVector v x).nextRead = s.nextRead := by cases v <;> rfl
@[simp] theorem State.setVector_port (s : State) (v : VectorId) (x : VectorState) : (s.setVector v x).port = s.port := by cases v <;> rfl
@[simp] theorem State.setVector_line (s : State) (v : VectorId) (x : VectorState) (l : LineId) : (s.setVector v x).line l = s.line l := by cases v <;> cases l <;> rfl
@[simp] theorem State.setVector_vector_same (s : State) (v : VectorId) (x : VectorState) : (s.setVector v x).vector v = x := by cases v <;> rfl

/-- Replacing one vector leaves the others. -/
theorem State.setVector_vector_ne (s : State) {v w : VectorId} (x : VectorState) (h : w ≠ v) :
    (s.setVector v x).vector w = s.vector w := by cases v <;> cases w <;> first | rfl | exact absurd rfl h

@[simp] theorem State.setVector_setVector (s : State) (v : VectorId) (x y : VectorState) : (s.setVector v x).setVector v y = s.setVector v y := by cases v <;> rfl

/-! ## What the host port issues -/

@[simp] theorem State.issue_pending (s : State) (op : PortOp) : (s.issue op).pending = s.pending := rfl
@[simp] theorem State.issue_run (s : State) (op : PortOp) : (s.issue op).run = s.run := rfl
@[simp] theorem State.issue_faultInfo (s : State) (op : PortOp) : (s.issue op).faultInfo = s.faultInfo := rfl
@[simp] theorem State.issue_ctxLo (s : State) (op : PortOp) : (s.issue op).ctxLo = s.ctxLo := rfl
@[simp] theorem State.issue_ctxHi (s : State) (op : PortOp) : (s.issue op).ctxHi = s.ctxHi := rfl
@[simp] theorem State.issue_contextRead (s : State) (op : PortOp) : (s.issue op).contextRead = s.contextRead := rfl
@[simp] theorem State.issue_context (s : State) (op : PortOp) : (s.issue op).context = s.context := rfl
@[simp] theorem State.issue_events (s : State) (op : PortOp) : (s.issue op).events = s.events := rfl
@[simp] theorem State.issue_vector0 (s : State) (op : PortOp) : (s.issue op).vector0 = s.vector0 := rfl
@[simp] theorem State.issue_vector1 (s : State) (op : PortOp) : (s.issue op).vector1 = s.vector1 := rfl
@[simp] theorem State.issue_vector2 (s : State) (op : PortOp) : (s.issue op).vector2 = s.vector2 := rfl
@[simp] theorem State.issue_drain (s : State) (op : PortOp) : (s.issue op).drain = s.drain := rfl
@[simp] theorem State.issue_line0 (s : State) (op : PortOp) : (s.issue op).line0 = s.line0 := rfl
@[simp] theorem State.issue_line1 (s : State) (op : PortOp) : (s.issue op).line1 = s.line1 := rfl
@[simp] theorem State.issue_reads (s : State) (op : PortOp) : (s.issue op).reads = s.reads := rfl
@[simp] theorem State.issue_nextRead (s : State) (op : PortOp) : (s.issue op).nextRead = s.nextRead := rfl
@[simp] theorem State.issue_port (s : State) (op : PortOp) : (s.issue op).port = s.port ++ [op] := rfl
@[simp] theorem State.issue_line (s : State) (op : PortOp) (l : LineId) : (s.issue op).line l = s.line l := by cases l <;> rfl
@[simp] theorem State.issue_vector (s : State) (op : PortOp) (v : VectorId) : (s.issue op).vector v = s.vector v := by cases v <;> rfl
@[simp] theorem State.hostWrite_pending (s : State) (a : Addr) (d : List Byte) : (s.hostWrite a d).pending = s.pending := rfl
@[simp] theorem State.hostWrite_run (s : State) (a : Addr) (d : List Byte) : (s.hostWrite a d).run = s.run := rfl
@[simp] theorem State.hostWrite_faultInfo (s : State) (a : Addr) (d : List Byte) : (s.hostWrite a d).faultInfo = s.faultInfo := rfl
@[simp] theorem State.hostWrite_ctxLo (s : State) (a : Addr) (d : List Byte) : (s.hostWrite a d).ctxLo = s.ctxLo := rfl
@[simp] theorem State.hostWrite_ctxHi (s : State) (a : Addr) (d : List Byte) : (s.hostWrite a d).ctxHi = s.ctxHi := rfl
@[simp] theorem State.hostWrite_contextRead (s : State) (a : Addr) (d : List Byte) : (s.hostWrite a d).contextRead = s.contextRead := rfl
@[simp] theorem State.hostWrite_context (s : State) (a : Addr) (d : List Byte) : (s.hostWrite a d).context = s.context := rfl
@[simp] theorem State.hostWrite_events (s : State) (a : Addr) (d : List Byte) : (s.hostWrite a d).events = s.events := rfl
@[simp] theorem State.hostWrite_vector0 (s : State) (a : Addr) (d : List Byte) : (s.hostWrite a d).vector0 = s.vector0 := rfl
@[simp] theorem State.hostWrite_vector1 (s : State) (a : Addr) (d : List Byte) : (s.hostWrite a d).vector1 = s.vector1 := rfl
@[simp] theorem State.hostWrite_vector2 (s : State) (a : Addr) (d : List Byte) : (s.hostWrite a d).vector2 = s.vector2 := rfl
@[simp] theorem State.hostWrite_drain (s : State) (a : Addr) (d : List Byte) : (s.hostWrite a d).drain = s.drain := rfl
@[simp] theorem State.hostWrite_line0 (s : State) (a : Addr) (d : List Byte) : (s.hostWrite a d).line0 = s.line0 := rfl
@[simp] theorem State.hostWrite_line1 (s : State) (a : Addr) (d : List Byte) : (s.hostWrite a d).line1 = s.line1 := rfl
@[simp] theorem State.hostWrite_reads (s : State) (a : Addr) (d : List Byte) : (s.hostWrite a d).reads = s.reads := rfl
@[simp] theorem State.hostWrite_nextRead (s : State) (a : Addr) (d : List Byte) : (s.hostWrite a d).nextRead = s.nextRead := rfl
@[simp] theorem State.hostWrite_port (s : State) (a : Addr) (d : List Byte) : (s.hostWrite a d).port = s.port ++ [.write a d] := rfl
@[simp] theorem State.hostWrite_line (s : State) (a : Addr) (d : List Byte) (l : LineId) : (s.hostWrite a d).line l = s.line l := by cases l <;> rfl
@[simp] theorem State.hostWrite_vector (s : State) (a : Addr) (d : List Byte) (v : VectorId) : (s.hostWrite a d).vector v = s.vector v := by cases v <;> rfl

/-! ## Host memory reads -/

@[simp] theorem State.issueRead_pending (s : State) (reader : Reader) (a : Addr) (n : Nat) : (s.issueRead reader a n).pending = s.pending := rfl
@[simp] theorem State.issueRead_run (s : State) (reader : Reader) (a : Addr) (n : Nat) : (s.issueRead reader a n).run = s.run := rfl
@[simp] theorem State.issueRead_faultInfo (s : State) (reader : Reader) (a : Addr) (n : Nat) : (s.issueRead reader a n).faultInfo = s.faultInfo := rfl
@[simp] theorem State.issueRead_ctxLo (s : State) (reader : Reader) (a : Addr) (n : Nat) : (s.issueRead reader a n).ctxLo = s.ctxLo := rfl
@[simp] theorem State.issueRead_ctxHi (s : State) (reader : Reader) (a : Addr) (n : Nat) : (s.issueRead reader a n).ctxHi = s.ctxHi := rfl
@[simp] theorem State.issueRead_contextRead (s : State) (reader : Reader) (a : Addr) (n : Nat) : (s.issueRead reader a n).contextRead = s.contextRead := rfl
@[simp] theorem State.issueRead_context (s : State) (reader : Reader) (a : Addr) (n : Nat) : (s.issueRead reader a n).context = s.context := rfl
@[simp] theorem State.issueRead_events (s : State) (reader : Reader) (a : Addr) (n : Nat) : (s.issueRead reader a n).events = s.events := rfl
@[simp] theorem State.issueRead_vector0 (s : State) (reader : Reader) (a : Addr) (n : Nat) : (s.issueRead reader a n).vector0 = s.vector0 := rfl
@[simp] theorem State.issueRead_vector1 (s : State) (reader : Reader) (a : Addr) (n : Nat) : (s.issueRead reader a n).vector1 = s.vector1 := rfl
@[simp] theorem State.issueRead_vector2 (s : State) (reader : Reader) (a : Addr) (n : Nat) : (s.issueRead reader a n).vector2 = s.vector2 := rfl
@[simp] theorem State.issueRead_drain (s : State) (reader : Reader) (a : Addr) (n : Nat) : (s.issueRead reader a n).drain = s.drain := rfl
@[simp] theorem State.issueRead_line0 (s : State) (reader : Reader) (a : Addr) (n : Nat) : (s.issueRead reader a n).line0 = s.line0 := rfl
@[simp] theorem State.issueRead_line1 (s : State) (reader : Reader) (a : Addr) (n : Nat) : (s.issueRead reader a n).line1 = s.line1 := rfl
@[simp] theorem State.issueRead_port (s : State) (reader : Reader) (a : Addr) (n : Nat) : (s.issueRead reader a n).port = s.port := rfl
@[simp] theorem State.issueRead_line (s : State) (reader : Reader) (a : Addr) (n : Nat) (l : LineId) : (s.issueRead reader a n).line l = s.line l := by cases l <;> rfl
@[simp] theorem State.issueRead_vector (s : State) (reader : Reader) (a : Addr) (n : Nat) (v : VectorId) : (s.issueRead reader a n).vector v = s.vector v := by cases v <;> rfl
@[simp] theorem State.endRead_pending (s : State) (id : Nat) : (s.endRead id).pending = s.pending := rfl
@[simp] theorem State.endRead_run (s : State) (id : Nat) : (s.endRead id).run = s.run := rfl
@[simp] theorem State.endRead_faultInfo (s : State) (id : Nat) : (s.endRead id).faultInfo = s.faultInfo := rfl
@[simp] theorem State.endRead_ctxLo (s : State) (id : Nat) : (s.endRead id).ctxLo = s.ctxLo := rfl
@[simp] theorem State.endRead_ctxHi (s : State) (id : Nat) : (s.endRead id).ctxHi = s.ctxHi := rfl
@[simp] theorem State.endRead_contextRead (s : State) (id : Nat) : (s.endRead id).contextRead = s.contextRead := rfl
@[simp] theorem State.endRead_context (s : State) (id : Nat) : (s.endRead id).context = s.context := rfl
@[simp] theorem State.endRead_events (s : State) (id : Nat) : (s.endRead id).events = s.events := rfl
@[simp] theorem State.endRead_vector0 (s : State) (id : Nat) : (s.endRead id).vector0 = s.vector0 := rfl
@[simp] theorem State.endRead_vector1 (s : State) (id : Nat) : (s.endRead id).vector1 = s.vector1 := rfl
@[simp] theorem State.endRead_vector2 (s : State) (id : Nat) : (s.endRead id).vector2 = s.vector2 := rfl
@[simp] theorem State.endRead_drain (s : State) (id : Nat) : (s.endRead id).drain = s.drain := rfl
@[simp] theorem State.endRead_line0 (s : State) (id : Nat) : (s.endRead id).line0 = s.line0 := rfl
@[simp] theorem State.endRead_line1 (s : State) (id : Nat) : (s.endRead id).line1 = s.line1 := rfl
@[simp] theorem State.endRead_nextRead (s : State) (id : Nat) : (s.endRead id).nextRead = s.nextRead := rfl
@[simp] theorem State.endRead_port (s : State) (id : Nat) : (s.endRead id).port = s.port := rfl
@[simp] theorem State.endRead_line (s : State) (id : Nat) (l : LineId) : (s.endRead id).line l = s.line l := by cases l <;> rfl
@[simp] theorem State.endRead_vector (s : State) (id : Nat) (v : VectorId) : (s.endRead id).vector v = s.vector v := by cases v <;> rfl
@[simp] theorem State.issueRead_reads (s : State) (reader : Reader) (a : Addr) (n : Nat) : (s.issueRead reader a n).reads = s.reads ++ [⟨s.nextRead, reader, a, n⟩] := rfl
@[simp] theorem State.issueRead_nextRead (s : State) (reader : Reader) (a : Addr) (n : Nat) : (s.issueRead reader a n).nextRead = s.nextRead + 1 := rfl
@[simp] theorem State.endRead_reads (s : State) (id : Nat) : (s.endRead id).reads = s.reads.filter (fun r => r.id != id) := rfl

/-- A read that has ended is no longer outstanding (R180). -/
@[simp] theorem State.findRead_endRead (s : State) (id : Nat) : (s.endRead id).findRead id = none := by
  simp [State.findRead, State.endRead, List.find?_eq_none]

end Sys2Proof.Machine
end

