-- ==== Sys2Proof/Laws/Ops.lean ====
section
/-! SUPPORT. What each shared operation can do, said once: which parts of the state it can change, and what it makes of them. -/

namespace Sys2Proof.Machine

/-! ## Two frames: operations that only report, and operations of one line -/

/-- `t` is `s` but for the event unit, the vectors, and more behind what the host port had issued. -/
structure State.Reports (s t : State) : Prop where
  rest : t = { s with events := t.events, vector0 := t.vector0, vector1 := t.vector1, vector2 := t.vector2, port := t.port }
  port : s.port <+: t.port

/-- `t` is `s` but for line `l`, the event unit, the vectors, the reads, and more behind what the host port had issued. -/
structure State.Touches (l : LineId) (s t : State) : Prop where
  rest : t = { s.setLine l (t.line l) with
    events := t.events, vector0 := t.vector0, vector1 := t.vector1, vector2 := t.vector2
    reads := t.reads, nextRead := t.nextRead, port := t.port }
  port : s.port <+: t.port

theorem State.Reports.refl (s : State) : s.Reports s := ⟨rfl, List.prefix_refl _⟩

theorem State.Reports.trans {s t u : State} (h : s.Reports t) (k : t.Reports u) : s.Reports u :=
  ⟨by rw [k.rest, h.rest], h.port.trans k.port⟩

/-- Operations that only report leave both lines. -/
theorem State.Reports.line {s t : State} (h : s.Reports t) (l : LineId) : t.line l = s.line l := by
  rw [h.rest]; cases l <;> rfl

theorem State.Reports.touches {s t : State} (h : s.Reports t) (l : LineId) : State.Touches l s t :=
  ⟨by rw [h.line l]; conv => { lhs; rw [h.rest] }; rw [h.rest]; cases l <;> rfl, h.port⟩

theorem State.Touches.refl (l : LineId) (s : State) : State.Touches l s s := ⟨by cases l <;> rfl, List.prefix_refl _⟩

theorem State.Touches.trans {l : LineId} {s t u : State} (h : State.Touches l s t) (k : State.Touches l t u) :
    State.Touches l s u :=
  ⟨by rw [k.rest, h.rest]; cases l <;> rfl, h.port.trans k.port⟩

/-- Operations of one line leave the other. -/
theorem State.Touches.other {l : LineId} {s t : State} (h : State.Touches l s t) : t.line l.other = s.line l.other := by
  rw [h.rest]; cases l <;> rfl

theorem State.updLine_touches (s : State) (l : LineId) (f : Line → Line) : State.Touches l s (s.updLine l f) :=
  ⟨by cases l <;> rfl, by simp⟩

theorem State.hostWrite_reports (s : State) (a : Addr) (d : List Byte) : s.Reports (s.hostWrite a d) := ⟨rfl, by simp⟩

theorem State.issueRead_touches (s : State) (l : LineId) (r : Reader) (a : Addr) (n : Nat) :
    State.Touches l s (s.issueRead r a n) := ⟨by cases l <;> rfl, by simp⟩

theorem State.endRead_touches (s : State) (l : LineId) (id : Nat) : State.Touches l s (s.endRead id) :=
  ⟨by cases l <;> rfl, by simp⟩

/-! ## Vectors and events -/

theorem State.setVector_reports (s : State) (v : VectorId) (x : VectorState) : s.Reports (s.setVector v x) :=
  ⟨by cases v <;> rfl, by simp⟩

theorem State.issue_reports (s : State) (op : PortOp) : s.Reports (s.issue op) := ⟨rfl, by simp⟩

theorem State.issueInterrupt_reports (s : State) (v : VectorId) : s.Reports (s.issueInterrupt v) := by
  unfold State.issueInterrupt
  split
  · split
    · exact .refl s
    · exact s.issue_reports _
  · exact s.issue_reports _

theorem raiseVector_reports (v : VectorId) (s : State) : s.Reports (raiseVector v s) :=
  (s.issueInterrupt_reports v).trans (State.setVector_reports _ _ _)

theorem countRecord_reports (v : VectorId) (s : State) : s.Reports (countRecord v s) := by
  unfold countRecord
  dsimp only
  split
  · exact s.setVector_reports v _
  · split
    · exact (s.setVector_reports v _).trans (raiseVector_reports v _)
    · exact s.setVector_reports v _

/-- Counting a record leaves the event unit. -/
@[simp] theorem countRecord_events (v : VectorId) (s : State) : (countRecord v s).events = s.events := by
  unfold countRecord raiseVector State.issueInterrupt
  dsimp only
  repeat' split
  all_goals simp

theorem writeEvent_reports (q : Half) (e : Event) (s : State) : s.Reports (writeEvent q e s) :=
  (s.hostWrite_reports _ _).trans (State.Reports.trans ⟨rfl, by simp⟩ (countRecord_reports _ _))

/-- A written event advances the producer index and nothing else of the event unit (R90). -/
@[simp] theorem writeEvent_events (q : Half) (e : Event) (s : State) :
    (writeEvent q e s).events = { s.events with producer := s.events.producer + 1 } := by simp [writeEvent]

theorem raiseEvent_reports (e : Event) (s : State) : s.Reports (raiseEvent e s) := by
  unfold raiseEvent
  dsimp only
  split
  · exact State.Reports.trans ⟨rfl, by simp⟩ (writeEvent_reports _ _ _)
  · split <;> exact ⟨rfl, by simp⟩

/-- A raised event takes one sequence number, whatever becomes of it (R90). -/
@[simp] theorem raiseEvent_sequence (e : Event) (s : State) : (raiseEvent e s).events.sequence = s.events.sequence + 1 := by
  unfold raiseEvent
  dsimp only
  split
  · simp
  · split <;> rfl

theorem raiseIf_reports (c : Bool) (e : Event) (s : State) : s.Reports (raiseIf c e s) := by
  unfold raiseIf
  split
  · exact raiseEvent_reports e s
  · exact .refl s

theorem drainBacklog_reports (b : List (Half × Event)) (s : State) : s.Reports (drainBacklog b s) := by
  induction b generalizing s with
  | nil => exact ⟨rfl, by simp [drainBacklog]⟩
  | cons p rest ih =>
    obtain ⟨q, e⟩ := p
    unfold drainBacklog
    split
    · exact (writeEvent_reports q e s).trans (ih _)
    · exact ⟨rfl, by simp⟩

theorem writeLoss_reports (s : State) : s.Reports (writeLoss s) := by
  unfold writeLoss
  split
  · exact State.Reports.trans ⟨rfl, by simp⟩ (writeEvent_reports _ _ _)
  · exact .refl s

theorem drainEvents_reports (s : State) : s.Reports (drainEvents s) :=
  (drainBacklog_reports _ s).trans (writeLoss_reports _)

/-- The writes of a line's counter block and cycle record are reports (R121, R168). -/
theorem writeCounters_reports (l : LineId) (s : State) : s.Reports (writeCounters l s) := s.hostWrite_reports _ _

theorem writeCycleRecord_reports (l : LineId) (s : State) : s.Reports (writeCycleRecord l s) := s.hostWrite_reports _ _

/-- A line counter changes: the line's counters and nothing else of it (R168). -/
@[simp] theorem countOnLine_line (l : LineId) (f : Counters → Counters) (s : State) :
    (countOnLine l f s).line l = { s.line l with counters := f (s.line l).counters } := by
  rw [countOnLine, (writeCounters_reports l _).line l, State.updLine_line_same]

theorem countOnLine_touches (l : LineId) (f : Counters → Counters) (s : State) : State.Touches l s (countOnLine l f s) :=
  (s.updLine_touches l _).trans ((writeCounters_reports l _).touches l)

/-- A line changes state, with one LINE_STATE event (R142). -/
@[simp] theorem moveLine_line (l : LineId) (new : LineState) (r : LineReason) (s : State) :
    (moveLine l new r s).line l = { s.line l with state := new } := by
  rw [moveLine, (raiseEvent_reports _ _).line l, State.updLine_line_same]

theorem moveLine_touches (l : LineId) (new : LineState) (r : LineReason) (s : State) : State.Touches l s (moveLine l new r s) :=
  (s.updLine_touches l _).trans ((raiseEvent_reports _ _).touches l)

/-! ## Completions and the pending list -/

theorem complete_touches (l : LineId) (c : Completion) (s : State) : State.Touches l s (complete l c s) :=
  ((s.hostWrite_reports _ _).touches l).trans ((State.updLine_touches _ l _).trans ((countRecord_reports _ _).touches l))

/-- A completion advances the completion producer index and nothing else of the line (R80). -/
@[simp] theorem complete_producer (l : LineId) (c : Completion) (s : State) :
    ((complete l c s).line l).completion.producer = (s.line l).completion.producer + 1 := by
  rw [complete, (countRecord_reports _ _).line l]; simp

@[simp] theorem complete_entries (l : LineId) (c : Completion) (s : State) :
    ((complete l c s).line l).entries = (s.line l).entries := by
  rw [complete, (countRecord_reports _ _).line l]; simp

@[simp] theorem complete_stations (l : LineId) (c : Completion) (s : State) :
    ((complete l c s).line l).stations = (s.line l).stations := by
  rw [complete, (countRecord_reports _ _).line l]; simp

/-- What `Line.findEntry` answers is the first place at which an entry satisfies `p`. -/
theorem Line.findEntry_eq_some {x : Line} {p : Entry → Bool} {i : Nat} {e : Entry} :
    x.findEntry p = some (i, e) ↔ x.FirstEntry p i e := by
  unfold Line.findEntry Line.FirstEntry
  constructor
  · intro h
    split at h
    · cases h
    · rename_i k hk
      obtain ⟨hlt, hp, hbefore⟩ := List.findIdx?_eq_some_iff_getElem.mp hk
      rw [List.getElem?_eq_getElem hlt] at h
      simp only [Option.map_some, Option.some.injEq, Prod.mk.injEq] at h
      obtain ⟨rfl, rfl⟩ := h
      refine ⟨List.getElem?_eq_getElem hlt, hp, fun j hj e' he' => ?_⟩
      have := hbefore j hj
      rw [List.getElem?_eq_getElem (by omega)] at he'
      cases he'
      simpa using this
  · rintro ⟨hi, hp, hbefore⟩
    obtain ⟨hlt, rfl⟩ := List.getElem?_eq_some_iff.mp hi
    have hk : x.entries.findIdx? p = some i :=
      List.findIdx?_eq_some_iff_getElem.mpr
        ⟨hlt, hp, fun j hj => by simpa using hbefore j hj _ (List.getElem?_eq_getElem (by omega))⟩
    rw [hk]
    simp [List.getElem?_eq_getElem hlt]

/-- `Line.findEntry` answers none exactly when no entry satisfies `p`. -/
theorem Line.findEntry_eq_none {x : Line} {p : Entry → Bool} : x.findEntry p = none ↔ ∀ e, e ∈ x.entries → p e = false := by
  constructor
  · intro h
    by_contra hc
    push Not at hc
    obtain ⟨e, he, hp⟩ := hc
    cases hf : x.entries.findIdx? p with
    | none =>
      have := (List.findIdx?_eq_none_iff.mp hf) e he
      simp_all
    | some k =>
      obtain ⟨hlt, -, -⟩ := List.findIdx?_eq_some_iff_getElem.mp hf
      simp [Line.findEntry, hf, List.getElem?_eq_getElem hlt] at h
  · intro h
    have : x.entries.findIdx? p = none := List.findIdx?_eq_none_iff.mpr (by simpa using h)
    simp [Line.findEntry, this]

/-- The entry found is in the list. -/
theorem Line.FirstEntry.mem {x : Line} {p : Entry → Bool} {i : Nat} {e : Entry} (h : x.FirstEntry p i e) : e ∈ x.entries :=
  List.mem_of_getElem? h.1

theorem completeEntry_touches (l : LineId) (how : Ending) (s : State) (e : Entry) : State.Touches l s (completeEntry l how s e) :=
  complete_touches l _ s

theorem finishEntry_touches (l : LineId) (i : Nat) (e : Entry) (how : Ending) (s : State) :
    State.Touches l s (finishEntry l i e how s) :=
  (s.updLine_touches l _).trans (complete_touches l _ _)

theorem finishFirst_touches (l : LineId) (p : Entry → Bool) (how : Ending) (s : State) :
    State.Touches l s (finishFirst l p how s) := by
  unfold finishFirst
  split
  · exact .refl l s
  · exact finishEntry_touches l _ _ how s

/-- Completing several entries in turn touches their line only. -/
theorem foldl_completeEntry_touches (l : LineId) (how : Entry → Ending) (es : List Entry) (s : State) :
    State.Touches l s (es.foldl (fun s e => completeEntry l (how e) s e) s) := by
  induction es generalizing s with
  | nil => exact .refl l s
  | cons e rest ih => exact (completeEntry_touches l _ s e).trans (ih _)

theorem finishAll_touches (l : LineId) (p : Entry → Bool) (how : Entry → Ending) (s : State) :
    State.Touches l s (finishAll l p how s) :=
  (s.updLine_touches l _).trans (foldl_completeEntry_touches l how _ _)

/-- Completing several entries in turn leaves the list as it is and advances the producer index by their number. -/
theorem foldl_completeEntry_line (l : LineId) (how : Entry → Ending) (es : List Entry) (s : State) :
    (es.foldl (fun s e => completeEntry l (how e) s e) s).line l =
      { s.line l with completion :=
        { (s.line l).completion with producer := (s.line l).completion.producer + BitVec.ofNat 16 es.length } } := by
  induction es generalizing s with
  | nil => simp
  | cons e rest ih =>
    rw [List.foldl_cons, ih]
    have h : (completeEntry l (how e) s e).line l =
        { s.line l with completion := { (s.line l).completion with producer := (s.line l).completion.producer + 1 } } := by
      rw [completeEntry, complete, (countRecord_reports _ _).line l]
      simp
    rw [h]
    have harith : (s.line l).completion.producer + 1 + BitVec.ofNat 16 rest.length =
        (s.line l).completion.producer + BitVec.ofNat 16 (e :: rest).length := by
      rw [List.length_cons, BitVec.ofNat_add, BitVec.add_comm (BitVec.ofNat 16 rest.length), BitVec.add_assoc]
      rfl
    simp only [harith]

/-- Every entry that satisfies `p` leaves the list, with one completion each. -/
theorem finishAll_line (l : LineId) (p : Entry → Bool) (how : Entry → Ending) (s : State) :
    (finishAll l p how s).line l =
      { s.line l with
        entries := (s.line l).entries.filter (fun e => !p e)
        completion := { (s.line l).completion with
          producer := (s.line l).completion.producer + BitVec.ofNat 16 ((s.line l).entries.filter p).length } } := by
  unfold finishAll
  dsimp only
  rw [foldl_completeEntry_line]
  simp

end Sys2Proof.Machine
end

