-- ==== Sys2Proof/Laws/Blocks.lean ====
section
/-! SUPPORT. What the operations of the station table, the buffer unit, the collector, the cycle engine and the wake sequence can do, said
once. -/

namespace Sys2Proof.Machine

/-! ## The station table -/

/-- The record just written is the record read (R37). -/
theorem Line.station_setStation_same (x : Line) {a : Nat} (r : Station) (h : 1 ≤ a ∧ a ≤ 62) :
    (x.setStation a r).station a = r := by
  simp [Line.station, Line.setStation, h]

/-- Writing one record leaves every other. -/
theorem Line.station_setStation_ne (x : Line) {a b : Nat} (r : Station) (h : b ≠ a) :
    (x.setStation a r).station b = x.station b := by
  unfold Line.station Line.setStation
  split
  · split
    · rw [Vector.getElem_set_ne]
      omega
    · rfl
  · rfl

/-- Writing the record that stands there changes nothing. -/
theorem Line.setStation_self (x : Line) (a : Nat) : x.setStation a (x.station a) = x := by
  unfold Line.station Line.setStation
  split <;> simp

/-- Writing a record changes the station table and nothing else of the line. -/
theorem Line.setStation_rest (x : Line) (a : Nat) (r : Station) :
    x.setStation a r = { x with stations := (x.setStation a r).stations } := by
  unfold Line.setStation
  split <;> rfl

/-- A change of one record writes it, and reports a change of state (R43). -/
theorem changeStation_line (l : LineId) (cause : HealthCause) (f : Station → Station) (s : State) (a : Nat) :
    (changeStation l cause f s a).line l = (s.line l).setStation a (f ((s.line l).station a)) := by
  rw [changeStation, (raiseIf_reports _ _ _).line l, State.updLine_line_same]

theorem changeStation_touches (l : LineId) (cause : HealthCause) (f : Station → Station) (s : State) (a : Nat) :
    State.Touches l s (changeStation l cause f s a) :=
  (s.updLine_touches l _).trans ((raiseIf_reports _ _ _).touches l)

/-- An outcome report writes the record of its station (R39). -/
theorem reportOutcome_line (l : LineId) (a : Nat) (o : ExchangeEnd) (s : State) :
    (reportOutcome l a o s).line l =
      (s.line l).setStation a (((s.line l).station a).applyReport (s.line l).params.offlineThreshold o) := by
  rw [reportOutcome, (raiseIf_reports _ _ _).line l, changeStation_line]

theorem reportOutcome_touches (l : LineId) (a : Nat) (o : ExchangeEnd) (s : State) : State.Touches l s (reportOutcome l a o s) :=
  (changeStation_touches l _ _ s a).trans ((raiseIf_reports _ _ _).touches l)

/-- Changing the records of several stations in turn touches their line only. -/
theorem foldl_changeStation_touches (l : LineId) (cause : HealthCause) (f : Station → Station) (as : List Nat) (s : State) :
    State.Touches l s (as.foldl (changeStation l cause f) s) := by
  induction as generalizing s with
  | nil => exact .refl l s
  | cons a rest ih => exact (changeStation_touches l cause f s a).trans (ih _)

/-- Changing the records of several distinct stations applies the change to each of them once, and to no other. -/
theorem foldl_changeStation_station (l : LineId) (cause : HealthCause) (f : Station → Station) (as : List Nat) (s : State)
    (hn : as.Nodup) (hr : ∀ a, a ∈ as → 1 ≤ a ∧ a ≤ 62) (b : Nat) :
    ((as.foldl (changeStation l cause f) s).line l).station b =
      if b ∈ as then f ((s.line l).station b) else (s.line l).station b := by
  induction as generalizing s with
  | nil => simp
  | cons a rest ih =>
    obtain ⟨ha, hrest⟩ := List.nodup_cons.mp hn
    rw [List.foldl_cons, ih _ hrest (fun c hc => hr c (List.mem_cons_of_mem a hc)), changeStation_line]
    by_cases hb : b = a
    · subst hb
      simp [ha, Line.station_setStation_same _ _ (hr b List.mem_cons_self)]
    · simp [hb, Line.station_setStation_ne _ _ hb]

/-- The attention set holds exactly the stations whose attention flag is set (R45). -/
theorem Line.mem_attentionSet (x : Line) (a : Nat) :
    a ∈ x.attentionSet ↔ 1 ≤ a ∧ a ≤ 62 ∧ (x.station a).attention = true := by
  simp only [Line.attentionSet, stationAddresses, List.mem_filter, List.mem_range'_1]
  constructor
  · rintro ⟨⟨h1, h2⟩, h⟩
    exact ⟨h1, by omega, h⟩
  · rintro ⟨h1, h2, h⟩
    exact ⟨⟨h1, by omega⟩, h⟩

/-! ## The buffer unit and the collector -/

theorem writeBack_touches (l : LineId) (d : List Byte) (s : State) : State.Touches l s (writeBack l d s) :=
  ((s.hostWrite_reports _ _).touches l).trans ((State.updLine_touches _ l _).trans ((countRecord_reports _ _).touches l))

/-- A write-back advances the write-back index and nothing else of the line (R87, R88). -/
theorem writeBack_line (l : LineId) (d : List Byte) (s : State) :
    (writeBack l d s).line l =
      { s.line l with buffers := { (s.line l).buffers with writeBack := (s.line l).buffers.writeBack + 1 } } := by
  rw [writeBack, (countRecord_reports _ _).line l]
  simp

theorem setHeld_touches (l : LineId) (ds : List Descriptor) (s : State) : State.Touches l s (setHeld l ds s) :=
  s.updLine_touches l _

theorem flushInvalid_touches (l : LineId) (ds : List Descriptor) (s : State) : State.Touches l s (flushInvalid l ds s) := by
  induction ds generalizing s with
  | nil => exact setHeld_touches l [] s
  | cons d rest ih =>
    unfold flushInvalid
    split
    · exact setHeld_touches l _ s
    · exact (writeBack_touches l _ s).trans (ih _)

theorem returnHeld_touches (l : LineId) (ds : List Descriptor) (s : State) : State.Touches l s (returnHeld l ds s) := by
  induction ds generalizing s with
  | nil => exact setHeld_touches l [] s
  | cons d rest ih => exact (writeBack_touches l _ s).trans (ih _)

theorem fillHead_touches (l : LineId) (a : Nat) (f : Byte) (d : List Byte) (more : Bool) (s : State) :
    State.Touches l s (fillHead l a f d more s) := by
  unfold fillHead
  split
  · exact .refl l s
  · dsimp only
    split
    · exact (writeBack_touches l _ s).trans (flushInvalid_touches l _ _)
    · exact ((s.hostWrite_reports _ _).touches l).trans ((writeBack_touches l _ _).trans (flushInvalid_touches l _ _))

theorem checkStarved_touches (l : LineId) (s : State) : State.Touches l s (checkStarved l s) := by
  unfold checkStarved
  dsimp only
  split
  · exact s.updLine_touches l _
  · split
    · exact (s.updLine_touches l _).trans ((raiseEvent_reports _ _).touches l)
    · exact .refl l s

theorem checkClaim_touches (l : LineId) (s : State) : State.Touches l s (checkClaim l s) := by
  unfold checkClaim
  split
  · exact s.updLine_touches l _
  · exact .refl l s

theorem settle_touches (l : LineId) (s : State) : State.Touches l s (settle l s) :=
  (checkStarved_touches l s).trans (checkClaim_touches l _)

/-- A check for starvation changes the starved flag, and nothing else of the line (R140). -/
theorem checkStarved_line (l : LineId) (s : State) :
    ∃ starved, (checkStarved l s).line l = { s.line l with collector := { (s.line l).collector with starved := starved } } := by
  unfold checkStarved
  dsimp only
  split
  · exact ⟨false, by simp⟩
  · split
    · exact ⟨true, by rw [(raiseEvent_reports _ _).line l]; simp⟩
    · exact ⟨(s.line l).collector.starved, rfl⟩

/-- What the collector looks at again changes its own claim and starved flag, and nothing else of the line (R134, R140). -/
theorem settle_line (l : LineId) (s : State) :
    ∃ claim starved, (settle l s).line l =
      { s.line l with collector := { (s.line l).collector with claim := claim, starved := starved } } := by
  obtain ⟨starved, h⟩ := checkStarved_line l s
  unfold settle checkClaim
  split
  · exact ⟨true, starved, by simp [h]⟩
  · exact ⟨(s.line l).collector.claim, starved, by rw [h]⟩

/-! ## The line controller and the wake sequence -/

/-- Work given to the line controller waits for the gap now in force (R2, R27). -/
@[simp] theorem giveJob_line (l : LineId) (k : JobKind) (s : State) :
    (giveJob l k s).line l = { s.line l with job := some ⟨k, .gapWait (s.line l).params.gap⟩ } := by
  simp [giveJob]

theorem giveJob_touches (l : LineId) (k : JobKind) (s : State) : State.Touches l s (giveJob l k s) := s.updLine_touches l _

theorem handExchange_touches (l : LineId) (a : Nat) (f : Byte) (d : List Byte) (n : Nat) (c : Claimant) (s : State) :
    State.Touches l s (handExchange l a f d n c s) := giveJob_touches l _ s

@[simp] theorem updWake_line (l : LineId) (f : WakeSequence → WakeSequence) (s : State) :
    (updWake l f s).line l = { s.line l with wake := f (s.line l).wake } := by simp [updWake]

theorem updWake_touches (l : LineId) (f : WakeSequence → WakeSequence) (s : State) : State.Touches l s (updWake l f s) :=
  s.updLine_touches l _

/-- The WACK waits for its gap in phase CLOSING (R156). -/
theorem enterClosing_line (l : LineId) (a : Nat) (s : State) :
    (enterClosing l a s).line l = { s.line l with
      wake := { (s.line l).wake with phase := .closing, acknowledged := a, rollCall := [] }
      job := some ⟨.wack a, .gapWait (s.line l).params.gap⟩ } := by
  simp [enterClosing]

theorem enterClosing_touches (l : LineId) (a : Nat) (s : State) : State.Touches l s (enterClosing l a s) :=
  (updWake_touches l _ s).trans (giveJob_touches l _ _)

theorem rollNext_touches (l : LineId) (s : State) : State.Touches l s (rollNext l s) := by
  unfold rollNext
  split
  · exact enterClosing_touches l 0 s
  · split
    · exact enterClosing_touches l 0 s
    · exact (updWake_touches l _ s).trans (handExchange_touches l _ _ _ _ _ _)

theorem endWatch_touches (l : LineId) (s : State) : State.Touches l s (endWatch l s) := finishFirst_touches l _ _ s

/-- With no recovery watch, line activity ends none (R166). -/
theorem endWatch_of_none (l : LineId) (s : State) (h : ∀ e, e ∈ (s.line l).entries → e.isDoing .watching = false) :
    endWatch l s = s := by
  unfold endWatch finishFirst
  rw [Line.findEntry_eq_none.mpr h]

theorem frameStart_touches (l : LineId) (s : State) : State.Touches l s (frameStart l s) :=
  (endWatch_touches l s).trans (State.updLine_touches _ l _)

/-- Before a reception ends, its line alone may change (R6, R166). -/
theorem frameArrival_touches (l : LineId) (rx : Reception) (s : State) : State.Touches l s (frameArrival l rx s) := by
  unfold frameArrival
  split
  · exact frameStart_touches l s
  · split
    · exact endWatch_touches l s
    · exact .refl l s

/-- With no recovery watch, the end of a frame under way finds the state as it was (R6, R166). -/
theorem frameArrival_of_receiving (l : LineId) (rx : Reception) (s : State) (r : Receiving) (h : (s.line l).reception = some r)
    (hw : ∀ e, e ∈ (s.line l).entries → e.isDoing .watching = false) : frameArrival l rx s = s := by
  unfold frameArrival
  simp only [h, endWatch_of_none l s hw, ite_self]

/-- A frame that begins is received in the role it has at that moment, under the signalling then in force (R8, R27). -/
@[simp] theorem Line.beginReception_reception (x : Line) :
    x.beginReception.reception = some ⟨x.receptionRole, x.params.signalling⟩ := by
  unfold Line.beginReception
  split <;> rename_i h <;> simp [h]

theorem joinStationWake_touches (l : LineId) (s : State) : State.Touches l s (joinStationWake l s) := by
  unfold joinStationWake
  split
  · split
    · exact s.updLine_touches l _
    · exact .refl l s
  · exact .refl l s

/-! ## The cycle engine -/

@[simp] theorem updEngine_line (l : LineId) (f : Engine → Engine) (s : State) :
    (updEngine l f s).line l = { s.line l with engine := f (s.line l).engine } := by simp [updEngine]

theorem updEngine_touches (l : LineId) (f : Engine → Engine) (s : State) : State.Touches l s (updEngine l f s) :=
  s.updLine_touches l _

/-- A slot that ends changes its line's engine and nothing else of the line (R120). -/
theorem recordSlot_line (l : LineId) (r : SlotResult) (k : Option Nat) (s : State) (n : Nat) :
    (recordSlot l r k s n).line l = { s.line l with engine := ((recordSlot l r k s n).line l).engine } := by
  unfold recordSlot
  dsimp only
  split
  · rfl
  · simp

theorem recordSlot_touches (l : LineId) (r : SlotResult) (k : Option Nat) (s : State) (n : Nat) :
    State.Touches l s (recordSlot l r k s n) := by
  unfold recordSlot
  dsimp only
  split
  · exact .refl l s
  · exact (updEngine_touches l _ s).trans ((State.hostWrite_reports _ _ _).touches l)

theorem recordSlots_touches (l : LineId) (r : SlotResult) (ns : List Nat) (s : State) :
    State.Touches l s (recordSlots l r ns s) := by
  unfold recordSlots
  induction ns generalizing s with
  | nil => exact .refl l s
  | cons n rest ih => exact (recordSlot_touches l r none s n).trans (ih _)

theorem switchBanks_touches (l : LineId) (s : State) : State.Touches l s (switchBanks l s) :=
  (updEngine_touches l _ s).trans (((raiseEvent_reports _ _).touches l).trans
    (((writeCycleRecord_reports l _).touches l).trans (finishFirst_touches l _ _ _)))

theorem switchIfCommitted_touches (l : LineId) (s : State) : State.Touches l s (switchIfCommitted l s) := by
  unfold switchIfCommitted
  split
  · exact switchBanks_touches l s
  · exact .refl l s

theorem becomeStopped_touches (l : LineId) (s : State) : State.Touches l s (becomeStopped l s) :=
  (updEngine_touches l _ s).trans ((switchIfCommitted_touches l _).trans
    (((writeCycleRecord_reports l _).touches l).trans (finishAll_touches l _ _ _)))

theorem endCycle_touches (l : LineId) (s : State) : State.Touches l s (endCycle l s) :=
  (updEngine_touches l _ s).trans ((writeCycleRecord_reports l _).touches l)

theorem prepareSlot_touches (l : LineId) (c : SlotCell) (s : State) : State.Touches l s (prepareSlot l c s) := by
  unfold prepareSlot
  dsimp only
  split
  · exact updEngine_touches l _ s
  · exact (updEngine_touches l _ s).trans (State.issueRead_touches _ l _ _ _)

theorem reachSlots_touches (l : LineId) (ns : List Nat) (s : State) : State.Touches l s (reachSlots l ns s) := by
  induction ns generalizing s with
  | nil => exact endCycle_touches l s
  | cons n rest ih =>
    unfold reachSlots
    split
    · exact (updEngine_touches l _ s).trans (ih _)
    · split
      · exact (recordSlot_touches l _ _ s n).trans ((updEngine_touches l _ _).trans (ih _))
      · exact prepareSlot_touches l _ s

theorem afterSlot_touches (l : LineId) (s : State) : State.Touches l s (afterSlot l s) := by
  unfold afterSlot
  dsimp only
  split
  · exact becomeStopped_touches l s
  · split
    · exact endCycle_touches l s
    · split
      · exact .refl l s
      · exact reachSlots_touches l _ s

theorem endSlot_touches (l : LineId) (r : SlotResult) (s : State) : State.Touches l s (endSlot l r s) := by
  unfold endSlot
  split
  · exact .refl l s
  · exact (recordSlot_touches l r none s _).trans ((updEngine_touches l _ _).trans (afterSlot_touches l _))

end Sys2Proof.Machine
end

