-- ==== Sys2Proof/Tests/Slice0.lean ====
section
/-! SUPPORT. Tests of one step each, with the manual's worked sequences and layouts as their source, and for every statement that has
hypotheses a concrete state that meets them. -/

set_option Elab.async false

namespace Sys2Proof.Tests

open Sys2Proof.Machine

/-! ## Small states -/

/-- What a command leads to, looked at through `f`. -/
def after {α : Type} (c : Instr) (s : State) (f : State → α) : Option α :=
  match exec c s with
  | .next t => some (f t)
  | _ => none

/-- A ring of `n` records. -/
def ring (n : Nat) : RingSpec := ⟨0x1000, n⟩

/-- An enabled line with rings of 8, 8 and 4 records. -/
def enabledLine : LineSection := ⟨true, true, [], ring 8, ring 8, ring 4⟩

/-- A context with both lines enabled, an event ring of 16, and moderation counts of 1. -/
def context : ContextBlock := ⟨false, ⟨1, 0⟩, ⟨1, 0⟩, ⟨1, 0⟩, ring 16, 0x4000, enabledLine, enabledLine⟩

/-- An ACTIVE line with the Default parameters and a credit of 7. -/
def live : Line := { Line.fresh Params.default 7 with state := .active }

/-- A running device whose line 0 is `x`. -/
def running (x : Line) : State := { State.reset with run := .running, context := context, line0 := x, line1 := live }

/-- An EXCHANGE to a station, without payload. -/
def toStation (a : Nat) : Body := .exchange false false a 17 0 0x9000 4 0x8000

/-- The Default signalling: 115,200 bit/s in NRZ (R24). -/
def fast : Signalling := ⟨3, .nrz⟩

/-- A pending entry. -/
def entry (body : Body) (st : EntryState) : Entry := ⟨101, 0, 1, body, st, 0, 0, false⟩

/-- A line with these entries. -/
def holding (es : List Entry) : Line := { live with entries := es }

/-- The order of the first worked sequence (spec/01): station 12, SEQ 1, retry limit 2, one CMD sent. -/
def order : Exchange := ⟨12, 17, [], 2, .requestEngine, false, true, false, 200, 0, 1, false⟩

/-- A line with this order in flight for its oldest entry. -/
def busy (x : Exchange) (st : JobStage) : Line :=
  { holding [entry (toStation 12) (.inFlight .onLine)] with job := some ⟨.exchange x, st⟩ }

/-- The octets of a frame with this body and its CRC. -/
def framed (body : List Byte) : List Byte :=
  [0x55, 0xD3] ++ body ++ [byteOf ((crc body).toNat / 256), byteOf (crc body).toNat]

/-- An RSP of station 12 with SEQ 1, ATTN 1 and two octets of payload. -/
def answer : Reception := ⟨framed [3, 63, 12, 5, 17, 2, 0xAA, 0xBB], false⟩

/-- A NAK of station 12 with a reason. -/
def refusal (reason : Byte) : Reception := ⟨framed [4, 63, 12, 0, 0, 1, reason], false⟩

/-- A WAKE of station 33. -/
def wakeFrame : Reception := ⟨framed [6, 63, 33, 0, 0, 0], false⟩

/-- A frame with a wrong CRC. -/
def garbled : Reception := ⟨[0x55, 0xD3, 3, 63, 12, 5, 17, 0, 0, 0], false⟩

/-! ## WellFormed refuses what is ill formed -/

theorem test_wf_context_length : (Instr.contextReadDone 0 (.octets [1])).wellFormed = false := by decide
theorem test_wf_request_length : (Instr.requestFetchDone .line0 0 (.octets [1])).wellFormed = false := by decide
theorem test_wf_descriptor_length : (Instr.descriptorFetchDone .line0 0 (.octets [1])).wellFormed = false := by decide
theorem test_wf_parameters_length : (Instr.lineParameterBlockReadDone .line0 0 (.octets [1])).wellFormed = false := by decide
theorem test_wf_slot_table_length : (Instr.slotTableReadDone .line0 0 (.octets [1])).wellFormed = false := by decide
theorem test_wf_payload_empty : (Instr.payloadReadDone .line0 0 (.octets [])).wellFormed = false := by decide
theorem test_wf_slot_output_empty : (Instr.slotOutputReadDone .line0 0 (.octets [])).wellFormed = false := by decide
theorem test_wf_reception_empty : (Instr.frameReceived .line0 ⟨[], false⟩).wellFormed = false := by decide
theorem test_wf_reception_too_long :
    (Instr.frameReceived .line0 ⟨[0x55, 0xD3, 6, 63, 1, 0, 0, 0, 0, 0, 9], false⟩).wellFormed = false := by decide
theorem test_wf_accepts_answer : (Instr.frameReceived .line0 answer).wellFormed = true := by decide +kernel

/-! ## Register writes spell commands (spec/11, Registers) -/

theorem test_decode_no_table_word : decodeTableWord 32 0 = none := by decide
theorem test_decode_notify_ring4 : decodeRegisterWrite 0x18 0x00040102 = some (.notifyRequestProducer .line1 0x0102) := by decide
theorem test_decode_notify_ring0 : decodeRegisterWrite 0x18 0xFFF80005 = some (.notifyEventConsumer 5) := by decide
theorem test_decode_dctl_reset_wins : decodeRegisterWrite 0x04 3 = some (.dctlReset true) := by decide
theorem test_decode_dctl_enable : decodeRegisterWrite 0x04 1 = some .dctlEnableSet := by decide
theorem test_decode_irqpend : decodeRegisterWrite 0x1C 5 = some (.irqpendAcknowledge true false true) := by decide
theorem test_decode_nothing_there : decodeRegisterWrite 0x20 1 = none := by decide

/-! ## Layouts and checks -/

/-- The check value of CRC-16 with this polynomial over "123456789", before its final inversion (R4). -/
theorem test_crc_check_value : crc [0x31, 0x32, 0x33, 0x34, 0x35, 0x36, 0x37, 0x38, 0x39] = 0x3D48 := by decide +kernel
theorem test_answer_is_well_formed :
    checkReception answer = .wellFormed ⟨.rsp, 12, true, true, 17, [0xAA, 0xBB]⟩ := by decide +kernel
theorem test_garbled_is_crc_error : checkReception garbled = .crcError := by decide +kernel
theorem test_command_is_format_error : checkReception ⟨framed [1, 12, 63, 0, 17, 0], false⟩ = .formatError := by decide +kernel
theorem test_ident : State.reset.readRegister .ident = 0x02200001 := by decide +kernel
theorem test_dstat_after_reset : State.reset.readRegister .dstat = 0 := by decide +kernel
theorem test_default_block_is_in_range : badParameter GroupMask.all Params.default.toBlock = none := by decide +kernel
/-- The image of a record never used, station 21 (spec/11, Station record image: state UNKNOWN 1, RESYNC bit 1). -/
theorem test_image_of_fresh_record :
    Station.fresh.image 21 = [21, 1, 0, 2, 0, 0, 0, 0, 0, 0, 0, 0, 0, 0, 0, 0] := by decide +kernel

/-- 0xA0 in NRZ: start bit at space, 1 0 1 0 0 0 0 0, stop bit at mark (R1). -/
theorem test_nrz_levels : Coding.nrz.levels 0xA0 =
    [.space, .mark, .space, .mark, .space, .space, .space, .space, .space, .mark] := by decide
/-- 0x80 in MANCHESTER: space to mark for the 1, then mark to space seven times (R1). -/
theorem test_manchester_levels : Coding.manchester.levels 0x80 =
    [.space, .mark, .mark, .space, .mark, .space, .mark, .space, .mark, .space, .mark, .space, .mark, .space, .mark, .space] := by
  decide
/-- 250 octets in NRZ at rate code 5 take 2,500 µs (R26). -/
theorem test_longest_frame : 250 * Coding.nrz.octetBits * 1000000 / (Signalling.bitRate ⟨5, .nrz⟩) = 2500 := by decide
/-- A stop bit at space level is a coding error, which readback takes as a mismatch (R1, R9). -/
theorem test_coding_error_collides : Coding.nrz.collides 0 (List.replicate 10 .space) = true := by decide
theorem test_de_while_sending : (busy order (.sending fast [0x55])).de = true ∧ (busy order .awaiting).txd = [.mark] := by decide

/-! ## One step of each command -/

/-- A device with CTXLO 64 in some run state. -/
def inRun (r : RunState) : State := { running live with run := r, ctxLo := 64 }

theorem test_power_on_clears_ctxlo : after .powerOn (inRun .running) (fun t => (t.run, t.ctxLo)) = some (.off, 0) := by decide +kernel
theorem test_nreset_clears_ctxlo : after .nReset (inRun .fault) (fun t => (t.run, t.ctxLo)) = some (.off, 0) := by decide +kernel
theorem test_dctl_reset_keeps_ctxlo :
    after (.dctlReset true) (inRun .running) (fun t => (t.run, t.ctxLo)) = some (.off, 64) := by decide +kernel
theorem test_enable_starts :
    after .dctlEnableSet (inRun .off) (fun t => (t.run, t.reads.map (·.length))) = some (.starting, [512]) := by decide +kernel
theorem test_enable_misaligned_faults : after .dctlEnableSet { inRun .off with ctxLo := 65 } (fun t => (t.run, t.faultInfo)) =
    some (.fault, ⟨.badContextAddress, 1, 0⟩) := by decide +kernel

/-- The stop's worked sequence (spec/10): A in flight awaiting its answer, B in HOLDOFF, C waiting. -/
def stopping : Line :=
  { busy order .awaiting with entries :=
      [entry (toStation 12) (.inFlight .onLine), entry (toStation 22) (.holdoff 1000), entry .fence .waiting] }

theorem test_stop_completes_b_and_c : after (.dctlEnableClear false false) (running stopping)
    (fun t => (t.run, t.line0.entries.length, t.line0.completion.producer)) = some (.stopping, 1, 2) := by decide +kernel
theorem test_disable_abandons_start :
    after (.dctlEnableClear false false) (inRun .starting) (fun t => t.run) = some .off := by decide +kernel

theorem test_request_notify : after (.notifyRequestProducer .line0 3) (running live) (fun t => t.line0.intake.producer) =
    some 3 := by decide +kernel
/-- Worked sequence of spec/07, step 5: buffer producer 4 with 2 outstanding passes in a ring of 4. -/
theorem test_buffer_notify : after (.notifyBufferProducer .line0 4)
    (running { live with buffers := ⟨2, 2, 2, [], false, none⟩ }) (fun t => t.line0.buffers.producer) = some 4 := by decide +kernel
theorem test_completion_notify_returns_credit : after (.notifyCompletionConsumer .line0 2)
    (running { live with completion := ⟨3, 0, 4⟩ }) (fun t => t.line0.completion) = some ⟨3, 2, 6⟩ := by decide +kernel

/-- The event unit of the worked sequence of spec/05 after step 1. -/
def overflowed : EventUnit :=
  ⟨15, 0, 34, (List.range' 15 16).map (fun n => (BitVec.ofNat 16 n, Event.bufferStarved .line0 1)), 3, some 31⟩

/-- Step 2 of that sequence: five events are drained, eleven stay. -/
theorem test_event_notify_drains_five : after (.notifyEventConsumer 5) { running live with events := overflowed }
    (fun t => (t.events.producer, t.events.backlog.length, t.events.lossCount)) = some (20, 11, 3) := by decide +kernel
/-- Step 4 of that sequence, with the twelfth event left out: the backlog empties and EVENT_LOSS follows. -/
theorem test_event_notify_writes_loss :
    after (.notifyEventConsumer 20) { running live with events := { overflowed with producer := 20, backlog := overflowed.backlog.drop 5 } }
      (fun t => (t.events.producer, t.events.sequence, t.events.lossCount, t.events.firstLost)) = some (32, 35, 0, none) := by
  decide +kernel
theorem test_ring7_is_rejected :
    after (.notifyRingId7 9) (running live) (fun t => t.events.producer) = some 1 := by decide +kernel
theorem test_acknowledge_clears : after (.irqpendAcknowledge true false false)
    { running live with vector0 := ⟨3, none, true⟩, vector1 := ⟨2, none, true⟩ } (fun t => (t.vector0, t.vector1)) =
    some (⟨0, none, false⟩, ⟨2, none, true⟩) := by decide +kernel
theorem test_ctxlo_write_in_off : after (.registerWrite .ctxlo 128) (inRun .off) (fun t => t.ctxLo) = some 128 := by decide +kernel
theorem test_ctxlo_write_in_running : after (.registerWrite .ctxlo 128) (inRun .running) (fun t => t.ctxLo) = some 64 := by
  decide +kernel

/-- A line section of a Device Context Block: enabled, with Default parameters. -/
def blockSection : List Byte :=
  [3] ++ zeros 31 ++ leBytes 8 0x1000 ++ leBytes 2 8 ++ zeros 6 ++ leBytes 8 0x1000 ++ leBytes 2 8 ++ zeros 6
    ++ leBytes 8 0x1000 ++ leBytes 2 4 ++ zeros 6

/-- A Device Context Block that passes every check (spec/11, Device Context Block). -/
def block : List Byte :=
  [0x55, 0x4D, 0x32, 0x32, 1, 0, 0, 0, 1, 1, 1] ++ zeros 13 ++ leBytes 8 0x1000 ++ leBytes 2 16 ++ zeros 6 ++ leBytes 8 0x4000
    ++ zeros 16 ++ blockSection ++ blockSection ++ zeros 288

/-- A device that waits for its context block. -/
def starting : State := { State.reset with run := .starting, contextRead := some 0, reads := [⟨0, .context, 64, 512⟩], nextRead := 1 }

theorem test_start_brings_lines_up : after (.contextReadDone 0 (.octets block)) starting
    (fun t => (t.run, t.line0.state, t.line1.completion.credit, t.events.producer)) = some (.running, .active, 7, 2) := by decide +kernel
theorem test_start_reports_version : after (.contextReadDone 0 (.octets (block.set 4 2))) starting
    (fun t => (t.run, t.faultInfo.code, t.port)) = some (.fault, .badVersion, []) := by decide +kernel
theorem test_timeout_is_read_error :
    after (.hostReadTimeout 0) starting (fun t => (t.run, t.faultInfo.code, t.reads)) = some (.fault, .contextReadError, []) := by decide +kernel

/-- A line whose request ring holds a record not yet fetched. -/
def posted : Line := { live with intake := ⟨1, 0, false, none, none⟩ }

/-- A line whose record at index 0 is being fetched by read 0. -/
def fetching : Line := { posted with intake := ⟨1, 0, false, some 0, none⟩, completion := ⟨0, 0, 6⟩ }

/-- A device whose read 0 is outstanding. -/
def reading (x : Line) (r : Reader) (n : Nat) : State := { running x with reads := [⟨0, r, 0x1000, n⟩], nextRead := 1 }

/-- An EXCHANGE record for station 12 (spec/11, Request record). -/
def exchangeRecord : List Byte := [1, 0, 101, 0, 12, 17, 2, 0, 4, 0] ++ zeros 6 ++ leBytes 8 0x9000 ++ leBytes 8 0x8000

theorem test_fetch_takes_credit : after (.requestFetchIssue .line0) (running posted)
    (fun t => (t.line0.completion.credit, t.reads)) = some (6, [⟨0, .request .line0, 0x1000, 32⟩]) := by decide +kernel
theorem test_record_joins_the_list : after (.requestFetchDone .line0 0 (.octets exchangeRecord)) (reading fetching (.request .line0) 32)
    (fun t => (t.line0.intake.consumer, t.line0.entries.map (·.body))) =
    some (1, [.exchange false false 12 17 2 0x9000 4 0x8000]) := by decide +kernel
theorem test_record_of_unknown_kind : after (.requestFetchDone .line0 0 (.octets (exchangeRecord.set 0 13)))
    (reading fetching (.request .line0) 32) (fun t => (t.line0.entries, t.line0.completion.producer)) = some ([], 1) := by decide +kernel
theorem test_staged_record_is_appended : after (.stagedRecordAppend .line0)
    (running { live with intake := ⟨1, 1, false, none, some (entry .fence .waiting)⟩ })
    (fun t => (t.line0.intake.staged, t.line0.entries.length)) = some (none, 1) := by decide +kernel

/-- A SCHEDULE_LOAD whose table of one slot is being read by read 0. -/
def loading : Line :=
  { holding [entry (.scheduleLoad 1 64 0x1000 0x5000 0x6000) (.inFlight (.tableRead 0))] with
    engine := { Engine.fresh with bank1 := { Bank.empty with state := .loading } } }

/-- A POLL of station 4, divisor 1, with 2 octets out at 0 and halves of 8 at 16 (spec/11, Slot entry). -/
def slotRecord : List Byte := [1, 4, 7, 1, 0, 0, 0, 0, 2, 0, 16, 0, 8, 0, 0, 0]

theorem test_table_loads : after (.slotTableReadDone .line0 0 (.octets slotRecord)) (reading loading (.slotTable .line0) 16)
    (fun t => (t.line0.engine.bank1.state, t.line0.engine.bank1.slots.length, t.line0.entries)) = some (.loaded, 1, []) := by decide +kernel
theorem test_table_bad_divisor : after (.slotTableReadDone .line0 0 (.octets (slotRecord.set 3 3))) (reading loading (.slotTable .line0) 16)
    (fun t => (t.line0.engine.bank1.state, t.line0.entries)) = some (.empty, []) := by decide +kernel

theorem test_select_claims : after (.trafficSelect .line0) (running (holding [entry (toStation 12) .waiting]))
    (fun t => t.line0.entries.map (·.state)) = some [.inFlight (.awaitGrant [])] := by decide +kernel
theorem test_payload_read : after (.payloadReadDone .line0 0 (.octets [1, 2]))
    (reading (holding [entry (toStation 12) (.inFlight (.payloadRead 0))]) (.payload .line0) 2)
    (fun t => t.line0.entries.map (·.state)) = some [.inFlight (.awaitGrant [1, 2])] := by decide +kernel
theorem test_holdoff_expiry : after (.holdoffExpiry .line0 0) (running (holding [entry (toStation 12) (.holdoff 1000)]))
    (fun t => t.line0.entries.map (·.state)) = some [.waiting] := by decide +kernel
/-- The last step of the worked sequence of spec/03: FORGET keeps SEQ 1 and sets resync-needed. -/
theorem test_forget : after (.stationSet .line0)
    (running ((holding [entry (.stationSet 21 21 .forget) .waiting]).setStation 21 ⟨.online, 0, true, false, true, false, 0, 1, 4, 0⟩))
    (fun t => (t.line0.station 21, t.line0.entries)) = some (⟨.unknown, 0, true, true, false, false, 0, 1, 4, 0⟩, []) := by decide +kernel
theorem test_station_read : after (.stationRead .line0) (running (holding [entry (.stationRead 6 6 false 0x7000) .waiting]))
    (fun t => t.port.head?) = some (some (.write 0x7000 (Station.fresh.image 6))) := by decide +kernel
theorem test_line_config_defaults : after (.lineConfig .line0)
    (running { holding [entry (.lineConfig ⟨false, true, false, false⟩ true 0 0 0) .waiting] with params := { Params.default with retryLimit := 7, gap := 99 } })
    (fun t => (t.line0.params.retryLimit, t.line0.params.gap)) = some (2, 99) := by decide +kernel

/-- A LINE_CONFIG naming HEALTH whose block is being read by read 0, with threshold 5 in force. -/
def configuring : Line :=
  ({ holding [entry (.lineConfig ⟨false, false, true, false⟩ false 0x1000 0 0) (.inFlight (.blockRead 0))] with
      params := { Params.default with offlineThreshold := 5 } }).setStation 7 { Station.fresh with state := .suspect, failures := 3 }

/-- The worked sequence of spec/02: threshold 2 makes station 7, with count 3, OFFLINE with count 2. -/
theorem test_new_threshold : after (.lineParameterBlockReadDone .line0 0 (.octets { Params.default with offlineThreshold := 2 }.toBlock))
    (reading configuring (.parameters .line0) 24) (fun t => ((t.line0.station 7).state, (t.line0.station 7).failures, t.line0.params.offlineThreshold)) =
    some (.offline, 2, 2) := by decide +kernel

theorem test_rest_claims : after (.rest .line0) (running (holding [entry .rest .waiting])) (fun t => t.line0.entries.map (·.state)) =
    some [.inFlight .restClaim] := by decide +kernel
theorem test_wake_at_rest_tones : after (.wake .line0) (running { holding [entry .wake .waiting] with state := .rest })
    (fun t => (t.line0.state, t.line0.job)) = some (.waking, some ⟨.tone 2, .toning⟩) := by decide +kernel
theorem test_recover_watches : after (.lineRecover .line0) (running { holding [entry .lineRecover .waiting] with state := .faulted })
    (fun t => t.line0.entries.map (·.state)) = some [.inFlight .watching] := by decide +kernel
theorem test_fence : after (.fence .line0) (running (holding [entry .fence .waiting]))
    (fun t => (t.line0.entries, t.line0.completion.producer)) = some ([], 1) := by decide +kernel

theorem test_grant_hands_the_order : after (.lineGrant .line0) (running (holding [entry (toStation 12) (.inFlight (.awaitGrant []))]))
    (fun t => (t.line0.lastGrantee, t.line0.job.map (·.stage))) = some (.requestEngine, some (.gapWait 16)) := by decide +kernel

/-- A slot of the worked sequence of spec/06, with its status before cycle 40. -/
def cell (a divisor phase : Nat) (st : SlotStatus) : SlotCell := ⟨⟨.poll, a, 7, divisor, phase, 0, 0, 16, 8⟩, st⟩

/-- The engine of that sequence at event 6, before the start is taken: slot 4 is left, bank 1 is COMMITTED, and the start is late. -/
def overrunning : Engine :=
  { Engine.fresh with
    state := .inCycle, source := some .sync, cycle := 40, pendingStart := true, startLate := true, lateStarts := 5
    bank0 := ⟨.active, [cell 4 1 0 .loaded, cell 7 2 0 .loaded, cell 9 1 0 .loaded, cell 11 1 0 ⟨39, 39, .ok, 1, 0, 0, 39⟩, cell 12 2 1 .loaded],
      0x6000, 64, 0x5000⟩
    bank1 := ⟨.committed, [cell 4 1 0 .loaded, cell 9 1 0 .loaded, cell 13 2 1 .loaded], 0x6000, 64, 0x5800⟩
    due := [1, 2, 3, 4], cursor := 4 }

/-- Event 6 of that sequence: overrun 1, late 6, bank 1 active, cycle 41 with all three slots due. -/
theorem test_overrun_counts : after (.lineGrant .line0) (running { live with engine := overrunning })
    (fun t => (t.line0.engine.overruns, t.line0.engine.lateStarts, t.line0.engine.active, t.line0.engine.cycle, t.line0.engine.due)) =
    some (1, 6, .bank1, 41, [1, 2, 3]) := by decide +kernel
/-- Slot 4's record of that event. -/
theorem test_overrun_records : (recordSlots .line0 .skippedOverrun overrunning.remaining (running { live with engine := overrunning })).line0.engine.bank0.slots.map
    (·.status) = [.loaded, .loaded, .loaded, ⟨40, 39, .skippedOverrun, 1, 0, 1, 40⟩, .loaded] := by decide +kernel

theorem test_slot_output_read : after (.slotOutputReadDone .line0 0 (.octets [1, 2]))
    (reading { live with engine := { overrunning with pendingStart := false, stage := .outputRead 0 } } (.slotOutput .line0) 2)
    (fun t => t.line0.engine.stage) = some (.claiming [1, 2]) := by decide +kernel
/-- The first CMD of the worked sequence of spec/01 is counted when it begins. -/
theorem test_gap_elapsed : after (.gapElapsed .line0) (running (busy { order with cmds := 0 } (.gapWait 16)))
    (fun t => t.line0.job) = some (some ⟨.exchange order, .sending fast (framed [1, 12, 63, 1, 17, 0])⟩) := by decide +kernel
/-- A slot's frame does not begin while a LINE_CONFIG that names LINK reads its block, and then waits for the new gap (R33). -/
def awaitingLink : Line :=
  { holding [entry (.lineConfig ⟨true, false, false, false⟩ false 0x1000 0 0) (.inFlight (.blockRead 0))] with
    job := some ⟨.data ⟨0, 17, [], .cycleEngine⟩, .gapWait 16⟩ }

theorem test_slot_waits_for_link : after (.gapElapsed .line0) (running awaitingLink) (fun t => t.line0.job) = some awaitingLink.job := by
  decide +kernel
theorem test_slot_takes_the_new_gap :
    after (.lineParameterBlockReadDone .line0 0 (.octets (Params.default.toBlock.set 2 8))) (reading awaitingLink (.parameters .line0) 24)
      (fun t => (t.line0.job.map (·.stage), t.line0.entries)) = some (some (.gapWait 8), []) := by decide +kernel
theorem test_collision_at_the_limit : after (.collision .line0 false)
    (running { busy order (.sending fast []) with consecutiveCollisions := 2 }) (fun t => (t.line0.state, t.line0.counters, t.line0.entries)) =
    some (.faulted, ⟨1, 0, 0, 0, 1⟩, []) := by decide +kernel
theorem test_collision_below_the_limit : after (.collision .line0 false) (running (busy order (.sending fast [])))
    (fun t => (t.line0.consecutiveCollisions, t.line0.job)) = some (1, some ⟨.exchange { order with used := 1 }, .gapWait 16⟩) := by decide +kernel
theorem test_cmd_sent : after (.cmdSent .line0) (running (busy order (.sending fast []))) (fun t => t.line0.job.map (·.stage)) =
    some (some .awaiting) := by decide +kernel

/-- A SEND on the wire. -/
def sending : Line :=
  { holding [entry (.send 5 17 0 0) (.inFlight .onLine)] with job := some ⟨.data ⟨5, 17, [], .requestEngine⟩, .sending fast []⟩ }

theorem test_dat_sent : after (.datSent .line0) (running sending) (fun t => (t.line0.entries, t.line0.job)) = some ([], none) := by
  decide +kernel

/-- A line going to rest, in the given phase. -/
def quietening (phase : WakePhase) : Line :=
  { holding [entry .rest (.inFlight .quiescing)] with
    state := .quiescing, job := some ⟨.quiet, .sending fast []⟩, wake := { WakeSequence.fresh with phase := phase } }

theorem test_first_quiet_sent : after (.quietSent .line0) (running (quietening .quiet1))
    (fun t => (t.line0.detector, t.line0.wake.phase, t.line0.job)) = some (.armed, .quiet2, some ⟨.quiet, .gapWait 16⟩) := by decide +kernel
theorem test_second_quiet_sent : after (.quietSent .line0) (running (quietening .quiet2))
    (fun t => (t.line0.wake.phase, t.line0.wake.quiesceTimer)) = some (.quiesce, some 1000) := by decide +kernel

/-- A line whose WACK is on the wire, after the roll call of the worked sequence of spec/08. -/
def closing : Line :=
  { live with
    state := .waking, job := some ⟨.wack 0, .sending fast []⟩
    wake := { WakeSequence.fresh with phase := .closing, masterTone := true, result := some .garbage, queried := 2 } }

theorem test_wack_sent : after (.wackSent .line0) (running closing) (fun t => (t.line0.state, t.port.head?)) =
    some (.active, some (.write 0x1000 ((Event.wake .line0 0 .master true false 2).octets 0 1))) := by decide +kernel
theorem test_frame_start_stops_the_timeout : after (.receivedFrameStart .line0) (running (busy order .awaiting))
    (fun t => (t.line0.reception, t.line0.job.map (·.stage))) = some (some ⟨.answer, fast⟩, some .answering) := by decide +kernel
/-- CMD 1 of the worked sequence of spec/01 times out: one unit of budget, the timeout counter + 1. -/
theorem test_response_timeout : after (.responseTimeout .line0) (running (busy order .awaiting))
    (fun t => (t.line0.job, t.line0.counters.timeouts)) = some (some ⟨.exchange { order with used := 1 }, .gapWait 16⟩, 1) := by decide +kernel
/-- Step 7 of the worked sequence of spec/04: with the stop mark the exchange ends, and the station becomes SUSPECT. -/
theorem test_marked_timeout_stops : after (.responseTimeout .line0) (running (busy { order with stopMark := true } .awaiting))
    (fun t => (t.line0.job, t.line0.entries, (t.line0.station 12).state, (t.line0.station 12).resync)) = some (none, [], .suspect, true) := by decide +kernel
/-- The first NAK SEQ of the worked sequence of spec/01 uses no budget and sets RESYNC. -/
theorem test_first_nak_seq : after (.frameReceived .line0 (refusal 3)) (running { busy order .answering with reception := some ⟨.answer, fast⟩ })
    (fun t => t.line0.job) = some (some ⟨.exchange { order with resync := true, nakSeqSeen := true }, .gapWait 16⟩) := by decide +kernel
/-- The RSP that ends it: SEQ advances to 0, the attention flag rises, and the request completes. -/
theorem test_answer_completes : after (.frameReceived .line0 answer)
    (running ({ busy order .answering with reception := some ⟨.answer, fast⟩ }.setStation 12 ⟨.online, 0, true, false, false, false, 0, 5, 0, 0⟩))
    (fun t => (t.line0.station 12, t.line0.entries, t.line0.job)) = some (⟨.online, 0, false, false, true, false, 0, 6, 0, 0⟩, [], none) := by decide +kernel

/-- An ATTN in the answer, with no buffer posted, begins an episode: its BUFFER_STARVED comes before the completion record (R140, R100). The events are
STATION_STATE, ATTENTION and BUFFER_STARVED, at the event ring's first three entries. -/
theorem test_starvation_precedes_the_completion : after (.frameReceived .line0 answer)
    (running { busy order .answering with reception := some ⟨.answer, fast⟩, buffers := ⟨0, 0, 0, [], false, none⟩ })
    (fun t => (t.events.producer, t.port.filterMap (fun o => match o with
      | .write _ d => d.head?
      | _ => none))) = some (3, [1, 2, 10, 0xAA, 101]) := by decide +kernel

/-- A line that may fetch a descriptor. -/
def wanting : Line := { live with buffers := ⟨1, 0, 0, [], false, none⟩ }

/-- A line whose descriptor at index 0 is being fetched by read 0. -/
def descriptorRead : Line := { live with buffers := ⟨1, 0, 0, [], false, some 0⟩ }

/-- An EMPTY descriptor of 256 octets at 0x9000. -/
def descriptorRecord : List Byte := leBytes 8 0x9000 ++ leBytes 2 256 ++ zeros 6

theorem test_descriptor_fetch : after (.descriptorFetchIssue .line0) (running wanting) (fun t => t.reads) =
    some [⟨0, .descriptor .line0, 0x1000, 16⟩] := by decide +kernel
theorem test_descriptor_is_held : after (.descriptorFetchDone .line0 0 (.octets descriptorRecord)) (reading descriptorRead (.descriptor .line0) 16)
    (fun t => t.line0.buffers) = some ⟨1, 1, 0, [⟨0x9000, 256, true⟩], false, none⟩ := by decide +kernel
theorem test_invalid_descriptor_goes_back : after (.descriptorFetchDone .line0 0 (.octets (descriptorRecord.set 10 1)))
    (reading descriptorRead (.descriptor .line0) 16) (fun t => t.line0.buffers) = some ⟨1, 1, 1, [], false, none⟩ := by decide +kernel
/-- Step 3 of the worked sequence of spec/07: 80 octets into a buffer of 64 are truncated. -/
theorem test_filled_is_truncated : filledOctets ⟨0x9000, 64, true⟩ 41 17 64 80 false =
    leBytes 8 0x9000 ++ [64, 0, 1, 1, 41, 17, 64, 80] := by decide +kernel

theorem test_backlog_drain : after .eventBacklogDrain { running live with events := { overflowed with consumer := 1 } }
    (fun t => (t.events.producer, t.events.backlog.length)) = some (16, 15) := by decide +kernel
theorem test_hold_timer : after (.holdTimerExpiry .vector1) { running live with vector1 := ⟨2, some 50, false⟩ }
    (fun t => (t.vector1, t.port)) = some (⟨2, none, true⟩, [.message .vector1]) := by decide +kernel

/-- A line whose engine waits for its start events. -/
def waitingFor (source : StartSource) (timer : Option Nat) : Line :=
  { live with engine := { Engine.fresh with state := .waiting, source := some source, timer := timer } }

theorem test_cycle_timer : after (.cycleTimerExpiry .line0) (running (waitingFor (.timer 250) (some 250)))
    (fun t => (t.line0.engine.pendingStart, t.line0.engine.timer)) = some (true, some 250) := by decide +kernel
theorem test_sync_edge : after (.syncRisingEdge .line0) (running (waitingFor .sync none)) (fun t => t.line0.engine.pendingStart) =
    some true := by decide +kernel

/-- A line whose quiesce time runs. -/
def quiescing : Line :=
  { quietening .quiesce with job := none, detector := .armed, wake := { WakeSequence.fresh with phase := .quiesce, quiesceTimer := some 1000 } }

theorem test_quiesce_ends_at_rest : after (.quiesceTimerExpiry .line0) (running quiescing) (fun t => (t.line0.state, t.line0.entries)) =
    some (.rest, []) := by decide +kernel
theorem test_tone_overtakes_rest : after (.toneRecognised ⟨.line0, false⟩) (running quiescing)
    (fun t => (t.line0.state, t.line0.wake.phase, t.line0.entries)) = some (.waking, .toneIn, []) := by decide +kernel

/-- A line that hears a station's tone. -/
def toneHeard : Line := { live with state := .waking, detector := .toneSeen, wake := { WakeSequence.fresh with phase := .toneIn } }

theorem test_tone_end : after (.toneEnd .line0) (running toneHeard) (fun t => (t.line0.wake.phase, t.line0.wake.windowTimer)) =
    some (.listen, some 2000) := by decide +kernel
theorem test_overlong_tone : after (.overlongTone .line0 true) (running toneHeard) (fun t => t.line0.state) = some .faulted := by
  decide +kernel

/-- A line that drives its own tone. -/
def toning : Line :=
  { live with state := .waking, job := some ⟨.tone 2, .toning⟩, wake := { WakeSequence.fresh with phase := .masterTone, masterTone := true } }

/-- A line that listens. -/
def listening : Line :=
  { live with state := .waking, wake := { WakeSequence.fresh with phase := .listen, masterTone := true, windowTimer := some 2000 } }

theorem test_master_tone_end : after (.masterToneEnd .line0) (running toning) (fun t => (t.line0.job, t.line0.wake.phase)) =
    some (none, .listen) := by decide +kernel
theorem test_silence : after (.listenWindowExpiry .line0) (running listening) (fun t => (t.line0.wake.phase, t.line0.job)) =
    some (.closing, some ⟨.wack 0, .gapWait 16⟩) := by decide +kernel
theorem test_stuck_line : after (.stuckLine .line0 false) (running (busy order .awaiting)) (fun t => (t.line0.state, t.line0.entries)) =
    some (.faulted, []) := by decide +kernel

/-- A FAULTED line whose recovery watch runs. -/
def watched : Line := { holding [entry .lineRecover (.inFlight .watching)] with state := .faulted, consecutiveCollisions := 3 }

theorem test_recovery : after (.recoveryWatchExpiry .line0) (running watched) (fun t => (t.line0.state, t.line0.consecutiveCollisions)) =
    some (.active, 0) := by decide +kernel
/-- A frame that arrives during the watch ends it (R166). -/
theorem test_frame_ends_the_watch : after (.receivedFrameStart .line0) (running watched) (fun t => (t.line0.state, t.line0.entries, t.line0.reception)) =
    some (.faulted, [], some ⟨.other, fast⟩) := by decide +kernel
theorem test_still_faulted : after (.recoveryWatchActivity .line0) (running watched) (fun t => (t.line0.state, t.line0.entries)) =
    some (.faulted, []) := by decide +kernel

/-- The watch begins in the idle tail of a broken frame, whose end leaves it running; a frame that ends with its last octet ends it (R2, R6, R166). -/
theorem test_watch_begins_in_the_idle_tail :
    after (.lineRecover .line0) (running { holding [entry .lineRecover .waiting] with state := .faulted, reception := some ⟨.other, fast⟩ })
      (fun t => t.line0.entries.map (·.state)) = some [.inFlight .watching] := by decide +kernel
theorem test_broken_frame_leaves_the_watch :
    after (.frameReceived .line0 ⟨[0x55], false⟩) (running { watched with reception := some ⟨.other, fast⟩ })
      (fun t => (t.line0.entries.map (·.state), t.line0.reception)) = some ([.inFlight .watching], none) := by decide +kernel
theorem test_whole_frame_ends_the_watch :
    after (.frameReceived .line0 garbled) (running { watched with reception := some ⟨.other, fast⟩ })
      (fun t => (t.line0.entries, t.line0.counters.crcErrors)) = some ([], 1) := by decide +kernel

/-- A stopping line that still holds a descriptor. -/
def returning : Line := { live with buffers := ⟨1, 1, 0, [⟨0x9000, 256, true⟩], false, none⟩ }

theorem test_buffers_go_back : after (.bufferReturnAtStop .line0) { running returning with run := .stopping }
    (fun t => (t.line0.buffers.held, t.port.head?)) = some ([], some (.write 0x1000 (leBytes 8 0x9000 ++ [0, 1, 2, 32, 0, 0, 0, 0]))) := by decide +kernel
/-- Steps 5 and 6 of the worked sequence of spec/10: with room in the ring the drain ends at once, and the part is OFF. -/
theorem test_line_work_ends : after .stopLineWorkEnd { running live with run := .stopping } (fun t => (t.run, t.line0.state)) =
    some (.off, .off) := by decide +kernel
theorem test_drain_expires : after .eventDrainExpiry { running live with run := .stopping, drain := some 10, events := overflowed }
    (fun t => (t.run, t.drain)) = some (.off, none) := by decide +kernel

end Sys2Proof.Tests
end

