-- ==== Sys2Proof/Tests/Witnesses.lean ====
section
/-! SUPPORT. For every statement that has hypotheses, a concrete state and operands that meet them, one for each clause, at the edge of its
range where it has one. `witness_<Name>` belongs to `Obligations.<Name>`. -/

set_option Elab.async false

namespace Sys2Proof.Tests

open Sys2Proof.Machine

/-! ## The block as a whole -/

theorem witness_StepRunsTheFrontCommand :
    ({ State.reset with pending := [.powerOn, .nReset] } : State).pending = .powerOn :: [.nReset] ∧ State.reset.pending = [] := by decide

theorem witness_EveryCommandAnswersANextState : exec .dctlEnableSet (inRun .running) = .next (inRun .running) := rfl

theorem witness_LinesShareOnlyDeviceWideBlocks : (Instr.notifyRequestProducer .line0 7).lineOf = some .line0 ∧
    exec (.notifyRequestProducer .line0 7) (running live) =
      .next (running { live with intake := { live.intake with producer := 7 } }) := ⟨rfl, rfl⟩

/-- Each way the run state can move is taken by some command. -/
theorem witness_RunStateMovesByItsTable :
    ((starting.contextRead.isSome = true → starting.run = .starting) ∧ (starting.drain.isSome = true → starting.run = .stopping)) ∧
    after .nReset (inRun .running) (·.run) = some .off ∧
    after .dctlEnableSet (inRun .off) (·.run) = some .starting ∧
    after .dctlEnableSet { inRun .off with ctxLo := 63 } (·.run) = some .fault ∧
    after (.contextReadDone 0 (.octets block)) starting (·.run) = some .running ∧
    after (.hostReadTimeout 0) starting (·.run) = some .fault ∧
    after (.dctlEnableClear true true) (inRun .running) (·.run) = some .stopping ∧
    after (.dctlEnableClear false true) (inRun .fault) (·.run) = some .off ∧
    after .stopLineWorkEnd { running live with run := .stopping } (·.run) = some .off ∧
    after .eventBacklogDrain { running live with run := .stopping, drain := some 10 } (·.run) = some .off := by decide +kernel

/-- A record of a fresh line is a record at device start. -/
theorem station_fresh (p : Params) (n a : Nat) : (Line.fresh p n).station a = Station.fresh := by
  unfold Line.station Line.fresh
  split
  · simp
  · rfl

/-- A running device in mid-work meets every law: line 0 has an order in flight and a record being fetched, line 1 is idle. -/
def working : State := running { busy order .awaiting with intake := ⟨1, 0, false, some 0, none⟩, completion := ⟨0, 0, 5⟩ }

theorem witness_StepKeepsThePendingAndCreditLaws : ∀ l, (working.line l).PendingLaw ∧ working.CreditLaw l := by
  intro l
  cases l <;> exact ⟨by unfold Line.PendingLaw; decide, by decide, by decide, by decide +kernel⟩

theorem witness_StepKeepsTheBufferLaw : ∀ l, (working.line l).buffers.Law := by
  intro l
  cases l <;> exact ⟨by decide, by decide, fun _ h => nomatch h⟩

theorem witness_StepKeepsTheEventLaw : ({ working with events := overflowed } : State).EventLaw :=
  ⟨by decide +kernel, by decide +kernel, by decide +kernel, by decide +kernel⟩

theorem witness_StepKeepsTheStationLaw : ∀ l, (working.line l).params.InRange ∧ (working.line l).StationLaw := by
  intro l
  have h : ∀ a, (working.line l).station a = Station.fresh := fun a => by
    cases l <;> exact station_fresh Params.default 7 a
  refine ⟨?_, ?_, fun a _ _ => ?_⟩
  · cases l <;> (unfold Params.InRange; decide)
  · cases l <;> decide
  · rw [h a]; rfl

theorem witness_StepKeepsTheControlLaw : ∀ l, (working.line l).ControlLaw := by
  intro l
  cases l
  · exact ⟨by decide, trivial, by decide, by intro j h; cases h; decide, by decide, by decide⟩
  · have idle : (working.line .line1).job = none := rfl
    exact ⟨by decide, trivial, by decide, fun j h => absurd h (by rw [idle]; simp), by decide, by decide⟩

/-- The active bank changes at a start, when the engine stops, and when it halts. -/
theorem witness_ActiveBankChangesOnlyAtStartStopOrHalt :
    after (.lineGrant .line0) (running { live with engine := overrunning }) (fun t => t.line0.engine.active) = some .bank1 ∧
    after (.stuckLine .line0 false) (running { busy order .awaiting with engine := overrunning })
      (fun t => (t.line0.engine.active, t.line0.engine.state)) = some (.bank1, .halted) ∧
    after (.stuckLine .line0 true) (running { busy order .awaiting with engine := { overrunning with stopRequested := true } })
      (fun t => (t.line0.engine.active, t.line0.engine.state)) = some (.bank1, .stopped) := by decide +kernel

theorem witness_SeqBitChangesOnlyOnSuccess :
    after (.frameReceived .line0 answer) (running { busy order .answering with reception := some ⟨.answer, fast⟩ })
      (fun t => (t.line0.station 12).seq) = some true ∧ (live.station 12).seq = false ∧
    after .nReset (running (live.setStation 62 { Station.fresh with seq := true })) (fun t => (t.line0.station 62)) = some Station.fresh ∧
    ((live.setStation 62 { Station.fresh with seq := true }).station 62).seq = true := by decide +kernel

/-! ## Shared machinery -/

theorem witness_CompletionWritesOneRecord :
    ((running (holding [entry .fence .waiting])).line .line0).entries[0]? = some (entry .fence .waiting) ∧
    VectorId.vector0 ≠ lineVector .line0 := by decide +kernel

/-- The last count below saturation, the count that reaches the moderation count, and a running hold timer. -/
theorem witness_CountedRecordDrivesItsVector :
    (⟨255, none, true⟩ : VectorState).pending = true ∧
    ((⟨254, none, false⟩ : VectorState).unreported < 255 ∧ (254 : Nat) + 1 ≠ context.setting0.moderation) ∧
    ((⟨0, none, false⟩ : VectorState).unreported < 255 ∧ (0 : Nat) + 1 = context.setting0.moderation) ∧
    (⟨1, some 9, false⟩ : VectorState).holdTimer.isSome = true := by decide

/-- The last free entry, the sixteenth backlogged event, and a full backlog. -/
theorem witness_RaisedEventIsWrittenBackloggedOrDropped :
    (((14 : Half) - 0).toNat < context.eventRing.size - 1) ∧
    (¬((15 : Half) - 0).toNat < context.eventRing.size - 1 ∧ (overflowed.backlog.drop 1).length < 16) ∧
    (¬overflowed.backlog = [] ∧ 16 ≤ overflowed.backlog.length) := by decide +kernel

/-- The overflowed ring of spec/05 drains five events without EVENT_LOSS, or, emptied, all of them with it. -/
theorem witness_BacklogDrainsIntoFreeEntries :
    ({ running live with events := { overflowed with consumer := 5 } } : State).EventLaw ∧
    (running live).drain = none ∧ context.eventRing.size ≤ 1024 ∧
    min (16 - 1 - ((15 : Half) - 5).toNat) overflowed.backlog.length = 5 ∧
    (let u : EventUnit := { overflowed with backlog := overflowed.backlog.drop 5 }
     min (16 - 1 - ((15 : Half) - 15).toNat) u.backlog.length = u.backlog.length ∧ u.lossCount ≠ 0 ∧ u.backlog.length < 16 - 1) ∧
    overflowed.backlog = (15, .bufferStarved .line0 1) :: overflowed.backlog.tail :=
  ⟨⟨by decide +kernel, by decide +kernel, by decide +kernel, by decide +kernel⟩, by decide +kernel, by decide +kernel, by decide +kernel,
    by decide +kernel, by decide +kernel⟩

/-- Stations 1 and 62: DISABLED, OFFLINE, one failure short of the threshold's last, and at it. -/
theorem witness_OutcomeReportUpdatesTheRecord :
    ((live.setStation 1 { Station.fresh with state := .disabled }).station 1).state = .disabled ∧
    ((live.setStation 62 { Station.fresh with state := .offline, failures := 3 }).station 62).state = .offline ∧
    ((live.station 62).state ≠ .disabled ∧ (live.station 62).state ≠ .offline ∧ (live.station 62).failures + 1 < live.params.offlineThreshold) ∧
    (let x := live.setStation 1 { Station.fresh with state := .suspect, failures := 2 }
     (x.station 1).state ≠ .offline ∧ (x.station 1).failures + 1 = x.params.offlineThreshold) := by decide +kernel

theorem witness_ReceiverChecksCrcAndForm : checkReception garbled = .crcError ∧
    checkReception answer = .wellFormed ⟨.rsp, 12, true, true, 17, [0xAA, 0xBB]⟩ ∧
    checkReception ⟨[0x55], false⟩ = .formatError := by decide +kernel

/-- Frames of each kind, and exchanges with and without budget after this attempt. -/
theorem witness_AttemptIsClassifiedAndUsesBudget :
    (⟨.wake, 33, false, false, 0, []⟩ : Frame).kind = .wake ∧ (⟨.rsp, 33, true, false, 0, []⟩ : Frame).src ≠ order.station ∧
    ((⟨.rsp, 12, false, false, 0, []⟩ : Frame).kind = .rsp ∧ (⟨.rsp, 12, false, false, 0, []⟩ : Frame).seq ≠ order.seq) ∧
    ((⟨.rsp, 12, true, false, 0, []⟩ : Frame).src = order.station ∧ (⟨.rsp, 12, true, false, 0, []⟩ : Frame).seq = order.seq) ∧
    ((⟨.nak 3, 12, false, false, 0, [3]⟩ : Frame).kind = .nak 3 ∧ (⟨.nak 3, 12, false, false, 0, [3]⟩ : Frame).src = order.station) ∧
    (order.nakSeqSeen = false ∧ ({ order with nakSeqSeen := true } : Exchange).nakSeqSeen = true) ∧
    (¬order.retryLimit + 1 ≤ ({ order with used := 1 } : Exchange).used + 1 ∧
      order.retryLimit + 1 ≤ ({ order with used := 2 } : Exchange).used + 1) := by decide

/-- A younger entry for another station passes an older one in HOLDOFF; behind a barrier none is eligible. -/
theorem witness_CandidateIsTheOldestEligibleEntry :
    (holding [entry (toStation 12) (.holdoff 9), entry (toStation 12) .waiting, entry (toStation 30) .waiting]).candidate = some 2 ∧
    (holding [entry .fence .waiting, entry (toStation 12) .waiting]).candidate = none := by decide +kernel

theorem witness_OutOfRangeValuesAreNotAccepted :
    (block.length = 512 ∧ contextFault block = none) ∧
    badParameter GroupMask.all { Params.default with rate := 10 }.toBlock = some 1 ∧
    badParameter GroupMask.all ((Params.default.toBlock).set 19 2) = some 16 ∧
    badParameter ⟨true, false, false, false⟩ ((Params.default.toBlock).set 19 2) = none := by decide +kernel

/-! ## Reset, registers, start and stop -/

theorem witness_DeviceResetLeavesTheResetState :
    ({ running live with context := { context with level := true }, vector2 := ⟨1, none, true⟩ } : State).anyPending = true := by
  decide +kernel

theorem witness_EnableWriteStartsOrAbandons :
    ((inRun .off).run = .off ∧ ((inRun .off).ctxHi ++ (inRun .off).ctxLo).toNat % 64 = 0) ∧
    ((0 : Word) ++ (63 : Word)).toNat % 64 ≠ 0 ∧ (inRun .stopping).run ≠ .off ∧ (inRun .starting).run = .starting ∧
    (inRun .fault).run = .fault := by decide +kernel

theorem witness_EntryToStoppingTakesTheBlocksDown :
    (running { stopping with intake := ⟨1, 1, false, none, some (entry .fence .waiting)⟩ }).run = .running ∧
    stopping.entries.filter stopping.stopWake.outlivesWalk = [entry (toStation 12) (.inFlight .onLine)] := by decide +kernel

/-- The greatest producer index that passes, the first that does not, the wrap past 65,535, and a disabled line. -/
theorem witness_ProducerNotifyMeetsTwoLimits :
    (running live).run = .running ∧ ((running live).context.lineSection .line0).enable = true ∧
    (((7 : Half) - 0).toNat ≤ 8 ∧ ((7 : Half) - 0).toNat ≤ 8 - 1) ∧ ¬((8 : Half) - 0).toNat ≤ 8 - 1 ∧
    (((3 : Half) - 65532).toNat ≤ 8 ∧ ((3 : Half) - 65532).toNat ≤ 8 - 1) ∧ ¬((65535 : Half) - 0).toNat ≤ 8 ∧
    (((3 : Half) - 0).toNat ≤ 4 ∧ ((3 : Half) - 0).toNat ≤ 4 - 1) ∧ ¬((4 : Half) - 0).toNat ≤ 4 - 1 ∧
    (let s : State := { running live with context := { context with section0 := { enabledLine with enable := false } } }
     (s.context.lineSection .line0).enable = false) ∧
    (let x : Line := { live with intake := { live.intake with errored := true }, buffers := { live.buffers with errored := true } }
     x.intake.errored = true ∧ x.buffers.errored = true) ∧
    ((inRun .starting).run ≠ .running ∧ (inRun .starting).run ≠ .stopping) := by decide +kernel

/-- The producer index itself passes, one past it does not. -/
theorem witness_ConsumerNotifyReleasesRecords :
    ((inRun .stopping).run = .stopping ∧ ((inRun .stopping).context.lineSection .line1).enable = true) ∧
    ((3 : Half) - 0).toNat ≤ ((3 : Half) - 0).toNat ∧ ((3 : Half) - 0).toNat < ((4 : Half) - 0).toNat ∧
    (inRun .running).drain = none ∧ EventUnit.fresh.backlog = [] ∧ EventUnit.fresh.lossCount = 0 := by decide +kernel

theorem witness_RegisterWritesActByTheirRegister :
    (inRun .fault).run = .fault ∧ (inRun .starting).run = .starting ∧
    ((true && (⟨255, none, true⟩ : VectorState).pending) = true) := by decide +kernel

theorem witness_ContextReadEndsTheStart :
    starting.run = .starting ∧ starting.contextRead = some 0 ∧ starting.findRead 0 = some ⟨0, .context, 64, 512⟩ ∧ block.length = 512 ∧
    contextFault block = none ∧ contextFault (block.set 6 2) = some ⟨.badDeliveryMode, 0, 0⟩ ∧ (block.set 6 2).length = 512 ∧
    contextFault (block.set 0 0) = some ⟨.badSignature, 0, 0⟩ := by decide +kernel

theorem witness_TimedOutReadIsAReadError :
    (reading fetching (.request .line0) 32).findRead 0 = some ⟨0, .request .line0, 0x1000, 32⟩ ∧
    0 < (reading fetching (.request .line0) 32).nextRead := by decide +kernel

/-- One credit left and none; one descriptor held and two. -/
theorem witness_FetchIsIssuedWhenItsConditionsHold :
    (let s := running { posted with completion := ⟨0, 0, 1⟩ }
     s.run = .running ∧ s.line0.intake.errored = false ∧ s.line0.intake.producer ≠ s.line0.intake.consumer ∧
       s.line0.intake.fetch = none ∧ s.line0.intake.staged = none ∧ 1 ≤ s.line0.completion.credit) ∧
    ¬1 ≤ (running { posted with completion := ⟨0, 0, 0⟩ }).line0.completion.credit ∧
    (let b : BufferUnit := ⟨2, 1, 0, [⟨0x9000, 16, true⟩], false, none⟩
     b.errored = false ∧ b.producer ≠ b.consumer ∧ b.held.length < 2 ∧ b.fetch = none) ∧
    ¬([⟨0x9000, 16, true⟩, ⟨0x9100, 16, true⟩] : List Descriptor).length < 2 := by decide +kernel

/-- A stopping device with a descriptor held; one whose line work is over; and one in its drain. -/
theorem witness_StopReturnsBuffersAndEnds :
    (let s : State := { running returning with run := .stopping }
     s.run = .stopping ∧ (s.line .line0).fetching = false ∧ (s.line .line0).buffers.fetch = none ∧
       (s.line .line0).buffers.held = ⟨0x9000, 256, true⟩ :: []) ∧
    (let s : State := { running live with run := .stopping }
     s.run = .stopping ∧ s.drain = none ∧ s.line0.workEnded = true ∧ s.line1.workEnded = true) ∧
    (({ running live with run := .stopping, drain := some 10 } : State).drain.isSome = true) := by decide +kernel

/-! ## Requests -/

theorem witness_RequestReadTakesTheRecord :
    (let s := reading fetching (.request .line0) 32
     s.findRead 0 = some ⟨0, .request .line0, 0x1000, 32⟩ ∧ (s.line .line0).intake.fetch = some 0 ∧ s.run ≠ .stopping) ∧
    exchangeRecord.length = 32 ∧ ({ running fetching with run := .stopping } : State).run = .stopping := by decide +kernel

/-- Seven entries leave room, eight do not; and a record at the edges of the checks of each kind. -/
theorem witness_TakenRecordIsCheckedAndPlaced :
    parseBody (exchangeRecord.set 4 63) = none ∧ (parseBody (exchangeRecord.set 4 62)).isSome = true ∧
    (List.replicate 7 (entry .fence .waiting)).length < 8 ∧ 8 ≤ (List.replicate 8 (entry .fence .waiting)).length ∧
    (let x : Line := { holding (List.replicate 7 (entry .fence .waiting)) with intake := ⟨1, 1, false, none, some (entry .fence .waiting)⟩ }
     x.intake.staged = some (entry .fence .waiting) ∧ (running x).run = .running ∧ x.entries.length < 8 ∧
       (entry .fence .waiting).body.isBarrier = true) ∧
    parseBody ([12, 0, 1, 0, 0, 0, 0, 0, 0, 0, 62, 0, 2] ++ zeros 19) = some (.abort (.station 62)) ∧
    parseBody ([2, 0, 1, 0, 0, 223, 240, 0] ++ zeros 24) = some (.send 0 223 240 0) ∧
    parseBody ([3, 0, 1, 0, 0, 0, 0, 0, 0, 0, 20, 0, 1, 62, 5] ++ zeros 17) = some (.stationSet 1 62 (.timeoutOverride 20)) ∧
    parseBody ([4, 0, 1, 0, 0, 0, 0, 0, 224, 3, 0, 0, 1, 62, 0] ++ zeros 17) = some (.stationRead 1 62 false 0) ∧
    parseBody ([5, 0, 1, 0, 0, 0, 24, 0, 24, 0, 0, 0, 15] ++ zeros 19) = some (.lineConfig GroupMask.all false 0 24 0) ∧
    parseBody ([9] ++ zeros 31) = some .fence ∧ parseBody (zeros 32) = none ∧ parseBody ([13] ++ zeros 31) = none ∧
    parseBody ([10, 0, 1, 0, 64] ++ zeros 27) = some (.scheduleLoad 64 1 0 0 0) ∧
    parseBody ([11, 0, 1, 0, 0, 0, 0, 0, 0, 0, 1, 1, 250, 0] ++ zeros 18) = some (.scheduleControl (.start (.timer 250))) := by
  decide +kernel

/-- Nothing matches, and an entry in HOLDOFF matches. -/
theorem witness_AbortWithdrawsMatchingTraffic :
    stopping.entries.filter (fun e => (AbortSelector.station 30).hits e && !e.isInFlight) = [] ∧
    stopping.entries.filter (fun e => (AbortSelector.station 22).hits e && !e.isInFlight) = entry (toStation 22) (.holdoff 1000) :: [] ∧
    stopping.entries.any (fun e => AbortSelector.all.hits e && e.isDoing .onLine) = true := by decide +kernel

/-- A candidate on an ACTIVE, a resting and a FAULTED line, with and without payload, and one refused for its station's sake. -/
theorem witness_TrafficSelectJudgesTheCandidate :
    (let x := holding [entry (toStation 12) .waiting]
     (running x).run = .running ∧ x.maySelect = true ∧ x.candidate = some 0 ∧ x.entries[0]? = some (entry (toStation 12) .waiting) ∧
       x.state = .active ∧ x.judgeTraffic (toStation 12) = none ∧ (toStation 12).outPayload.2 = 0) ∧
    (Body.exchange false false 12 17 240 0x9000 4 0x8000).outPayload.2 ≠ 0 ∧
    (let x : Line := { holding [entry (toStation 12) .waiting] with state := .faulted }
     x.maySelect = true ∧ x.candidate = some 0 ∧ x.state = .faulted) ∧
    (let x : Line := { holding [entry (toStation 12) .waiting] with state := .rest }
     x.maySelect = true ∧ x.candidate = some 0 ∧ x.state = .rest ∧ x.params.autoWake = false) ∧
    (let x : Line := { holding [entry (toStation 12) .waiting] with state := .rest, params := { Params.default with autoWake := true } }
     x.maySelect = true ∧ x.state = .rest ∧ x.params.autoWake = true) ∧
    (let x := (holding [entry (toStation 12) .waiting]).setStation 12 { Station.fresh with state := .disabled }
     x.maySelect = true ∧ x.judgeTraffic (toStation 12) = some .stationDisabled ∧ (x.station 12).state = .disabled) ∧
    (let x := (holding [entry (toStation 12) .waiting]).setStation 12 { Station.fresh with state := .offline }
     x.judgeTraffic (toStation 12) = some .stationOffline ∧ (x.station 12).state = .offline) := by decide +kernel

theorem witness_OutDataReadAndHoldoffExpiry :
    (let x := holding [entry (toStation 12) (.inFlight (.payloadRead 0))]
     ([7] : List Byte).length = 1 ∧ (reading x (.payload .line0) 1).findRead 0 = some ⟨0, .payload .line0, 0x1000, 1⟩ ∧
       x.findEntry (fun e => e.isDoing (.payloadRead 0)) = some (0, entry (toStation 12) (.inFlight (.payloadRead 0))) ∧
       (entry (toStation 12) (.inFlight (.payloadRead 0))).abortMark = false ∧
       ({ entry (toStation 12) (.inFlight (.payloadRead 0)) with abortMark := true } : Entry).abortMark = true) ∧
    (let x : Line := { live with engine := { overrunning with stage := .outputRead 0 } }
     (reading x (.slotOutput .line0) 240).findRead 0 = some ⟨0, .slotOutput .line0, 0x1000, 240⟩ ∧ x.engine.stage = .outputRead 0) ∧
    (holding [entry (toStation 12) (.holdoff 50)]).findEntry (fun e' => decide (e'.ringIndex = 0) && (match e'.state with
      | .holdoff _ => true
      | _ => false)) = some (0, entry (toStation 12) (.holdoff 50)) := by decide +kernel

/-- The whole range 1 to 62, and a DISABLED record. -/
theorem witness_StationSetChangesItsRange :
    (let e := entry (.stationSet 1 62 .disable) .waiting
     let s := running (holding [e])
     s.run = .running ∧ (s.line .line0).job = none ∧ (s.line .line0).entries = e :: [] ∧ e.state = .waiting ∧
       e.body = .stationSet 1 62 .disable ∧ (s.line .line0).state = .active) ∧
    ({ Station.fresh with state := .disabled } : Station).state = .disabled ∧ Station.fresh.state ≠ .disabled := by decide +kernel

theorem witness_StationReadWritesTheImages :
    (let e := entry (.stationRead 1 62 true 0x7000) .waiting
     let s := running { holding [e] with state := .faulted }
     s.run = .running ∧ (s.line .line0).job = none ∧ (s.line .line0).entries = e :: [] ∧ e.state = .waiting ∧
       e.body = .stationRead 1 62 true 0x7000 ∧ (s.line .line0).state = .faulted) := by decide +kernel

/-- A line with a LINE_CONFIG as its oldest entry. -/
def configWaiting (m : GroupMask) (defaults : Bool) : Line := holding [entry (.lineConfig m defaults 0x1000 24 0x2000) .waiting]

/-- LINK with a running engine, LINK on a FAULTED line, DEFAULTS, an empty mask, and a block to read. -/
theorem witness_LineConfigActsByItsMask :
    (let x : Line := { configWaiting ⟨true, false, false, false⟩ true with engine := overrunning }
     (running x).run = .running ∧ x.job = none ∧ x.state = .active ∧ x.engine.runs = true) ∧
    (let x : Line := { configWaiting ⟨true, false, false, false⟩ true with state := .faulted }
     x.job = none ∧ x.engine.runs = false ∧ x.state = .faulted) ∧
    (let x := configWaiting GroupMask.all true
     x.engine.runs = false ∧ x.state ≠ .faulted ∧ x.entries = entry (.lineConfig GroupMask.all true 0x1000 24 0x2000) .waiting :: []) ∧
    (⟨false, false, false, false⟩ : GroupMask).isEmpty = true ∧ (⟨false, false, false, true⟩ : GroupMask).isEmpty = false := by decide +kernel

/-- A block with every value in range, one with its last value out of range, and a FAULTED line when LINK is named. -/
theorem witness_BlockReadInstallsTheNamedGroups :
    (let s := reading configuring (.parameters .line0) 24
     s.findRead 0 = some ⟨0, .parameters .line0, 0x1000, 24⟩ ∧ Params.default.toBlock.length = 24 ∧
       (s.line .line0).findEntry (fun e => e.isDoing (.blockRead 0)) =
         some (0, entry (.lineConfig ⟨false, false, true, false⟩ false 0x1000 0 0) (.inFlight (.blockRead 0)))) ∧
    badParameter ⟨false, false, true, false⟩ Params.default.toBlock = none ∧
    badParameter ⟨false, false, true, false⟩ (Params.default.toBlock.set 12 8) = some 11 ∧
    (⟨true, false, false, false⟩ : GroupMask).link = true ∧ ({ configuring with state := .faulted } : Line).state = .faulted ∧
    ((2 : Nat) < 5 ∧ (2 : Nat) ≤ 2 ∧ (1 : Nat) < 2 ∧ ({ Station.fresh with state := .offline, failures := 5 } : Station).state = .offline) := by
  decide +kernel

/-! ## Rest, wake and recovery -/

/-- A line at the grant of its REST. -/
def restGranted : Line := holding [entry .rest (.inFlight .restClaim)]

theorem witness_RestMakesItsChecksTwice :
    (let e := entry .rest .waiting
     let x := holding [e]
     (running x).run = .running ∧ x.job = none ∧ x.entries = e :: [] ∧ e.state = .waiting ∧ e.body = .rest ∧ x.state = .active ∧
       x.engine.runs = false ∧ x.attentionSet = []) ∧
    ({ live with engine := overrunning } : Line).engine.runs = true ∧
    (let x := live.setStation 62 { Station.fresh with attention := true }
     x.params.attentionCollection = true ∧ x.attentionSet ≠ []) ∧
    (restGranted.choose = some .barrier ∧ restGranted.state = .active ∧ restGranted.job = none ∧ restGranted.restRefusal = none ∧
      restGranted.findEntry (fun e => e.isDoing .restClaim) = some (0, entry .rest (.inFlight .restClaim))) ∧
    (let x := restGranted.setStation 1 { Station.fresh with attention := true }
     x.choose = some .barrier ∧ x.restRefusal = some .attentionPending) := by decide +kernel

theorem witness_WakeFenceAndRecoverActAsTheOldestEntry :
    (let e := entry .wake .waiting
     let x : Line := { holding [e] with state := .rest }
     (running x).run = .running ∧ x.job = none ∧ x.entries = e :: [] ∧ e.state = .waiting ∧ e.body = .wake ∧ x.state = .rest) ∧
    (let e := entry .fence .waiting
     let x : Line := { holding [e] with state := .waking }
     (running x).run = .running ∧ x.job = none ∧ x.entries = e :: [] ∧ e.body = .fence) ∧
    (let e := entry .lineRecover .waiting
     let x : Line := { holding [e] with state := .faulted }
     (running x).run = .running ∧ x.job = none ∧ x.entries = e :: [] ∧ e.state = .waiting ∧ e.body = .lineRecover ∧ x.state = .faulted) ∧
    (watched.entries = entry .lineRecover (.inFlight .watching) :: [] ∧ watched.state = .faulted ∧ watched.reception = none) := by
  decide +kernel

theorem witness_RestAndTonesMoveTheWakeSequence :
    (quiescing.state = .quiescing ∧ quiescing.wake.phase = .quiesce ∧ quiescing.wake.quiesceTimer.isSome = true ∧
      quiescing.findEntry (fun e => e.isDoing .quiescing) = some (0, entry .rest (.inFlight .quiescing)) ∧
      (entry .rest (.inFlight .quiescing)).body = .rest ∧ quiescing.detector = .armed ∧ quiescing.transmitting = false) ∧
    (let x : Line := { live with state := .rest, detector := .armed }
     x.detector = .armed ∧ x.transmitting = false ∧ x.state = .rest) ∧
    (toneHeard.detector = .toneSeen ∧ toneHeard.wake.phase = .toneIn) ∧ toning.job = some ⟨.tone 2, .toning⟩ ∧
    (listening.wake.phase = .listen ∧ listening.wake.windowTimer.isSome = true) := by decide +kernel

/-- A line whose window was stopped by a frame that is being received, with station 33 wake-capable. -/
def windowStopped : Line :=
  ({ listening with reception := some ⟨.window, fast⟩, wake := { listening.wake with windowTimer := none } }).setStation 33
    { Station.fresh with wakeCapable := true }

theorem witness_ListenWindowIsDecidedByItsFirstFrame :
    (windowStopped.state = .waking ∧ windowStopped.wake.phase = .listen ∧ windowStopped.reception = some ⟨.window, fast⟩ ∧
      windowStopped.job = none ∧ (running windowStopped).run = .running) ∧
    checkReception wakeFrame = .wellFormed ⟨.wake, 33, false, false, 0, []⟩ ∧ checkReception garbled = .crcError ∧
    windowStopped.rollCallList = 33 :: [] ∧ listening.rollCallList = [] := by decide +kernel

/-! ## The line controller -/

theorem witness_FramesBeginAfterTheGapAndEndIntact :
    ((busy order (.gapWait 16)).reception = none ∧ (busy order (.gapWait 16)).job = some ⟨.exchange order, .gapWait 16⟩) ∧
    ({ sending with job := some ⟨.data ⟨0, 17, [], .cycleEngine⟩, .gapWait 8⟩ } : Line).job = some ⟨.data ⟨0, 17, [], .cycleEngine⟩, .gapWait 8⟩ ∧
    ({ closing with job := some ⟨.wack 62, .gapWait 255⟩ } : Line).job = some ⟨.wack 62, .gapWait 255⟩ ∧
    ((quietening .quiet1).job = some ⟨.quiet, .sending fast []⟩ ∧ (running (quietening .quiet1)).run = .running ∧
      (quietening .quiet2).wake.phase = .quiet2) ∧
    (sending.job = some ⟨.data ⟨5, 17, [], .requestEngine⟩, .sending fast []⟩ ∧
      sending.findEntry (fun e => e.isDoing .onLine) = some (0, entry (.send 5 17 0 0) (.inFlight .onLine))) := by decide +kernel

/-- A wake that no request waits for, and one that a WAKE request waits for. -/
theorem witness_WackSentEndsTheWake :
    (closing.job = some ⟨.wack 0, .sending fast []⟩ ∧ (running closing).run = .running ∧ closing.state = .waking ∧
      closing.entries.all (fun e => !e.isDoing .waking) = true) ∧
    ({ closing with entries := [entry .wake (.inFlight .waking)] } : Line).findEntry (fun e => e.isDoing .waking) =
      some (0, entry .wake (.inFlight .waking)) := by decide +kernel

theorem witness_ReceptionStopsTimersAndCountsStrays :
    (let x := busy order .awaiting
     x.state ≠ .off ∧ x.reception = none ∧ x.transmitting = false ∧ x.job = some ⟨.exchange order, .awaiting⟩) ∧
    (listening.state ≠ .off ∧ listening.reception = none ∧ listening.transmitting = false ∧ listening.job = none ∧
      listening.wake.phase = .listen ∧ listening.wake.windowTimer.isSome = true) ∧
    (live.state ≠ .off ∧ live.job = none ∧ live.wake.phase ≠ .listen) ∧
    (let x : Line := { watched with reception := some ⟨.other, fast⟩ }
     x.state = .faulted ∧ x.transmitting = false ∧ x.reception = some ⟨.other, fast⟩) ∧
    checkReception answer = .wellFormed ⟨.rsp, 12, true, true, 17, [0xAA, 0xBB]⟩ ∧ checkReception garbled = .crcError ∧
    checkReception ⟨[0x55], false⟩ = .formatError := by decide +kernel

/-- The last attempt that leaves budget, and the one that uses it up. -/
theorem witness_ResponseTimeoutRetriesOrFails :
    (let y := busy { order with used := 1 } .awaiting
     y.job = some ⟨.exchange { order with used := 1 }, .awaiting⟩ ∧ 1 ≤ order.station ∧ order.station ≤ 62 ∧
       (1 : Nat) + 1 < order.retryLimit + 1 ∧ order.stopMark = false) ∧
    (let y := busy { order with used := 2 } .awaiting
     order.retryLimit + 1 ≤ 2 + 1 ∧ order.claimant = .requestEngine ∧
       y.findEntry (fun e => e.isDoing .onLine) = some (0, entry (toStation 12) (.inFlight .onLine))) := by decide +kernel

theorem witness_AnswerCompletesTheExchangeRequest :
    (let y : Line := { busy order .answering with reception := some ⟨.answer, fast⟩ }
     y.state = .active ∧ y.job = some ⟨.exchange order, .answering⟩ ∧ y.reception = some ⟨.answer, fast⟩ ∧ order.claimant = .requestEngine ∧
       1 ≤ order.station ∧ order.station ≤ 62 ∧
       y.findEntry (fun e => e.isDoing .onLine) = some (0, entry (toStation 12) (.inFlight .onLine)) ∧
       (entry (toStation 12) (.inFlight .onLine)).body.reportStation = order.station ∧
       classifyAnswer order (checkReception answer) = .success true 17 [0xAA, 0xBB] ∧ (y.station 12).state ≠ .disabled) := by decide +kernel

/-- The last collision below the default limit of 3, in a CMD, a WACK and a SEND. -/
theorem witness_CollisionBelowTheLimitEndsTheTransmission :
    (let y : Line := { busy order (.sending fast []) with consecutiveCollisions := 1 }
     y.job = some ⟨.exchange order, .sending fast []⟩ ∧ y.consecutiveCollisions + 1 < y.params.collisionLimit ∧
       order.used + 1 < order.retryLimit + 1 ∧ order.stopMark = false) ∧
    (closing.job = some ⟨.wack 0, .sending fast []⟩ ∧ closing.consecutiveCollisions + 1 < closing.params.collisionLimit) ∧
    (sending.job = some ⟨.data ⟨5, 17, [], .requestEngine⟩, .sending fast []⟩ ∧
      sending.findEntry (fun e => e.isDoing .onLine) = some (0, entry (.send 5 17 0 0) (.inFlight .onLine))) := by decide +kernel

/-- The collision at the limit, a stuck line and an overlong tone; an engine that runs, one that a STOP waits for, and one that stands. -/
theorem witness_EntryToFaultedCutsTheLine :
    (let y : Line := { busy order (.sending fast []) with consecutiveCollisions := 2, engine := overrunning }
     y.job = some ⟨.exchange order, .sending fast []⟩ ∧ y.params.collisionLimit ≤ y.consecutiveCollisions + 1 ∧
       y.engine.runs = true ∧ y.engine.stopRequested = false) ∧
    (busy order .awaiting).watchActs = true ∧ (toneHeard.detector = .toneSeen ∧ toneHeard.wake.phase = .toneIn) ∧
    ({ overrunning with stopRequested := true } : Engine).runs = true ∧ live.engine.runs = false ∧
    (let e := entry (.stationRead 6 6 false 0) .waiting
     e.body.isTraffic = false ∧ e.body ≠ .rest ∧ e.body ≠ .wake ∧ e.state ≠ .parked ∧ e.isDoing .stopWait = false ∧ e.isDoing .onLine = false) := by
  decide +kernel

/-! ## Grants, buffers and the cyclic schedule -/

theorem witness_TrafficGrantHandsTheOrder :
    (let e := entry (toStation 12) (.inFlight (.awaitGrant []))
     let x := holding [e]
     (running x).run = .running ∧ x.state = .active ∧ x.job = none ∧ x.choose = some .traffic ∧
       x.findEntry Entry.awaitsGrant = some (0, e) ∧ e.state = .inFlight (.awaitGrant []) ∧ e.abortMark = false ∧
       x.judgeTraffic e.body = none ∧ ({ e with abortMark := true } : Entry).abortMark = true ∧
       (x.setStation 12 { Station.fresh with state := .disabled }).judgeTraffic e.body = some .stationDisabled) ∧
    (entry (.send 0 17 0 0) (.inFlight (.awaitGrant []))).body = .send 0 17 0 0 := by decide +kernel

/-- A line whose collector claims with this rotation pointer: the members 5, 20 and 41 of the worked sequence of spec/07. -/
def collecting (rotation : Nat) : Line :=
  let x := live.setStation 5 { Station.fresh with attention := true }
  let x := (x.setStation 20 { Station.fresh with attention := true }).setStation 41 { Station.fresh with attention := true }
  { x with
    buffers := ⟨2, 2, 0, [⟨0x9000, 256, true⟩, ⟨0x9100, 64, true⟩], false, none⟩
    collector := ⟨true, rotation, false⟩, lastGrantee := .requestEngine }

/-- A claim that is ready, one that is not, and the rotation from 18, and from 42 round to the lowest. -/
theorem witness_ArbiterAlternatesAndFetchesRotate :
    (let x := collecting 18
     (running x).run = .running ∧ x.state = .active ∧ x.job = none ∧ x.choose = some .fetch ∧
       x.params.attentionCollection = true ∧ x.attentionSet = [5, 20, 41] ∧ x.buffers.held ≠ [] ∧ x.fetchChoice = some 20) ∧
    (collecting 42).fetchChoice = some 5 ∧
    (let x : Line := { live with collector := ⟨true, 1, false⟩ }
     x.choose = some .fetch ∧ x.attentionSet = []) ∧
    (overrunning.pendingStart = true ∧ ({ overrunning with pendingStart := false } : Engine).state = .inCycle ∧ live.engine.state ≠ .inCycle) ∧
    (let x : Line := { collecting 18 with entries := [entry (toStation 3) (.inFlight (.awaitGrant []))], lastGrantee := .collector }
     x.requestClaim = some .traffic ∧ x.collector.claim = true ∧ x.choose = some .traffic) := by decide +kernel

/-- An engine that waits with a start pending. -/
def startPending : Engine := { overrunning with state := .waiting, due := [], cursor := 1 }

/-- A start with a switch, one without, and one with no slot due; a cycle number that a divisor of 2 with phase 1 selects. -/
theorem witness_CycleStartIsTaken :
    (let x : Line := { live with engine := startPending }
     (running x).run = .running ∧ x.state = .active ∧ x.job = none ∧ x.engine.pendingStart = true ∧ x.engine.state = .waiting ∧
       x.engine.inactiveBank.state = .committed) ∧
    (let g : Engine := { startPending with bank1 := Bank.empty, bank0 := { startPending.bank0 with slots := [cell 7 2 0 .loaded] } }
     g.inactiveBank.state ≠ .committed ∧ dueSlots (g.cycle + 1) 1 g.activeBank.slots = []) ∧
    dueSlots 41 1 overrunning.bank0.slots = [1, 3, 4, 5] := by decide +kernel

theorem witness_OverrunsAndSlotEndsWriteStatuses :
    (let x : Line := { live with engine := overrunning }
     (running x).run = .running ∧ x.state = .active ∧ x.job = none ∧ x.engine.pendingStart = true ∧ x.engine.state = .inCycle ∧
       x.engine.inactiveBank.state = .committed ∧ x.engine.due = dueSlots x.engine.cycle 1 x.engine.activeBank.slots ∧
       x.engine.remaining = [4] ∧ x.engine.activeBank.slots[5 - 1]? = some (cell 12 2 1 .loaded)) := by decide +kernel

/-- An engine whose slot 4 claims the line. -/
def slotClaims (x : Line) : Line := { x with engine := { overrunning with pendingStart := false, stage := .claiming [] } }

/-- A slot that runs, one of a DISABLED and one of an OFFLINE station (cycle 40 is no multiple of the rejoin interval of 16), and an OUTPUT
to every station. -/
theorem witness_SlotGrantHandsTheOrder :
    (let x := slotClaims live
     (running x).run = .running ∧ x.state = .active ∧ x.job = none ∧ x.choose = some .slot ∧ x.engine.stage = .claiming [] ∧
       x.engine.remaining = 4 :: [] ∧ x.engine.activeBank.cell 4 = some (cell 11 1 0 ⟨39, 39, .ok, 1, 0, 0, 39⟩) ∧
       (x.station 11).state ≠ .disabled ∧ (x.station 11).state ≠ .offline) ∧
    (cell 11 1 0 .loaded).slot.kind = .poll ∧
    ((slotClaims (live.setStation 11 { Station.fresh with state := .disabled })).station 11).state = .disabled ∧
    (let x := slotClaims (live.setStation 11 { Station.fresh with state := .offline })
     (x.station 11).state = .offline ∧ x.params.rejoinInterval ≠ 0 ∧ ¬x.engine.cycle.toNat % x.params.rejoinInterval = 0) ∧
    ({ (cell 0 1 0 .loaded).slot with kind := .output } : Slot).station = 0 := by decide +kernel

/-- A table that passes, one that fails at its first slot, and the load that reads it. -/
theorem witness_SlotTableReadLoadsTheBank :
    (let s := reading loading (.slotTable .line0) 16
     s.findRead 0 = some ⟨0, .slotTable .line0, 0x1000, 16 * 1⟩ ∧ slotRecord.length = 16 * 1 ∧
       (s.line .line0).findEntry (fun e => e.isDoing (.tableRead 0)) =
         some (0, entry (.scheduleLoad 1 64 0x1000 0x5000 0x6000) (.inFlight (.tableRead 0)))) ∧
    (parseSlots 64 1 1 slotRecord).isOk = true ∧ (parseSlots 64 1 1 (slotRecord.set 3 3)).isOk = false ∧
    (parseSlot slotRecord 32).isSome = true ∧ (parseSlot slotRecord 31).isSome = false := by decide +kernel

/-- A usable and an unusable descriptor (lengths 16 and 15), with no descriptor held and with one. -/
theorem witness_DescriptorReadHoldsTheDescriptor :
    (let s := reading descriptorRead (.descriptor .line0) 16
     s.findRead 0 = some ⟨0, .descriptor .line0, 0x1000, 16⟩ ∧ descriptorRecord.length = 16 ∧ (s.line .line0).buffers.fetch = some 0 ∧
       (s.line .line0).buffers.held = []) ∧
    (parseDescriptor ((descriptorRecord.set 9 0).set 8 16)).usable = true ∧ (parseDescriptor ((descriptorRecord.set 9 0).set 8 15)).usable = false ∧
    (let b : BufferUnit := ⟨2, 1, 0, [⟨0x9000, 256, true⟩], false, some 0⟩
     b.held = [⟨0x9000, 256, true⟩] ∧ (⟨0x9000, 256, true⟩ : Descriptor).usable = true) := by decide +kernel

theorem witness_StartEventSetsOrMerges :
    (let x := waitingFor (.timer 250) (some 250)
     x.engine.state = .waiting ∧ x.engine.source = some (.timer 250) ∧ x.engine.timer = some 250) ∧
    ((waitingFor .sync none).engine.source = some .sync ∧ (waitingFor .manual none).engine.source ≠ some .sync) ∧
    (overrunning.state = .inCycle ∧ overrunning.pendingStart = true) ∧
    (Engine.fresh.state = .stopped ∧ { overrunning with state := .halted }.state = .halted) ∧
    (let x := waitingFor .manual none
     x.engine.state = .waiting ∧ x.engine.source = some .manual) ∧
    (entry (.scheduleControl .trigger) .waiting).body = .scheduleControl .trigger := by decide +kernel

/-- START on a running engine, on lines that are FAULTED and at REST, with an EMPTY active bank and with a loaded one; STOP and SWITCH in each of
their cases. -/
theorem witness_ScheduleControlActsAtIntake :
    (entry (.scheduleControl (.start .sync)) .waiting).body = .scheduleControl (.start .sync) ∧
    (overrunning.runs = true ∧ Engine.fresh.runs = false ∧ Engine.fresh.activeBank.state = .empty) ∧
    (let g : Engine := { Engine.fresh with bank0 := overrunning.bank0, bank1 := { overrunning.bank1 with state := .loaded } }
     g.runs = false ∧ g.activeBank.state ≠ .empty ∧ g.inactiveBank.state = .loaded) ∧
    (watched.state = .faulted ∧ watched.engine.runs = false) ∧
    ({ live with state := .rest } : Line).state = .rest ∧
    (Engine.fresh.state = .stopped ∧ overrunning.stopRequested = false ∧ overrunning.stage ≠ .inFlight ∧
      ({ overrunning with stage := .inFlight } : Engine).stage = .inFlight) ∧
    (Engine.fresh.inactiveBank.state = .empty ∧ overrunning.inactiveBank.state = .committed ∧
      ({ overrunning with bank1 := { overrunning.bank1 with state := .loaded } } : Engine).inactiveBank.state = .loaded) := by decide +kernel

/-! ## Further clauses of the statements above -/

/-- A stop whose drain finds room for the whole backlog and its EVENT_LOSS. -/
theorem witness_BacklogDrainsIntoFreeEntries_stop :
    (let s : State := { running live with run := .stopping, drain := some 10, events := { overflowed with consumer := 15, backlog := overflowed.backlog.take 14 } }
     s.drain.isSome = true ∧ s.context.eventRing.size ≤ 1024 ∧ (s.events.producer - s.events.consumer).toNat ≤ s.context.eventRing.size - 1 ∧
       s.events.backlog.length ≤ 16 ∧ s.events.lossCount ≤ 65535 ∧ s.events.firstLost.isSome = true ∧ s.events.lossCount ≠ 0 ∧
       min (16 - 1 - ((15 : Half) - 15).toNat) s.events.backlog.length = s.events.backlog.length ∧ s.events.backlog.length < 16 - 1) := by
  decide +kernel

/-- Blocks that fail one check of R173 after the other, from the third to the tenth. -/
theorem witness_OutOfRangeValuesAreNotAccepted_checks :
    contextFault (block.set 3 0) = some ⟨.badSignature, 0, 0⟩ ∧ contextFault (block.set 4 2) = some ⟨.badVersion, 0, 0⟩ ∧
    contextFault (block.set 40 63) = some ⟨.badAlignment, 7, 0⟩ ∧ contextFault (block.set 32 8) = some ⟨.badRingSize, 0, 0⟩ ∧
    contextFault (block.set 216 3) = some ⟨.badRingSize, 6, 0⟩ ∧ contextFault (block.set 24 1) = some ⟨.badAlignment, 0, 0⟩ ∧
    contextFault ((block.set 64 1).set 72 10) = some ⟨.badParameter, 1, 0⟩ ∧ contextFault (block.set 10 0) = some ⟨.badVectorSetting, 2, 0⟩ ∧
    contextFault (block.set 6 2) = some ⟨.badDeliveryMode, 0, 0⟩ ∧ (field block 6 1 ≤ 1 ∧ contextFault block = none) := by decide +kernel

/-- An engine in mid-cycle and one with its slot in flight, both with the due list of their cycle, and work that outlives the walk. -/
theorem witness_EntryToStoppingTakesTheBlocksDown_slots :
    (let x : Line := { stopping with engine := { overrunning with stage := .inFlight } }
     (running x).run = .running ∧ x.engine.due = dueSlots x.engine.cycle 1 x.engine.activeBank.slots ∧ x.engine.stage = .inFlight ∧
       x.engine.remaining = [4]) ∧
    overrunning.due = dueSlots overrunning.cycle 1 overrunning.activeBank.slots ∧
    (quietening .quiet2).stopWake.outlivesWalk (entry .rest (.inFlight .quiescing)) = true ∧
    quiescing.stopWake.outlivesWalk (entry .rest (.inFlight .quiescing)) = false := by decide +kernel

/-- A rejected NOTIFY in the event drain of a stop that still has a backlog. -/
theorem witness_ConsumerNotifyReleasesRecords_drain :
    (let s : State := { running live with run := .stopping, drain := some 10, events := overflowed }
     s.run = .stopping ∧ (s.events.producer - s.events.consumer).toNat < ((16 : Half) - s.events.consumer).toNat ∧
       ¬(s.events.backlog = [] ∧ s.events.lossCount = 0)) := by decide +kernel

/-- A NOTIFY value for each ring id at the ends of its range, and the DCTL values. -/
theorem witness_RegisterWritesActByTheirRegister_words :
    ((0x0000FFFF : Word).toNat / 65536 % 8 = 0 ∧ (0x00010000 : Word).toNat / 65536 % 8 = 1 ∧ (0x00020000 : Word).toNat / 65536 % 8 = 2 ∧
      (0x00030000 : Word).toNat / 65536 % 8 = 3 ∧ (0x00040000 : Word).toNat / 65536 % 8 = 4 ∧ (0x00050000 : Word).toNat / 65536 % 8 = 5 ∧
      (0x00060000 : Word).toNat / 65536 % 8 = 6 ∧ (0xFFFFFFFF : Word).toNat / 65536 % 8 = 7) ∧
    ((2 : Word).getLsbD 1 = true ∧ (1 : Word).getLsbD 1 = false ∧ (1 : Word).getLsbD 0 = true ∧ (0 : Word).getLsbD 1 = false ∧
      (0 : Word).getLsbD 0 = false) ∧
    ((⟨.badParameter, 255, 1⟩ : FaultInfo).detail < 256 ∧ (⟨.badParameter, 255, 1⟩ : FaultInfo).line ≤ 1) := by decide +kernel

/-- Line work that ends with nothing to drain, with events backlogged, and a drain that runs out, in mode MESSAGE. -/
theorem witness_StopReturnsBuffersAndEnds_drain :
    (let s : State := { running live with run := .stopping, events := overflowed }
     s.drain = none ∧ s.line0.workEnded = true ∧ s.line1.workEnded = true ∧ s.events.backlog ≠ []) ∧
    (let s : State := { running live with run := .stopping, context := { context with eventRing := ring 16 } }
     after .stopLineWorkEnd s (·.run) = some .off) ∧
    (running live).context.level = false ∧ ({ running live with run := .stopping, drain := some 10, events := overflowed } : State).drain.isSome = true := by
  decide +kernel

/-- A schedule record with room and one staged, a bank that is EMPTY and one that is LOADING, and a record of each kind. -/
theorem witness_TakenRecordIsCheckedAndPlaced_bodies :
    (parseBody ([10, 0, 1, 0, 1] ++ zeros 27) = some (.scheduleLoad 1 1 0 0 0) ∧ (Body.scheduleLoad 1 1 0 0 0).isSchedule = true ∧
      live.entries.length < 8) ∧
    (let x : Line := { live with intake := ⟨1, 1, false, none, some (entry (.scheduleControl .stop) .waiting)⟩ }
     x.intake.staged = some (entry (.scheduleControl .stop) .waiting) ∧ (running x).run = .running ∧ x.entries.length < 8 ∧
       (entry (.scheduleControl .stop) .waiting).body.isSchedule = true) ∧
    (live.engine.inactiveBank.state = .empty ∧ loading.engine.inactiveBank.state = .loading) ∧
    (parseBody exchangeRecord).isSome = true ∧ parseBody ([6] ++ zeros 31) = some .rest ∧ parseBody ([7] ++ zeros 31) = some .wake ∧
    parseBody ([8] ++ zeros 31) = some .lineRecover ∧ parseBody ([11, 0, 1, 0, 0, 0, 0, 0, 0, 0, 1, 3] ++ zeros 20) =
      some (.scheduleControl (.start .manual)) ∧
    parseBody ([11, 0, 1, 0, 0, 0, 0, 0, 0, 0, 4] ++ zeros 21) = some (.scheduleControl .trigger) ∧
    parseBody ([12, 0, 1, 0, 0, 0, 0, 0, 0, 0, 9, 1, 1] ++ zeros 19) = some (.abort (.tag 0x109)) := by decide +kernel

theorem witness_AbortWithdrawsMatchingTraffic_itself : (entry (.abort .all) .waiting).body = .abort .all := rfl

theorem witness_LineConfigActsByItsMask_block : Params.default.InRange := by unfold Params.InRange; decide

/-- A LINE_RECOVER on an ACTIVE line, on a FAULTED one whose frame has not ended, and on one that is WAKING. -/
theorem witness_WakeFenceAndRecoverActAsTheOldestEntry_states :
    (let e := entry .lineRecover .waiting
     ((holding [e]).state = .active ∧ (holding [e]).job = none) ∧
     (let x : Line := { holding [e] with state := .faulted, reception := some ⟨.other, fast⟩ }
      x.state = .faulted ∧ x.reception ≠ none ∧ x.job = none) ∧
     (let x : Line := { holding [e] with state := .waking }
      x.state = .waking ∧ x.job = none)) := by decide +kernel

/-- A tone at REST in the moment in which a WAKE acts, and one with no WAKE waiting. -/
theorem witness_RestAndTonesMoveTheWakeSequence_asked :
    (let e := entry .wake .waiting
     let x : Line := { holding [e] with state := .rest, detector := .armed }
     x.detector = .armed ∧ x.transmitting = false ∧ x.state = .rest ∧ (running x).run = .running ∧ x.job = none ∧ x.entries = e :: [] ∧
       e.state = .waiting ∧ e.body = .wake ∧
       after (.toneRecognised ⟨.line0, true⟩) (running x) (fun t => (t.line0.entries.map (·.state), t.line0.wake.masterTone)) =
         some ([.inFlight .waking], false)) ∧
    ({ live with state := .rest, detector := .armed } : Line).entries = [] := by decide +kernel

/-- A POLL and an OUTPUT slot whose frame waits while a LINE_CONFIG that names LINK reads its block, and a FETCH, which does not wait. -/
theorem witness_FramesBeginAfterTheGapAndEndIntact_link :
    (let e := entry (.lineConfig ⟨true, false, false, false⟩ false 0x1000 0 0) (.inFlight (.blockRead 0))
     let poll : Exchange := { order with claimant := .cycleEngine, cmds := 0 }
     let x : Line := { holding [e] with job := some ⟨.exchange poll, .gapWait 16⟩ }
     let y : Line := { holding [e] with job := some ⟨.data ⟨0, 17, [], .cycleEngine⟩, .gapWait 16⟩ }
     x.reception = none ∧ x.job = some ⟨.exchange poll, .gapWait 16⟩ ∧ poll.claimant = .cycleEngine ∧ e ∈ x.entries ∧
       e.state = .inFlight (.blockRead 0) ∧ e.body = .lineConfig ⟨true, false, false, false⟩ false 0x1000 0 0 ∧
       y.job = some ⟨.data ⟨0, 17, [], .cycleEngine⟩, .gapWait 16⟩) ∧
    ({ order with claimant := .collector } : Exchange).claimant ≠ .cycleEngine ∧ (holding []).entries = [] := by decide +kernel

/-- A slot whose frame waits as the block that names LINK arrives. -/
theorem witness_BlockReadInstallsTheNamedGroups_slot :
    (let e := entry (.lineConfig ⟨true, false, false, false⟩ false 0x1000 0 0) (.inFlight (.blockRead 0))
     let x : Line := { holding [e] with job := some ⟨.data ⟨0, 17, [], .cycleEngine⟩, .gapWait 16⟩ }
     (reading x (.parameters .line0) 24).findRead 0 = some ⟨0, .parameters .line0, 0x1000, 24⟩ ∧
       x.findEntry (fun e => e.isDoing (.blockRead 0)) = some (0, e) ∧ x.job = some ⟨.data ⟨0, 17, [], .cycleEngine⟩, .gapWait 16⟩ ∧
       (JobKind.data ⟨0, 17, [], .cycleEngine⟩).isSlot = true ∧ badParameter ⟨true, false, false, false⟩ (Params.default.toBlock.set 2 8) = none) := by
  decide +kernel

/-- A whole frame and a broken one that end within a recovery watch. -/
theorem witness_ReceptionStopsTimersAndCountsStrays_whole :
    (let x : Line := { watched with reception := some ⟨.other, fast⟩ }
     x.findEntry (fun e => e.isDoing .watching) = some (0, entry .lineRecover (.inFlight .watching)) ∧ x.reception = some ⟨.other, fast⟩) ∧
    endsWithCrc answer = true ∧ endsWithCrc garbled = true ∧ endsWithCrc ⟨framed [1, 12, 63, 0, 17, 0], false⟩ = true ∧
    checkReception ⟨framed [1, 12, 63, 0, 17, 0], false⟩ = .formatError ∧ endsWithCrc ⟨[0x55], false⟩ = false := by decide +kernel

/-- The DAT of an OUTPUT slot. -/
theorem witness_FramesBeginAfterTheGapAndEndIntact_slot :
    ({ sending with job := some ⟨.data ⟨0, 17, [], .cycleEngine⟩, .sending fast []⟩ } : Line).job =
      some ⟨.data ⟨0, 17, [], .cycleEngine⟩, .sending fast []⟩ := rfl

/-- A line that is OFF in RUNNING, one taken to OFF by a stop, one that transmits, one that is receiving, and one whose recovery watch runs. -/
theorem witness_ReceptionStopsTimersAndCountsStrays_watch :
    (let x : Line := { live with state := .off }
     ¬(x.state ≠ .off ∨ (running x).run = .stopping ∧ ((running x).context.lineSection .line0).enable = true) ∧
       ({ running x with run := .stopping } : State).run = .stopping ∧ ((running x).context.lineSection .line0).enable = true) ∧
    sending.transmitting = true ∧ ({ live with reception := some ⟨.other, fast⟩ } : Line).reception ≠ none ∧
    (watched.state ≠ .off ∧ watched.transmitting = false ∧ watched.reception = none ∧ watched.job = none ∧ watched.wake.phase ≠ .listen ∧
      watched.findEntry (fun e => e.isDoing .watching) = some (0, entry .lineRecover (.inFlight .watching))) ∧
    live.entries.all (fun e => !e.isDoing .watching) = true := by decide +kernel

/-- A busy count at the limit and one past it, a marked entry, and a device that is stopping. -/
theorem witness_AnswerCompletesTheExchangeRequest_outcomes :
    (let e : Entry := { entry (toStation 12) (.inFlight .onLine) with busyCount := 7, abortMark := true }
     let x := holding [e]
     x.findEntry (fun e => e.isDoing .onLine) = some (0, e) ∧ e.busyCount + 1 ≤ x.params.busyLimit ∧
       x.params.busyLimit < ({ e with busyCount := 8 } : Entry).busyCount + 1 ∧ e.abortMark = true ∧ (running x).run ≠ .stopping ∧
       (entry (toStation 12) (.inFlight .onLine)).abortMark = false) ∧
    ({ running live with run := .stopping } : State).run = .stopping ∧
    ((order.afterAttempt (.success true 17 [])).2 = some (.success true 17 []) ∧ (order.afterAttempt .timeout).2 = none) ∧
    (busy { order with claimant := .collector } .answering).state ≠ .off := by decide +kernel

/-- A QUIET that collides in RUNNING and in STOPPING, and the DAT of an OUTPUT slot that collides. -/
theorem witness_CollisionBelowTheLimitEndsTheTransmission_quiet :
    ((quietening .quiet1).job = some ⟨.quiet, .sending fast []⟩ ∧
      (quietening .quiet1).consecutiveCollisions + 1 < (quietening .quiet1).params.collisionLimit ∧ (running (quietening .quiet1)).run = .running ∧
      ({ running (quietening .quiet1) with run := .stopping } : State).run = .stopping ∧
      (quietening .quiet1).findEntry (fun e => e.isDoing .quiescing) = some (0, entry .rest (.inFlight .quiescing))) ∧
    (let x : Line := { sending with job := some ⟨.data ⟨0, 17, [], .cycleEngine⟩, .sending fast []⟩ }
     x.job = some ⟨.data ⟨0, 17, [], .cycleEngine⟩, .sending fast []⟩ ∧ x.consecutiveCollisions + 1 < x.params.collisionLimit) := by
  decide +kernel

/-- A running engine with the due list of its cycle, with and without a STOP that waits. -/
theorem witness_EntryToFaultedCutsTheLine_slots :
    overrunning.runs = true ∧ overrunning.due = dueSlots overrunning.cycle 1 overrunning.activeBank.slots ∧ overrunning.state = .inCycle ∧
    ({ overrunning with stopRequested := true } : Engine).stopRequested = true ∧
    (busy order .awaiting).entries.all (fun e => decide (e.state ≠ .parked) && !e.isDoing .stopWait) = true := by decide +kernel

/-- A slot that claims, and is granted with a LINE_CONFIG that names LINK reading its block too (R116, R129); a FETCH whose message fills a head with an unusable descriptor behind it. -/
theorem witness_ArbiterAlternatesAndFetchesRotate_outcome :
    (let e := entry (.lineConfig ⟨true, false, false, false⟩ false 0x1000 0 0) (.inFlight (.blockRead 0))
     let x : Line := { holding [e] with engine := { overrunning with pendingStart := false, stage := .claiming [] } }
     x.engine.pendingStart = false ∧ x.engine.state = .inCycle ∧ e ∈ x.entries ∧ x.choose = some .slot) ∧
    (let x : Line := { live with buffers := ⟨2, 2, 0, [⟨0x9000, 16, true⟩, ⟨0x9100, 15, false⟩], false, none⟩ }
     x.buffers.held = ⟨0x9000, 16, true⟩ :: [⟨0x9100, 15, false⟩] ∧ ((fetchOutcome .line0 62 (.success false 17 [1]) (running x)).line .line0).buffers.held = [] ∧
       ((fetchOutcome .line0 62 (.success false 17 [1]) (running x)).line .line0).collector.rotation = 1) := by decide +kernel

/-- A due slot of a DISABLED station, of an OFFLINE one outside its probe cycles, and slots that run with and
without output data. -/
theorem witness_CycleStartIsTaken_slots :
    (let x := ({ live with engine := overrunning } : Line).setStation 11 { Station.fresh with state := .disabled }
     x.engine.activeBank.slots[4 - 1]? = some (cell 11 1 0 ⟨39, 39, .ok, 1, 0, 0, 39⟩) ∧ (x.station 11).state = .disabled) ∧
    (let x := ({ live with engine := overrunning } : Line).setStation 11 { Station.fresh with state := .offline }
     (x.station 11).state = .offline ∧ x.params.rejoinInterval ≠ 0 ∧ ¬x.engine.cycle.toNat % x.params.rejoinInterval = 0) ∧
    ((live.station 11).state ≠ .disabled ∧ (live.station 11).state ≠ .offline ∧ (cell 11 1 0 .loaded).slot.outLength = 0 ∧
      ({ (cell 11 1 0 .loaded).slot with outLength := 240 } : Slot).outLength ≠ 0) := by decide +kernel

/-- An overrun with no bank COMMITTED; the last slot of a cycle, one with another behind it, with a start pending and without, and one that a STOP waits for. -/
theorem witness_OverrunsAndSlotEndsWriteStatuses_ends :
    (let g : Engine := { overrunning with bank1 := Bank.empty }
     g.pendingStart = true ∧ g.state = .inCycle ∧ g.inactiveBank.state ≠ .committed ∧ g.due = dueSlots g.cycle 1 g.activeBank.slots) ∧
    (overrunning.remaining = 4 :: [] ∧ 1 ≤ overrunning.cursor ∧ overrunning.stopRequested = false) ∧
    (({ overrunning with cursor := 1 } : Engine).remaining = 1 :: [2, 3, 4] ∧ overrunning.pendingStart = true ∧
      ({ overrunning with pendingStart := false } : Engine).pendingStart = false) ∧
    ({ overrunning with stopRequested := true } : Engine).stopRequested = true ∧
    (ExchangeEnd.busy, SlotResult.nakBusy) ∈ [(ExchangeEnd.busy, SlotResult.nakBusy)] := by decide +kernel

/-- A STOP on a HALTED engine, and a second STOP. -/
theorem witness_ScheduleControlActsAtIntake_stop :
    ({ overrunning with state := .halted } : Engine).state = .halted ∧
    (({ overrunning with stopRequested := true } : Engine).runs = true ∧ ({ overrunning with stopRequested := true } : Engine).stopRequested = true) ∧
    overrunning.due = dueSlots overrunning.cycle 1 overrunning.activeBank.slots ∧
    live.entries.all (fun p => decide (p.state ≠ .parked)) = true := by decide +kernel

/-- A stop at REST, in a quiesce time, and with an engine that waits for no slot. -/
theorem witness_EntryToStoppingTakesTheBlocksDown_wake :
    (let x : Line := { live with state := .rest, detector := .armed }
     (running x).run = .running ∧ x.state = .rest) ∧
    (quiescing.state = .quiescing ∧ quiescing.wake.phase = .quiesce) ∧
    overrunning.state ≠ .stopped ∧ after (.dctlEnableClear true true) (running { live with engine := overrunning })
      (fun t => t.line0.engine.state) = some .stopped := by decide +kernel

/-- A WAKE from 62, one from 63 and one from 0, and a device that is stopping. -/
theorem witness_ListenWindowIsDecidedByItsFirstFrame_source :
    checkReception ⟨framed [6, 63, 62, 0, 0, 0], false⟩ = .wellFormed ⟨.wake, 62, false, false, 0, []⟩ ∧
    checkReception ⟨framed [6, 63, 63, 0, 0, 0], false⟩ = .wellFormed ⟨.wake, 63, false, false, 0, []⟩ ∧
    checkReception ⟨framed [6, 63, 0, 0, 0, 0], false⟩ = .wellFormed ⟨.wake, 0, false, false, 0, []⟩ ∧
    ({ running windowStopped with run := .stopping } : State).run = .stopping := by decide +kernel

/-- A QUIET sent in STOPPING, with its REST in the list and without. -/
theorem witness_FramesBeginAfterTheGapAndEndIntact_stop :
    ((quietening .quiet1).job = some ⟨.quiet, .sending fast []⟩ ∧ ({ running (quietening .quiet1) with run := .stopping } : State).run = .stopping ∧
      (quietening .quiet1).findEntry (fun e => e.isDoing .quiescing) = some (0, entry .rest (.inFlight .quiescing))) ∧
    ({ quietening .quiet1 with entries := [] } : Line).entries = [] := by decide +kernel

/-- A WACK sent in STOPPING, and one after which the line is starved. -/
theorem witness_WackSentEndsTheWake_stop :
    ({ running closing with run := .stopping } : State).run = .stopping ∧
    (let x := ({ closing with entries := [] } : Line).setStation 33 { Station.fresh with attention := true }
     x.job = some ⟨.wack 0, .sending fast []⟩ ∧ x.state = .waking ∧
       (running x).starvation .line0 { x with state := .active } = [.bufferStarved .line0 1]) := by decide +kernel

/-- A collision that uses the budget up, and one that finds the stop mark set. -/
theorem witness_CollisionBelowTheLimitEndsTheTransmission_ends :
    (let y := busy { order with used := 2 } (.sending fast [])
     y.job = some ⟨.exchange { order with used := 2 }, .sending fast []⟩ ∧ y.consecutiveCollisions + 1 < y.params.collisionLimit ∧
       order.retryLimit + 1 ≤ 2 + 1) ∧
    (let y := busy { order with stopMark := true } (.sending fast [])
     y.job = some ⟨.exchange { order with stopMark := true }, .sending fast []⟩ ∧ order.used + 1 < order.retryLimit + 1) := by decide +kernel

/-- A FETCH that is cut at station 62, and a halting engine that switches with a SWITCH parked. -/
theorem witness_EntryToFaultedCutsTheLine_work :
    (let x := busy { order with claimant := .collector, station := 62 } .awaiting
     x.watchActs = true ∧ after (.stuckLine .line0 true) (running x) (fun t => t.line0.collector.rotation) = some 1) ∧
    (let x : Line := { busy order .awaiting with engine := overrunning, entries := [entry (.scheduleControl .switch) .parked] }
     x.watchActs = true ∧ x.engine.runs = true ∧ x.engine.inactiveBank.state = .committed ∧
       after (.stuckLine .line0 true) (running x) (fun t => (t.line0.entries, t.line0.completion.producer)) = some ([], 1)) := by decide +kernel

/-- A start that switches while a SWITCH is parked, from WAITING and in mid-cycle. -/
theorem witness_CycleStartIsTaken_parked :
    (let x : Line := { holding [entry (.scheduleControl .switch) .parked] with engine := startPending }
     x.engine.pendingStart = true ∧ x.engine.state = .waiting ∧ x.engine.inactiveBank.state = .committed ∧
       after (.lineGrant .line0) (running x) (fun t => (t.line0.entries, t.line0.completion.producer)) = some ([], 1)) ∧
    (overrunning.pendingStart = true ∧ overrunning.state = .inCycle ∧ overrunning.inactiveBank.state = .committed) := by decide +kernel

/-- A table whose second entry is the first that fails, and one that passes. -/
theorem witness_SlotTableReadLoadsTheBank_first :
    (match parseSlots 64 1 3 (slotRecord ++ slotRecord.set 3 3 ++ slotRecord.set 0 0) with
      | .error bad => bad == 2
      | .ok _ => false) = true ∧
    parseSlot slotRecord 64 = some ⟨.poll, 4, 7, 1, 0, 0, 2, 16, 8⟩ := by decide +kernel

/-- A line that is starved, one whose episode is in progress, and one that holds a head. -/
theorem witness_DescriptorReadHoldsTheDescriptor_starved :
    (let x := live.setStation 62 { Station.fresh with attention := true }
     (running x).run = .running ∧ x.state = .active ∧ x.params.attentionCollection = true ∧ x.attentionSet = [62] ∧ x.buffers.held = [] ∧
       x.buffers.fetch = none ∧ x.buffers.producer = x.buffers.consumer ∧ x.collector.starved = false) ∧
    ({ live with collector := ⟨false, 1, true⟩ } : Line).collector.starved = true ∧ (collecting 1).buffers.held ≠ [] := by decide +kernel

end Sys2Proof.Tests
end

section
/-! PROOFS. The line protocol: how an answering frame is classified and what an attempt does to its exchange. -/

namespace Sys2Proof.Machine

/-! ## The classification of a well-formed frame, kind by kind (R13) -/

theorem classifyAnswer_wake (x : Exchange) {f : Frame} (hk : f.kind = .wake) :
    classifyAnswer x (.wellFormed f) = .badFrame := by
  simp only [classifyAnswer, hk]

theorem classifyAnswer_rsp (x : Exchange) {f : Frame} (hk : f.kind = .rsp) :
    classifyAnswer x (.wellFormed f) =
      if f.src ≠ x.station then .badFrame else if f.seq ≠ x.seq then .badFrame else .success f.attn f.function f.payload := by
  simp only [classifyAnswer, hk]

theorem classifyAnswer_nak (x : Exchange) {f : Frame} {reason : Nat} (hk : f.kind = .nak reason) :
    classifyAnswer x (.wellFormed f) =
      if f.src ≠ x.station then .badFrame else if reason = 1 then .nakBusy else if reason = 2 then .nakRefused else .nakSeq := by
  simp only [classifyAnswer, hk]

/-- A frame from another station than the one addressed is a bad frame, whatever its kind. -/
theorem classifyAnswer_of_src_ne {x : Exchange} {f : Frame} (hsrc : f.src ≠ x.station) :
    classifyAnswer x (.wellFormed f) = .badFrame := by
  cases hk : f.kind with
  | wake => exact classifyAnswer_wake x hk
  | rsp => rw [classifyAnswer_rsp x hk, if_pos hsrc]
  | nak reason => rw [classifyAnswer_nak x hk, if_pos hsrc]

/-! ## The budget of an exchange (R14, R16, R17, R18) -/

/-- The attempt ends of the exchange `x` that use budget: those without an answer to act on, and NAK_SEQ from its second time on (R14, R16). -/
def Exchange.UsesBudget (x : Exchange) (a : AttemptEnd) : Prop :=
  a = .timeout ∨ a = .badFrame ∨ a = .collision ∨ a = .nakSeq ∧ x.nakSeqSeen = true

/-- What every attempt that uses budget does, in one equation: the last one ends the exchange, and an earlier one ends it by the stop mark only. -/
theorem Exchange.afterAttempt_of_usesBudget {x : Exchange} {a : AttemptEnd} (h : x.UsesBudget a) :
    x.afterAttempt a = ({ x with used := x.used + 1 },
      if x.retryLimit + 1 ≤ x.used + 1 then some (spentOutcome a) else if x.stopMark then some (.stopped a) else none) := by
  obtain rfl | rfl | rfl | ⟨rfl, hseen⟩ := h
  case inr.inr.inr => simp only [afterAttempt, hseen, if_true, spentOutcome]
  all_goals rfl

theorem Exchange.afterAttempt_of_last {x : Exchange} {a : AttemptEnd} (h : x.UsesBudget a) (hlast : x.retryLimit + 1 ≤ x.used + 1) :
    x.afterAttempt a = ({ x with used := x.used + 1 }, some (spentOutcome a)) := by
  rw [afterAttempt_of_usesBudget h, if_pos hlast]

theorem Exchange.afterAttempt_of_not_last {x : Exchange} {a : AttemptEnd} (h : x.UsesBudget a) (hlast : ¬x.retryLimit + 1 ≤ x.used + 1) :
    x.afterAttempt a = ({ x with used := x.used + 1 }, if x.stopMark then some (.stopped a) else none) := by
  rw [afterAttempt_of_usesBudget h, if_neg hlast]

/-- The first NAK_SEQ uses no budget: it sets RESYNC, and only the stop mark ends the exchange there (R16). -/
theorem Exchange.afterAttempt_first_nakSeq {x : Exchange} (hseen : x.nakSeqSeen = false) :
    x.afterAttempt .nakSeq =
      ({ x with resync := true, nakSeqSeen := true }, if x.stopMark then some (.stopped .nakSeq) else none) := by
  simp only [afterAttempt, hseen, Bool.false_eq_true, if_false]

/-- Settles O19: the classification by the kind of the frame, the budget by whether the attempt's end uses any and whether it is the last. -/
theorem attemptIsClassifiedAndUsesBudget : Obligations.AttemptIsClassifiedAndUsesBudget := by
  unfold Obligations.AttemptIsClassifiedAndUsesBudget
  refine ⟨fun x f => ⟨rfl, rfl, classifyAnswer_wake x, classifyAnswer_of_src_ne, ?staleRsp, ?success, ?nak⟩, fun x => ?budget⟩
  case staleRsp =>
    intro hk hseq
    rw [classifyAnswer_rsp x hk, if_pos hseq, ite_self]
  case success =>
    intro hk hsrc hseq
    rw [classifyAnswer_rsp x hk, if_neg (not_not_intro hsrc), if_neg (not_not_intro hseq)]
  case nak =>
    intro reason hk hsrc
    rw [classifyAnswer_nak x hk, if_neg (not_not_intro hsrc)]
  case budget =>
    have timeout : x.UsesBudget .timeout := .inl rfl
    have badFrame : x.UsesBudget .badFrame := .inr (.inl rfl)
    have collision : x.UsesBudget .collision := .inr (.inr (.inl rfl))
    have nakSeq (hseen : x.nakSeqSeen = true) : x.UsesBudget .nakSeq := .inr (.inr (.inr ⟨rfl, hseen⟩))
    refine ⟨fun _ _ _ => rfl, rfl, rfl, Exchange.afterAttempt_first_nakSeq,
      fun hseen hlast => Exchange.afterAttempt_of_last (nakSeq hseen) hlast,
      fun hseen hlast => Exchange.afterAttempt_of_not_last (nakSeq hseen) hlast, fun hlast => ?last, fun hlast a ha => ?goesOn⟩
    case last =>
      exact ⟨Exchange.afterAttempt_of_last timeout hlast, Exchange.afterAttempt_of_last badFrame hlast,
        Exchange.afterAttempt_of_last collision hlast⟩
    case goesOn =>
      refine Exchange.afterAttempt_of_not_last ?_ hlast
      obtain rfl | rfl | rfl := ha
      exacts [timeout, badFrame, collision]

end Sys2Proof.Machine
end

section
/-! PROOFS. Request intake: the candidate of the pending list, and the producer NOTIFYs of a line. -/

namespace Sys2Proof.Machine

/-! ## The first place at which a property holds -/

/-- `o` is the first place at which `p` holds, counted from `k`; `none` where `p` holds at no place. -/
def FirstPlace (p : Nat → Prop) (k : Nat) : Option Nat → Prop
  | none => ∀ i, ¬p i
  | some n => ∃ i, n = k + i ∧ p i ∧ ∀ j, j < i → ¬p j

theorem FirstPlace.of_zero {p : Nat → Prop} (k : Nat) (h : p 0) : FirstPlace p k (some k) :=
  ⟨0, rfl, h, fun _ hj => absurd hj (Nat.not_lt_zero _)⟩

theorem FirstPlace.of_succ {p : Nat → Prop} {k : Nat} {o : Option Nat} (hzero : ¬p 0)
    (h : FirstPlace (fun i => p (i + 1)) (k + 1) o) : FirstPlace p k o := by
  cases o with
  | none => exact fun i => Nat.casesOn i hzero h
  | some n =>
    obtain ⟨i, hn, hp, hbefore⟩ := h
    refine ⟨i + 1, by omega, hp, fun j hj => ?_⟩
    cases j with
    | zero => exact hzero
    | succ j => exact hbefore j (Nat.lt_of_succ_lt_succ hj)

theorem FirstPlace.eq_some_iff {p : Nat → Prop} {o : Option Nat} (h : FirstPlace p 0 o) (i : Nat) :
    o = some i ↔ p i ∧ ∀ j, j < i → ¬p j := by
  cases o with
  | none => exact iff_of_false nofun (fun hi => h i hi.1)
  | some n =>
    obtain ⟨m, rfl, hm, hbefore⟩ := h
    rw [Nat.zero_add, Option.some_inj]
    refine ⟨fun hmi => hmi ▸ ⟨hm, hbefore⟩, fun ⟨hi, hnone⟩ => ?_⟩
    exact Nat.le_antisymm (Nat.le_of_not_lt fun hlt => hbefore i hlt hi) (Nat.le_of_not_lt fun hlt => hnone m hlt hm)

theorem FirstPlace.eq_none_iff {p : Nat → Prop} {o : Option Nat} {k : Nat} (h : FirstPlace p k o) : o = none ↔ ∀ i, ¬p i := by
  cases o with
  | none => exact iff_of_true rfl h
  | some n =>
    obtain ⟨i, _, hi, _⟩ := h
    exact iff_of_false nofun (fun hnone => hnone i hi)

/-! ## Eligible entries and the candidate (R63) -/

/-- Place `i` of the list `es` holds an eligible entry (R63), when the stations `older` have traffic entries ahead of the list. -/
def EligibleBehind (older : List Nat) (es : List Entry) (i : Nat) : Prop :=
  ∃ e a, es[i]? = some e ∧ e.body.trafficStation = some a ∧ e.state = .waiting ∧ a ∉ older ∧
    ∀ j e', j < i → es[j]? = some e' → e'.body.trafficStation ≠ some a ∧ e'.body.isBarrier = false

theorem Body.trafficStation_of_isBarrier {b : Body} (h : b.isBarrier = true) : b.trafficStation = none := by
  cases b
  case exchange | send => cases h
  all_goals rfl

theorem not_eligibleBehind_nil (older : List Nat) (i : Nat) : ¬EligibleBehind older [] i := by
  rintro ⟨e, a, he, -⟩
  cases he

theorem eligibleBehind_cons_zero (older : List Nat) (e : Entry) (es : List Entry) :
    EligibleBehind older (e :: es) 0 ↔ ∃ a, e.body.trafficStation = some a ∧ e.state = .waiting ∧ a ∉ older := by
  simp [EligibleBehind]

/-- Behind an entry that is no barrier, the others are judged with its station among those ahead. -/
theorem eligibleBehind_cons_succ (older : List Nat) (e : Entry) (es : List Entry) (i : Nat) :
    EligibleBehind older (e :: es) (i + 1) ↔
      e.body.isBarrier = false ∧ EligibleBehind (e.body.trafficStation.toList ++ older) es i := by
  simp only [EligibleBehind, List.getElem?_cons_succ, List.mem_append, Option.mem_toList, not_or]
  constructor
  · rintro ⟨e₁, a, he₁, hst, hwait, hnew, hahead⟩
    obtain ⟨hne, hfree⟩ := hahead 0 e (Nat.succ_pos i) rfl
    exact ⟨hfree, e₁, a, he₁, hst, hwait, ⟨hne, hnew⟩, fun j e' hj => hahead (j + 1) e' (Nat.succ_lt_succ hj)⟩
  · rintro ⟨hfree, e₁, a, he₁, hst, hwait, ⟨hne, hnew⟩, hahead⟩
    refine ⟨e₁, a, he₁, hst, hwait, hnew, fun j e' hj he' => ?_⟩
    cases j with
    | zero => cases he'; exact ⟨hne, hfree⟩
    | succ j => exact hahead j e' (Nat.lt_of_succ_lt_succ hj) he'

/-- The scan of the list: a barrier ends it, an entry of another class is passed, a traffic entry is taken or leaves its station behind. -/
theorem candidateFrom_firstPlace (k : Nat) (older : List Nat) (es : List Entry) :
    FirstPlace (EligibleBehind older es) k (candidateFrom k older es) := by
  induction es generalizing k older with
  | nil => exact not_eligibleBehind_nil older
  | cons e es ih =>
    have pass (hhead : ¬EligibleBehind older (e :: es) 0) (hfree : e.body.isBarrier = false) :
        FirstPlace (EligibleBehind older (e :: es)) k (candidateFrom (k + 1) (e.body.trafficStation.toList ++ older) es) := by
      refine .of_succ hhead ?_
      simpa only [eligibleBehind_cons_succ, hfree, true_and] using ih (k + 1) (e.body.trafficStation.toList ++ older)
    rw [eligibleBehind_cons_zero] at pass
    cases hbar : e.body.isBarrier with
    | true =>
      simp only [candidateFrom, hbar, if_true]
      rintro (_ | i)
      · simp [eligibleBehind_cons_zero, Body.trafficStation_of_isBarrier hbar]
      · simp [eligibleBehind_cons_succ, hbar]
    | false =>
      cases hst : e.body.trafficStation with
      | none =>
        simp only [candidateFrom, hbar, hst, Bool.false_eq_true, if_false]
        simpa [hst] using pass (by simp [hst]) hbar
      | some a =>
        simp only [candidateFrom, hbar, hst, Bool.false_eq_true, if_false]
        split
        · next htake => exact .of_zero k ((eligibleBehind_cons_zero ..).mpr ⟨a, hst, htake⟩)
        · next hkeep => simpa [hst] using pass (by simpa [hst] using hkeep) hbar

/-- Settles O20: the scan finds the first eligible place of the list, with no station ahead of its first entry. -/
theorem candidateIsTheOldestEligibleEntry : Obligations.CandidateIsTheOldestEligibleEntry := by
  unfold Obligations.CandidateIsTheOldestEligibleEntry
  intro x
  have scan : FirstPlace (EligibleBehind [] x.entries) 0 x.candidate := candidateFrom_firstPlace 0 [] x.entries
  simpa only [EligibleBehind, List.not_mem_nil, not_false_eq_true, true_and] using And.intro scan.eq_some_iff scan.eq_none_iff

/-! ## In which run states a NOTIFY is acted on (R171) -/

theorem exec_notifyRequestProducer (l : LineId) (v : Half) (s : State) :
    exec (.notifyRequestProducer l v) s = .next (if s.run = .running then notifyRequest l v s else s) := by
  change execNotifyRequestProducer l v s = _
  unfold execNotifyRequestProducer
  cases s.run <;> rfl

theorem exec_notifyBufferProducer (l : LineId) (v : Half) (s : State) :
    exec (.notifyBufferProducer l v) s = .next (if s.run = .running then notifyBuffer l v s else s) := by
  change execNotifyBufferProducer l v s = _
  unfold execNotifyBufferProducer
  cases s.run <;> rfl

theorem exec_notifyRingId7 (v : Half) (s : State) :
    exec (.notifyRingId7 v) s = .next (if s.run = .running then raiseEvent (.notifyRejected none 7 v 0) s else s) := by
  change execNotifyRingId7 v s = _
  unfold execNotifyRingId7
  cases s.run <;> rfl

theorem exec_notifyCompletionConsumer (l : LineId) (v : Half) (s : State) :
    exec (.notifyCompletionConsumer l v) s =
      .next (if s.run = .running ∨ s.run = .stopping then notifyCompletion l v s else s) := by
  change execNotifyCompletionConsumer l v s = _
  unfold execNotifyCompletionConsumer
  cases s.run <;> rfl

theorem exec_notifyEventConsumer (v : Half) (s : State) :
    exec (.notifyEventConsumer v) s =
      .next (if s.run = .running ∨ s.run = .stopping then finishDrain (notifyEvent v s) else s) := by
  change execNotifyEventConsumer v s = _
  unfold execNotifyEventConsumer
  cases s.run <;> rfl

/-! ## The two limits of a producer NOTIFY (R57, R84) -/

theorem producerOk_iff (v held base : Half) (size : Nat) :
    producerOk v held base size = true ↔ (v - held).toNat ≤ size ∧ (v - base).toNat ≤ size - 1 := by
  simp [producerOk]

theorem notifyRequest_of_enabled {l : LineId} {s : State} (v : Half) (hen : (s.context.lineSection l).enable = true) :
    notifyRequest l v s =
      if (v - (s.line l).intake.producer).toNat ≤ (s.context.lineSection l).requestRing.size ∧
          (v - (s.line l).intake.consumer).toNat ≤ (s.context.lineSection l).requestRing.size - 1
      then s.updLine l (fun x => { x with intake := { x.intake with producer := v } })
      else raiseEvent (.notifyRejected (some l) (requestRingId l) v (s.line l).intake.producer) s := by
  simp only [notifyRequest, rejectNotify, hen, Bool.true_and, producerOk_iff, if_true]
  rfl

theorem notifyBuffer_of_enabled {l : LineId} {s : State} (v : Half) (hen : (s.context.lineSection l).enable = true) :
    notifyBuffer l v s =
      if (v - (s.line l).buffers.producer).toNat ≤ (s.context.lineSection l).bufferRing.size ∧
          (v - (s.line l).buffers.writeBack).toNat ≤ (s.context.lineSection l).bufferRing.size - 1
      then s.updLine l (fun x => { x with buffers := { x.buffers with producer := v } })
      else raiseEvent (.notifyRejected (some l) (bufferRingId l) v (s.line l).buffers.producer) s := by
  simp only [notifyBuffer, rejectNotify, hen, Bool.true_and, producerOk_iff, if_true]
  rfl

/-! ## A NOTIFY of a disabled line names held index 0 (R171) -/

section Disabled
variable {l : LineId} {s : State} (v : Half) (hdis : (s.context.lineSection l).enable = false)
include hdis

theorem notifyRequest_of_disabled : notifyRequest l v s = raiseEvent (.notifyRejected (some l) (requestRingId l) v 0) s := by
  simp [notifyRequest, rejectNotify, hdis]

theorem notifyBuffer_of_disabled : notifyBuffer l v s = raiseEvent (.notifyRejected (some l) (bufferRingId l) v 0) s := by
  simp [notifyBuffer, rejectNotify, hdis]

theorem notifyCompletion_of_disabled :
    notifyCompletion l v s = raiseEvent (.notifyRejected (some l) (completionRingId l) v 0) s := by
  simp [notifyCompletion, rejectNotify, hdis]

end Disabled

/-! ## An ERRORED ring is fetched from no more (R59, R86) -/

theorem exec_requestFetchIssue_of_errored {l : LineId} {s : State} (h : (s.line l).intake.errored = true) :
    exec (.requestFetchIssue l) s = .next s := by
  have hstay : s.mayFetchRequest l = false := by simp [State.mayFetchRequest, h]
  change execRequestFetchIssue l s = _
  simp [execRequestFetchIssue, hstay]

theorem exec_descriptorFetchIssue_of_errored {l : LineId} {s : State} (h : (s.line l).buffers.errored = true) :
    exec (.descriptorFetchIssue l) s = .next s := by
  have hstay : s.mayFetchDescriptor l = false := by simp [State.mayFetchDescriptor, h]
  change execDescriptorFetchIssue l s = _
  simp [execDescriptorFetchIssue, hstay]

/-- Settles O25: first by the run state, then by whether the line is enabled, then by the two limits. -/
theorem producerNotifyMeetsTwoLimits : Obligations.ProducerNotifyMeetsTwoLimits := by
  unfold Obligations.ProducerNotifyMeetsTwoLimits
  refine ⟨fun l v s hrun hen => ?enabled, fun l v s => ⟨fun hrun => ?ringId7, fun hrun hdis => ?disabledProducer,
    fun hrun hdis => ?disabledConsumer, fun hrun => ?discardedProducer, fun hrun hstop => ?discardedConsumer⟩⟩
  case enabled =>
    simp only [exec_notifyRequestProducer, exec_notifyBufferProducer, if_pos hrun, notifyRequest_of_enabled v hen,
      notifyBuffer_of_enabled v hen]
    exact ⟨fun hpass => by rw [if_pos hpass], fun hfail => by rw [if_neg hfail],
      fun hpass => by rw [if_pos hpass], fun hfail => by rw [if_neg hfail],
      exec_requestFetchIssue_of_errored, exec_descriptorFetchIssue_of_errored⟩
  case ringId7 =>
    rw [exec_notifyRingId7, if_pos hrun]
  case disabledProducer =>
    rw [exec_notifyRequestProducer, exec_notifyBufferProducer, if_pos hrun, if_pos hrun, notifyRequest_of_disabled v hdis,
      notifyBuffer_of_disabled v hdis]
    exact ⟨rfl, rfl⟩
  case disabledConsumer =>
    rw [exec_notifyCompletionConsumer, if_pos hrun, notifyCompletion_of_disabled v hdis]
  case discardedProducer =>
    simp only [exec_notifyRequestProducer, exec_notifyBufferProducer, exec_notifyRingId7, if_neg hrun, and_self]
  case discardedConsumer =>
    have hidle : ¬(s.run = .running ∨ s.run = .stopping) := not_or.mpr ⟨hrun, hstop⟩
    simp only [exec_notifyCompletionConsumer, exec_notifyEventConsumer, if_neg hidle, and_self]

end Sys2Proof.Machine
end

section
/-! PROOFS. Completions and events: the layout of the two records, what the completion writer does, and the three outcomes of a raised event. -/

namespace Sys2Proof.Machine

/-! ## Records as sequences of fields (R183) -/

/-- The octets of a record whose fields, in order, have these widths and values. -/
def layout : List (Nat × Nat) → List Byte
  | [] => []
  | (width, value) :: rest => leBytes width value ++ layout rest

/-- Offset, width and content of each field of a layout whose first field stands at offset `off`. -/
def wordsAt : Nat → List (Nat × Nat) → List (Nat × Nat × Nat)
  | _, [] => []
  | off, (width, value) :: rest => (off, width, value % 256 ^ width) :: wordsAt (off + width) rest

@[simp] theorem leBytes_length (k n : Nat) : (leBytes k n).length = k := by
  induction k generalizing n with
  | zero => rfl
  | succ k ih => simp [leBytes, ih]

/-- `k` octets hold a number modulo `256 ^ k`. -/
theorem leNat_leBytes (k n : Nat) : leNat (leBytes k n) = n % 256 ^ k := by
  induction k generalizing n with
  | zero => simp [leBytes, leNat, Nat.mod_one]
  | succ k ih =>
    have hlow : (byteOf n).toNat = n % 256 := BitVec.toNat_ofNat n 8
    rw [leBytes, leNat, ih, hlow, Nat.pow_succ', Nat.mod_mul]

/-- A field just behind `pre` is read back. -/
theorem field_append_leBytes (pre rest : List Byte) (k n : Nat) :
    field (pre ++ (leBytes k n ++ rest)) pre.length k = n % 256 ^ k := by
  have hread : (leBytes k n ++ rest).take k = leBytes k n := List.take_left' (leBytes_length k n)
  rw [field, List.drop_left, hread, leNat_leBytes]

/-- Every field of a layout is read back at its offset, whatever stands before the layout. -/
theorem field_of_mem_wordsAt (pre : List Byte) (fs : List (Nat × Nat)) :
    ∀ w, w ∈ wordsAt pre.length fs → field (pre ++ layout fs) w.1 w.2.1 = w.2.2 := by
  induction fs generalizing pre with
  | nil => exact fun w hw => absurd hw List.not_mem_nil
  | cons f fs ih =>
    obtain ⟨width, value⟩ := f
    rw [wordsAt, List.forall_mem_cons]
    refine ⟨field_append_leBytes pre (layout fs) width value, ?_⟩
    simpa [layout] using ih (pre ++ leBytes width value)

/-! ## Codes fit in their octet (spec/11) -/

theorem lineCode_lt (l : Option LineId) : lineCode l < 256 := by
  obtain _ | l := l
  · decide
  · cases l <;> decide

theorem healthCode_lt (h : Option Health) : healthCode h < 256 := by
  obtain _ | h := h
  · decide
  · cases h <;> decide

theorem statusCode_lt (st : Status) : statusCode st < 256 := by cases st <;> decide

theorem lineStateCode_lt (st : LineState) : lineStateCode st < 256 := by cases st <;> decide

theorem lineReasonCode_lt (r : LineReason) : lineReasonCode r < 256 := by cases r <;> decide

theorem healthCauseCode_lt (c : HealthCause) : healthCauseCode c < 256 := by cases c <;> decide

theorem attentionSourceCode_lt (src : AttentionSource) : attentionSourceCode src < 256 := by cases src <;> decide

theorem initiatorCode_lt (i : Initiator) : initiatorCode i < 256 := by cases i <;> decide

theorem bankCode_lt (b : BankId) : bankCode b < 4294967296 := by cases b <;> decide

theorem bitNat_pair_lt (a b : Bool) : bitNat a + 2 * bitNat b < 4 := by cases a <;> cases b <;> decide

/-! ## The completion record (spec/11, Completion record) -/

@[simp] theorem Completion.octets_length (c : Completion) (lap : Nat) : (c.octets lap).length = 16 := rfl

theorem Completion.octets_eq_layout (c : Completion) (lap : Nat) :
    c.octets lap = layout [(2, c.tag.toNat), (2, c.ringIndex.toNat), (1, c.kind.toNat), (1, statusCode c.status),
      (1, bitNat c.truncated + 2 * bitNat c.marked), (1, c.attempts), (2, c.detail), (1, healthCode c.station), (4, 0), (1, lap)] := by
  simp [octets, layout, leBytes, zeros, byteOf]

theorem Completion.kind_octet (c : Completion) (lap : Nat) : octetAt (c.octets lap) 4 = c.kind := rfl

/-- The two flags are the low bits of octet 6. -/
theorem Completion.flag_bits (c : Completion) (lap : Nat) :
    bitAt (c.octets lap) 6 0 = c.truncated ∧ bitAt (c.octets lap) 6 1 = c.marked := by
  have hoctet : octetAt (c.octets lap) 6 = byteOf (bitNat c.truncated + 2 * bitNat c.marked) := rfl
  rw [bitAt, bitAt, hoctet]
  cases c.truncated <;> cases c.marked <;> decide

theorem Completion.fields (c : Completion) (lap : Nat) :
    field (c.octets lap) 0 2 = c.tag.toNat ∧ field (c.octets lap) 2 2 = c.ringIndex.toNat ∧
      field (c.octets lap) 5 1 = statusCode c.status ∧ field (c.octets lap) 6 1 < 4 ∧ field (c.octets lap) 7 1 = c.attempts % 256 ∧
      field (c.octets lap) 8 2 = c.detail % 65536 ∧ field (c.octets lap) 10 1 = healthCode c.station ∧
      field (c.octets lap) 11 4 = 0 ∧ field (c.octets lap) 15 1 = lap % 256 := by
  have hread := field_of_mem_wordsAt [] [(2, c.tag.toNat), (2, c.ringIndex.toNat), (1, c.kind.toNat), (1, statusCode c.status),
    (1, bitNat c.truncated + 2 * bitNat c.marked), (1, c.attempts), (2, c.detail), (1, healthCode c.station), (4, 0), (1, lap)]
  rw [List.nil_append, ← c.octets_eq_layout lap] at hread
  simp only [wordsAt, List.length_nil, List.forall_mem_cons] at hread
  obtain ⟨htag, hindex, -, hstatus, hflags, hattempts, hdetail, hstation, hzero, hlap, -⟩ := hread
  refine ⟨htag.trans (Nat.mod_eq_of_lt c.tag.isLt), hindex.trans (Nat.mod_eq_of_lt c.ringIndex.isLt),
    hstatus.trans (Nat.mod_eq_of_lt (statusCode_lt _)), ?_, hattempts, hdetail,
    hstation.trans (Nat.mod_eq_of_lt (healthCode_lt _)), hzero, hlap⟩
  exact hflags.trans_lt ((Nat.mod_le _ _).trans_lt (bitNat_pair_lt _ _))

/-! ## The event record (spec/11, Event record) -/

/-- The event `e`, written with number `q` and this lap, has these header fields and these words, each given by offset, width and value. -/
def Event.Holds (e : Event) (q : Half) (lap kind line station : Nat) (words : List (Nat × Nat × Nat)) : Prop :=
  let d := e.octets q lap
  field d 0 1 = kind ∧ field d 1 1 = line ∧ field d 2 1 = station ∧ field d 3 1 = lap % 256 ∧ field d 4 2 = q.toNat ∧ field d 6 2 = 0 ∧
    ∀ w, w ∈ words → field d w.1 w.2.1 = w.2.2

@[simp] theorem Event.octets_length (e : Event) (q : Half) (lap : Nat) : (e.octets q lap).length = 16 := by
  cases e <;> rfl

/-- The layout of an event's detail words is the layout of its record from offset 8 on. -/
theorem Event.holds_of_fields {e : Event} {kind : Nat} {l : Option LineId} {station : Nat} {detail : List (Nat × Nat)} (q : Half) (lap : Nat)
    (h : e.fields = (kind, l, station, layout detail)) :
    e.Holds q lap (kind % 256) (lineCode l) (station % 256) (wordsAt 8 detail) := by
  have hlayout : e.octets q lap =
      layout ((1, kind) :: (1, lineCode l) :: (1, station) :: (1, lap) :: (2, q.toNat) :: (2, 0) :: detail) := by
    simp [octets, h, layout, leBytes, zeros, byteOf]
  have hread := field_of_mem_wordsAt []
    ((1, kind) :: (1, lineCode l) :: (1, station) :: (1, lap) :: (2, q.toNat) :: (2, 0) :: detail)
  rw [List.nil_append, ← hlayout] at hread
  simp only [wordsAt, List.length_nil, List.forall_mem_cons] at hread
  obtain ⟨hkind, hline, hstation, hlap, hnumber, hzero, hdetail⟩ := hread
  exact ⟨hkind, hline.trans (Nat.mod_eq_of_lt (lineCode_lt l)), hstation, hlap, hnumber.trans (Nat.mod_eq_of_lt q.isLt), hzero, hdetail⟩

section EventKinds
variable (q : Half) (lap : Nat) (l : LineId) (a n m : Nat) (cycle : Word) (i j : Half)

theorem Event.stationState_holds (old new : Health) (cause : HealthCause) :
    (Event.stationState l a old new n cause).Holds q lap 1 (lineCode (some l)) (a % 256)
      [(8, 1, healthCode (some old)), (9, 1, healthCode (some new)), (10, 1, n % 256), (11, 1, healthCauseCode cause), (12, 4, 0)] := by
  simpa [wordsAt, Nat.mod_eq_of_lt, healthCode_lt, healthCauseCode_lt] using
    holds_of_fields (e := .stationState l a old new n cause) q lap (detail :=
      [(1, healthCode (some old)), (1, healthCode (some new)), (1, n), (1, healthCauseCode cause), (4, 0)]) rfl

theorem Event.attention_holds (src : AttentionSource) (st : Health) :
    (Event.attention l a src st).Holds q lap 2 (lineCode (some l)) (a % 256)
      [(8, 1, attentionSourceCode src), (9, 1, healthCode (some st)), (10, 4, 0), (14, 2, 0)] := by
  simpa [wordsAt, Nat.mod_eq_of_lt, healthCode_lt, attentionSourceCode_lt] using
    holds_of_fields (e := .attention l a src st) q lap (detail :=
      [(1, attentionSourceCode src), (1, healthCode (some st)), (4, 0), (2, 0)]) rfl

theorem Event.wake_holds (who : Initiator) (roll odd : Bool) :
    (Event.wake l a who roll odd n).Holds q lap 3 (lineCode (some l)) (a % 256)
      [(8, 1, initiatorCode who), (9, 1, bitNat roll + 2 * bitNat odd), (10, 1, n % 256), (11, 4, 0), (15, 1, 0)] := by
  have hflags : (bitNat roll + 2 * bitNat odd) % 256 = bitNat roll + 2 * bitNat odd :=
    Nat.mod_eq_of_lt ((bitNat_pair_lt roll odd).trans (by decide))
  simpa [wordsAt, Nat.mod_eq_of_lt, initiatorCode_lt, hflags] using
    holds_of_fields (e := .wake l a who roll odd n) q lap (detail :=
      [(1, initiatorCode who), (1, bitNat roll + 2 * bitNat odd), (1, n), (4, 0), (1, 0)]) rfl

theorem Event.lineState_holds (old new : LineState) (why : LineReason) :
    (Event.lineState l old new why).Holds q lap 4 (lineCode (some l)) 0
      [(8, 1, lineStateCode old), (9, 1, lineStateCode new), (10, 1, lineReasonCode why), (11, 4, 0), (15, 1, 0)] := by
  simpa [wordsAt, Nat.mod_eq_of_lt, lineStateCode_lt, lineReasonCode_lt] using
    holds_of_fields (e := .lineState l old new why) q lap (detail :=
      [(1, lineStateCode old), (1, lineStateCode new), (1, lineReasonCode why), (4, 0), (1, 0)]) rfl

theorem Event.cycleOverrun_holds :
    (Event.cycleOverrun l cycle n).Holds q lap 5 (lineCode (some l)) 0 [(8, 4, cycle.toNat), (12, 4, n % 4294967296)] := by
  simpa [wordsAt, Nat.mod_eq_of_lt, cycle.isLt] using
    holds_of_fields (e := .cycleOverrun l cycle n) q lap (detail := [(4, cycle.toNat), (4, n)]) rfl

theorem Event.scheduleSwitched_holds (bank : BankId) :
    (Event.scheduleSwitched l cycle bank).Holds q lap 6 (lineCode (some l)) 0 [(8, 4, cycle.toNat), (12, 4, bankCode bank)] := by
  simpa [wordsAt, Nat.mod_eq_of_lt, cycle.isLt, bankCode_lt] using
    holds_of_fields (e := .scheduleSwitched l cycle bank) q lap (detail := [(4, cycle.toNat), (4, bankCode bank)]) rfl

theorem Event.cycleHalted_holds :
    (Event.cycleHalted l cycle n).Holds q lap 7 (lineCode (some l)) 0 [(8, 4, cycle.toNat), (12, 4, n % 4294967296)] := by
  simpa [wordsAt, Nat.mod_eq_of_lt, cycle.isLt] using
    holds_of_fields (e := .cycleHalted l cycle n) q lap (detail := [(4, cycle.toNat), (4, n)]) rfl

theorem Event.ringError_holds :
    (Event.ringError l m i).Holds q lap 8 (lineCode (some l)) 0 [(8, 4, m % 4294967296), (12, 2, i.toNat), (14, 2, 0)] := by
  simpa [wordsAt, Nat.mod_eq_of_lt, i.isLt] using
    holds_of_fields (e := .ringError l m i) q lap (detail := [(4, m), (2, i.toNat), (2, 0)]) rfl

theorem Event.notifyRejected_holds (k : Option LineId) :
    (Event.notifyRejected k m i j).Holds q lap 9 (lineCode k) 0 [(8, 4, m % 4294967296), (12, 2, i.toNat), (14, 2, j.toNat)] := by
  simpa [wordsAt, Nat.mod_eq_of_lt, i.isLt, j.isLt] using
    holds_of_fields (e := .notifyRejected k m i j) q lap (detail := [(4, m), (2, i.toNat), (2, j.toNat)]) rfl

theorem Event.bufferStarved_holds :
    (Event.bufferStarved l n).Holds q lap 10 (lineCode (some l)) 0 [(8, 4, n % 4294967296), (12, 4, 0)] := by
  simpa [wordsAt] using holds_of_fields (e := .bufferStarved l n) q lap (detail := [(4, n), (4, 0)]) rfl

theorem Event.eventLoss_holds :
    (Event.eventLoss n i).Holds q lap 11 255 0 [(8, 4, n % 4294967296), (12, 2, i.toNat), (14, 2, 0)] := by
  simpa [wordsAt, Nat.mod_eq_of_lt, i.isLt, lineCode] using
    holds_of_fields (e := .eventLoss n i) q lap (detail := [(4, n), (2, i.toNat), (2, 0)]) rfl

end EventKinds

/-! ## Counting a record (R96) -/

@[simp] theorem State.issueInterrupt_vector (s : State) (v w : VectorId) : (s.issueInterrupt v).vector w = s.vector w := by
  unfold issueInterrupt
  split
  · split
    · rfl
    · exact s.issue_vector _ w
  · exact s.issue_vector _ w

/-- Raising a vector keeps its unreported count. -/
@[simp] theorem raiseVector_unreported (v : VectorId) (s : State) :
    ((raiseVector v s).vector v).unreported = (s.vector v).unreported := by
  simp [raiseVector]

theorem raiseVector_vector_ne {v w : VectorId} (s : State) (h : w ≠ v) : (raiseVector v s).vector w = s.vector w := by
  rw [raiseVector, State.setVector_vector_ne _ _ h, State.issueInterrupt_vector]

/-- A counted record adds 1 to the unreported count, which saturates at 255, whether or not the vector is raised. -/
theorem countRecord_unreported (v : VectorId) (s : State) :
    ((countRecord v s).vector v).unreported = min 255 ((s.vector v).unreported + 1) := by
  unfold countRecord
  dsimp only
  split
  · rw [State.setVector_vector_same]
  · split
    · rw [raiseVector_unreported, State.setVector_vector_same]
    · rw [State.setVector_vector_same]

theorem countRecord_vector_ne {v w : VectorId} (s : State) (h : w ≠ v) : (countRecord v s).vector w = s.vector w := by
  unfold countRecord
  dsimp only
  split
  · exact s.setVector_vector_ne _ h
  · split
    · rw [raiseVector_vector_ne _ h, s.setVector_vector_ne _ h]
    · exact s.setVector_vector_ne _ h

/-! ## What reports leave -/

theorem State.Reports.run_eq {s t : State} (h : s.Reports t) : t.run = s.run := by rw [h.rest]

theorem State.Reports.reads_eq {s t : State} (h : s.Reports t) : t.reads = s.reads := by rw [h.rest]

theorem State.Reports.context_eq {s t : State} (h : s.Reports t) : t.context = s.context := by rw [h.rest]

/-! ## The completion writer (R80) -/

/-- The state a completion has reached when its record is written and the producer index advanced, and only the count is missing. -/
def State.completionWritten (s : State) (l : LineId) (c : Completion) : State :=
  (s.issue (s.completionWrite l c)).updLine l
    (fun x => { x with completion := { x.completion with producer := x.completion.producer + 1 } })

theorem complete_eq_countRecord (l : LineId) (c : Completion) (s : State) :
    complete l c s = countRecord (lineVector l) (s.completionWritten l c) := by
  cases l <;> rfl

/-- Behind the write of its record, a completion only reports. -/
theorem completionWritten_reports_complete (l : LineId) (c : Completion) (s : State) :
    (s.completionWritten l c).Reports (complete l c s) := by
  rw [complete_eq_countRecord]
  exact countRecord_reports _ _

theorem complete_line (l : LineId) (c : Completion) (s : State) :
    (complete l c s).line l =
      { s.line l with completion := { (s.line l).completion with producer := (s.line l).completion.producer + 1 } } := by
  rw [(completionWritten_reports_complete l c s).line l]
  simp [State.completionWritten]

theorem complete_port (l : LineId) (c : Completion) (s : State) : (s.port ++ [s.completionWrite l c]) <+: (complete l c s).port := by
  simpa [State.completionWritten] using (completionWritten_reports_complete l c s).port

@[simp] theorem complete_events (l : LineId) (c : Completion) (s : State) : (complete l c s).events = s.events := by
  simp [complete_eq_countRecord, State.completionWritten]

theorem complete_unreported (l : LineId) (c : Completion) (s : State) :
    ((complete l c s).vector (lineVector l)).unreported = min 255 ((s.vector (lineVector l)).unreported + 1) := by
  rw [complete_eq_countRecord, countRecord_unreported]
  simp [State.completionWritten]

theorem complete_vector_ne {v : VectorId} (l : LineId) (c : Completion) (s : State) (h : v ≠ lineVector l) :
    (complete l c s).vector v = s.vector v := by
  rw [complete_eq_countRecord, countRecord_vector_ne _ h]
  simp [State.completionWritten]

theorem complete_rest (l : LineId) (c : Completion) (s : State) :
    (complete l c s).run = s.run ∧ (complete l c s).reads = s.reads ∧ (complete l c s).context = s.context := by
  have h := completionWritten_reports_complete l c s
  rw [h.run_eq, h.reads_eq, h.context_eq]
  simp [State.completionWritten]

/-! ## An entry that completes (R62, R77) -/

/-- The record of a finished entry is written where it would be if the entry were still in the list. -/
theorem State.completionWrite_updLine_entries (s : State) (l : LineId) (f : List Entry → List Entry) (c : Completion) :
    (s.updLine l (fun x => { x with entries := f x.entries })).completionWrite l c = s.completionWrite l c := by
  simp [completionWrite]

/-- A finished entry completes with the station state of the list it leaves. -/
theorem finishEntry_eq_complete (l : LineId) (i : Nat) (e : Entry) (how : Ending) (s : State) :
    finishEntry l i e how s =
      complete l (e.completion (s.line l) how) (s.updLine l (fun x => { x with entries := x.entries.eraseIdx i })) := by
  rw [finishEntry, completeEntry, State.updLine_line_same]
  rfl

theorem finishEntry_line (l : LineId) (i : Nat) (e : Entry) (how : Ending) (s : State) :
    (finishEntry l i e how s).line l = (s.line l).afterCompletion i := by
  rw [finishEntry_eq_complete, complete_line, State.updLine_line_same]
  rfl

theorem finishEntry_port (l : LineId) (i : Nat) (e : Entry) (how : Ending) (s : State) :
    (s.port ++ [s.completionWrite l (e.completion (s.line l) how)]) <+: (finishEntry l i e how s).port := by
  have h := complete_port l (e.completion (s.line l) how) (s.updLine l (fun x => { x with entries := x.entries.eraseIdx i }))
  rwa [State.updLine_port, s.completionWrite_updLine_entries l (fun es => es.eraseIdx i), ← finishEntry_eq_complete] at h

theorem finishEntry_events (l : LineId) (i : Nat) (e : Entry) (how : Ending) (s : State) :
    (finishEntry l i e how s).events = s.events := by
  rw [finishEntry_eq_complete, complete_events, State.updLine_events]

/-- Settles O13: the writer by its count at the end, the entry by its completion, the record by its layout. -/
theorem completionWritesOneRecord : Obligations.CompletionWritesOneRecord := by
  unfold Obligations.CompletionWritesOneRecord
  refine ⟨fun l c s => ?writer, fun l i e how s he => ?entry, fun c lap => ?record, rfl, rfl⟩
  case writer =>
    obtain ⟨hrun, hreads, hcontext⟩ := complete_rest l c s
    exact ⟨rfl, c.octets_length, complete_port l c s, complete_line l c s, complete_unreported l c s,
      fun v hv => complete_vector_ne l c s hv, (complete_touches l c s).other, complete_events l c s, hrun, hreads, hcontext⟩
  case entry =>
    obtain ⟨hlt, -⟩ := List.getElem?_eq_some_iff.mp he
    have hline := finishEntry_line l i e how s
    refine ⟨hline, ?_, finishEntry_port l i e how s, (finishEntry_touches l i e how s).other, finishEntry_events l i e how s⟩
    rw [hline, Line.afterCompletion, List.length_eraseIdx_add_one hlt]
  case record =>
    obtain ⟨htag, hindex, hstatus, hflags, hattempts, hdetail, hstation, hzero, hlap⟩ := c.fields lap
    obtain ⟨htruncated, hmarked⟩ := c.flag_bits lap
    exact ⟨htag, hindex, c.kind_octet lap, hstatus, htruncated, hmarked, hflags, hattempts, hdetail, hstation, hzero, hlap⟩

/-! ## The three outcomes of a raised event (R90) -/

/-- An event raised now is written at once: none waits in the backlog, none was lost, and the ring has a free entry (R89, R90). -/
def State.WritesAtOnce (s : State) : Prop :=
  s.events.backlog = [] ∧ s.events.lossCount = 0 ∧ (s.events.producer - s.events.consumer).toNat < s.context.eventRing.size - 1

theorem State.writesAtOnce_iff (s : State) :
    s.WritesAtOnce ↔ s.events.backlog = [] ∧ s.events.lossCount = 0 ∧ s.eventRoom = true := by
  rw [WritesAtOnce, eventRoom, decide_eq_true_iff]

/-- The state in which the next sequence number has been taken, and nothing else has happened. -/
def State.numberTaken (s : State) : State := { s with events := { s.events with sequence := s.events.sequence + 1 } }

theorem raiseEvent_of_writesAtOnce (e : Event) {s : State} (h : s.WritesAtOnce) :
    raiseEvent e s = writeEvent s.events.sequence e s.numberTaken :=
  if_pos (s.writesAtOnce_iff.mp h)

theorem raiseEvent_of_room (e : Event) {s : State} (h : ¬s.WritesAtOnce) (hroom : s.events.backlog.length < 16) :
    raiseEvent e s = { s with events :=
      { s.events with sequence := s.events.sequence + 1, backlog := s.events.backlog ++ [(s.events.sequence, e)] } } :=
  (if_neg (mt s.writesAtOnce_iff.mpr h)).trans (if_pos hroom)

theorem raiseEvent_of_full (e : Event) {s : State} (h : ¬s.WritesAtOnce) (hfull : 16 ≤ s.events.backlog.length) :
    raiseEvent e s = { s with events :=
      { s.events with
        sequence := s.events.sequence + 1
        lossCount := min 65535 (s.events.lossCount + 1)
        firstLost := if s.events.lossCount = 0 then some s.events.sequence else s.events.firstLost } } :=
  (if_neg (mt s.writesAtOnce_iff.mpr h)).trans (if_neg (Nat.not_lt.mpr hfull))

/-! ## The write of an event record (R90) -/

/-- The state a written event has reached when its record is written and the producer index advanced, and only the count is missing. -/
def State.eventWritten (s : State) (q : Half) (e : Event) : State :=
  { s.issue (s.eventWrite e q) with events := { s.events with producer := s.events.producer + 1 } }

theorem writeEvent_eq_countRecord (q : Half) (e : Event) (s : State) : writeEvent q e s = countRecord .vector0 (s.eventWritten q e) := rfl

theorem writeEvent_port (q : Half) (e : Event) (s : State) : (s.port ++ [s.eventWrite e q]) <+: (writeEvent q e s).port :=
  (countRecord_reports .vector0 (s.eventWritten q e)).port

theorem writeEvent_unreported (q : Half) (e : Event) (s : State) :
    ((writeEvent q e s).vector .vector0).unreported = min 255 ((s.vector .vector0).unreported + 1) :=
  countRecord_unreported .vector0 (s.eventWritten q e)

theorem writeEvent_vector_ne (q : Half) (e : Event) (s : State) {v : VectorId} (h : v ≠ .vector0) :
    (writeEvent q e s).vector v = s.vector v := by
  rw [writeEvent_eq_countRecord, countRecord_vector_ne _ h]
  cases v <;> rfl

/-- Settles O15: the outcome by whether the event is written at once and whether the backlog has room, the record kind by kind. -/
theorem raisedEventIsWrittenBackloggedOrDropped : Obligations.RaisedEventIsWrittenBackloggedOrDropped := by
  unfold Obligations.RaisedEventIsWrittenBackloggedOrDropped
  refine ⟨fun e s => ⟨e.octets_length, fun h => ?atOnce, fun h hroom => raiseEvent_of_room e h hroom,
    fun h hfull => raiseEvent_of_full e h hfull⟩, fun q lap l a n m cycle i j => ?record, rfl, rfl, rfl, rfl, rfl, rfl, rfl⟩
  case atOnce =>
    have hreports := raiseEvent_reports e s
    have hraise := raiseEvent_of_writesAtOnce e h
    have hvector (v : VectorId) (hv : v ≠ .vector0) : (raiseEvent e s).vector v = s.vector v := by
      rw [hraise, writeEvent_vector_ne _ _ _ hv]
      cases v <;> rfl
    refine ⟨?events, ?port, ?count, hreports.line .line0, hreports.line .line1, hvector .vector1 nofun, hvector .vector2 nofun, hreports.run_eq⟩
    case events =>
      rw [hraise, writeEvent_events]
      rfl
    case port =>
      rw [hraise]
      exact writeEvent_port s.events.sequence e s.numberTaken
    case count =>
      rw [hraise]
      exact writeEvent_unreported s.events.sequence e s.numberTaken
  case record =>
    exact ⟨Event.stationState_holds q lap l a n, Event.attention_holds q lap l a, Event.wake_holds q lap l a n, Event.lineState_holds q lap l,
      Event.cycleOverrun_holds q lap l n cycle, Event.scheduleSwitched_holds q lap l cycle, Event.cycleHalted_holds q lap l n cycle,
      Event.ringError_holds q lap l m i, Event.notifyRejected_holds q lap m i j, Event.bufferStarved_holds q lap l n,
      Event.eventLoss_holds q lap n i⟩

end Sys2Proof.Machine
end

section
/-! PROOFS. The cyclic schedule: what a start event does to the line, and which commands raise one. -/

namespace Sys2Proof.Machine

/-! ## The start event on the line (R111) -/

/-- The line after a start event: the pending-start flag is set, or the start is merged into the pending one. -/
def Line.started (x : Line) : Line :=
  if x.engine.pendingStart then { x with engine := { x.engine with mergedStarts := x.engine.mergedStarts + 1 } }
  else { x with engine := { x.engine with pendingStart := true, startLate := x.job.isSome } }

theorem startEvent_eq_updLine (l : LineId) (s : State) : startEvent l s = s.updLine l Line.started := by
  rw [State.updLine, Line.started]
  exact (apply_ite (s.setLine l) _ _ _).symm

theorem Engine.runs_iff (g : Engine) : g.runs = true ↔ g.state = .waiting ∨ g.state = .inCycle := by
  unfold Engine.runs
  cases g.state <;> decide

theorem Engine.not_runs {g : Engine} (h : g.state = .stopped ∨ g.state = .halted) : ¬g.runs = true := by
  rw [g.runs_iff]
  rintro (hrun | hrun) <;> simp [hrun] at h

/-- A start event changes the engine alone, and a completion reads nothing of the engine (R77). -/
theorem Entry.completion_started (e : Entry) (x : Line) (how : Ending) : e.completion x.started how = e.completion x how := by
  unfold Line.started
  split <;> rfl

/-! ## The three sources of start events (R110, R111) -/

theorem exec_syncRisingEdge (l : LineId) (s : State) :
    exec (.syncRisingEdge l) s =
      .next (if (s.line l).engine.runs = true ∧ (s.line l).engine.source = some .sync then s.updLine l Line.started else s) := by
  rw [← startEvent_eq_updLine]
  exact (apply_ite Host.Outcome.next _ _ _).symm

theorem exec_cycleTimerExpiry_of_timer {l : LineId} {s : State} {period n : Nat} (hruns : (s.line l).engine.runs = true)
    (hsource : (s.line l).engine.source = some (.timer period)) (htimer : (s.line l).engine.timer = some n) :
    exec (.cycleTimerExpiry l) s = .next (s.updLine l (fun x =>
      { x.started with engine := { x.started.engine with timer := some period } })) := by
  change execCycleTimerExpiry l s = _
  simp only [execCycleTimerExpiry, hsource, htimer, if_pos hruns, startEvent_eq_updLine, updEngine, State.updLine_updLine]

theorem exec_cycleTimerExpiry_of_not_runs {l : LineId} {s : State} (h : ¬(s.line l).engine.runs = true) :
    exec (.cycleTimerExpiry l) s = .next s := by
  change execCycleTimerExpiry l s = _
  unfold execCycleTimerExpiry
  dsimp only
  split
  · exact if_neg h
  · rfl

section Trigger

variable {l : LineId} {e : Entry} {s : State} (hbody : e.body = .scheduleControl .trigger)
include hbody

theorem actSchedule_trigger : actSchedule l e s = actTrigger l e s := by
  rw [actSchedule, hbody]

theorem actSchedule_trigger_accepted (hruns : (s.line l).engine.runs = true) (hsource : (s.line l).engine.source = some .manual) :
    actSchedule l e s = complete l (e.completion (s.line l) ⟨.ok, 0, false, false⟩) (s.updLine l Line.started) := by
  have hok : actTrigger l e s = endSchedule l e .ok (startEvent l s) := by simp [actTrigger, hruns, hsource]
  rw [actSchedule_trigger hbody, hok, endSchedule, completeEntry, startEvent_eq_updLine, State.updLine_line_same,
    Entry.completion_started]

theorem actSchedule_trigger_refused (h : ¬((s.line l).engine.runs = true ∧ (s.line l).engine.source = some .manual)) :
    actSchedule l e s = complete l (e.completion (s.line l) ⟨.badRequest, 0, false, false⟩) s := by
  rw [actSchedule_trigger hbody, actTrigger, if_neg (by simpa using h), endSchedule, completeEntry]

end Trigger

/-- Settles O59: by whether the engine runs, and then source by source. -/
theorem startEventSetsOrMerges : Obligations.StartEventSetsOrMerges := by
  unfold Obligations.StartEventSetsOrMerges
  intro l e period n s
  refine ⟨fun hstate => ?runs, fun hstate => ?idle⟩
  case runs =>
    have hruns : (s.line l).engine.runs = true := (s.line l).engine.runs_iff.mpr hstate
    refine ⟨exec_cycleTimerExpiry_of_timer hruns, fun hsync => ?edge, fun hother => ?strayEdge,
      fun hbody => actSchedule_trigger_accepted hbody hruns, fun hbody hother => ?refused⟩
    case edge =>
      rw [exec_syncRisingEdge, if_pos ⟨hruns, hsync⟩]
      rfl
    case strayEdge =>
      rw [exec_syncRisingEdge, if_neg fun h => hother h.2]
    case refused =>
      exact actSchedule_trigger_refused hbody fun h => hother h.2
  case idle =>
    have hidle : ¬(s.line l).engine.runs = true := Engine.not_runs hstate
    refine ⟨exec_cycleTimerExpiry_of_not_runs hidle, ?edge, fun hbody => ?trigger⟩
    case edge =>
      rw [exec_syncRisingEdge, if_neg fun h => hidle h.1]
    case trigger =>
      exact actSchedule_trigger_refused hbody fun h => hidle h.1

end Sys2Proof.Machine
end

section
/-! PROOFS. What an operation may do to its line: the licence of a command, the laws every operation keeps, and the books of a line. -/

set_option Elab.async false

namespace Sys2Proof.Machine

/-! ## The licence of a command -/

/-- What a command may do to its line beyond what every operation may: change what is in flight and the wake sequence (`control`), toggle the SEQ bit of a
station (`answers`, R40), or leave the bank `bank` active no longer without stopping the engine (`starts`, R124). -/
structure Licence where
  control : Prop
  answers : Nat → Prop
  bank : BankId
  starts : Prop

/-- The licence of an operation that leaves the line controller, every SEQ bit and the active bank `b` alone. -/
def Licence.none (b : BankId) : Licence := ⟨False, fun _ => False, b, False⟩

/-- The active bank is the licensed one, or a cycle start is taken. -/
def Licence.OnBank (lic : Licence) (g : Engine) : Prop := g.active = lic.bank ∨ lic.starts

/-- The active bank is the licensed one, unless the engine is STOPPED or HALTED, or a cycle start is taken (R124). -/
def Licence.AtBank (lic : Licence) (g : Engine) : Prop := lic.OnBank g ∨ g.state = .stopped ∨ g.state = .halted

/-- What the line controller and the wake sequence hold is the same on both lines. -/
structure Line.SameControl (x y : Line) : Prop where
  state : y.state = x.state
  job : y.job = x.job
  reception : y.reception = x.reception
  detector : y.detector = x.detector
  wake : y.wake = x.wake

theorem Line.SameControl.refl (x : Line) : x.SameControl x := ⟨rfl, rfl, rfl, rfl, rfl⟩

theorem Line.SameControl.trans {x y z : Line} (h : x.SameControl y) (k : y.SameControl z) : x.SameControl z :=
  ⟨k.state.trans h.state, k.job.trans h.job, k.reception.trans h.reception, k.detector.trans h.detector, k.wake.trans h.wake⟩

/-- The parameters lie in their ranges and the station table agrees with them (R24, R41). -/
def Line.TableLaw (x : Line) : Prop := x.params.InRange ∧ x.StationLaw

/-- From `x` to `y` the laws of the buffer unit and the station table are kept, and nothing happens without a licence. -/
structure Line.Sound (lic : Licence) (x y : Line) : Prop where
  control : x.SameControl y ∨ lic.control
  buffers : x.buffers.Law → y.buffers.Law
  table : x.TableLaw → y.TableLaw
  seq : ∀ a, (y.station a).seq = (x.station a).seq ∨ lic.answers a
  bank : lic.AtBank x.engine → lic.AtBank y.engine

theorem Line.Sound.refl (lic : Licence) (x : Line) : x.Sound lic x :=
  ⟨.inl (.refl x), id, id, fun _ => .inl rfl, id⟩

theorem Line.Sound.trans {lic : Licence} {x y z : Line} (h : x.Sound lic y) (k : y.Sound lic z) : x.Sound lic z where
  control := by
    obtain hsame | hc := h.control
    · exact k.control.imp_left hsame.trans
    · exact .inr hc
  buffers := k.buffers ∘ h.buffers
  table := k.table ∘ h.table
  seq a := by
    obtain hsame | ha := h.seq a
    · exact (k.seq a).imp_left fun heq => heq.trans hsame
    · exact .inr ha
  bank := k.bank ∘ h.bank

/-! ## The books of a line (R58) -/

/-- The records a line's completion ring has room for, as the line accounts for them: credit, entries, records held by intake, records unreleased (R58). -/
def Line.booked (x : Line) : Nat := x.completion.credit + x.entries.length + x.intake.owed + x.completion.unreleased

/-- The producer index rises by `n` records: so does the number unreleased, as long as the index does not pass the consumer (R79). -/
theorem CompletionWriter.unreleased_add (c : CompletionWriter) (n : Nat) (h : c.unreleased + n < 65536) :
    (c.producer + BitVec.ofNat 16 n - c.consumer).toNat = c.unreleased + n := by
  unfold unreleased at *
  have hswap : c.producer + BitVec.ofNat 16 n - c.consumer = (c.producer - c.consumer) + BitVec.ofNat 16 n := by
    rw [BitVec.sub_eq_add_neg, BitVec.sub_eq_add_neg, BitVec.add_assoc, BitVec.add_assoc, BitVec.add_comm (BitVec.ofNat 16 n)]
  rw [hswap, BitVec.toNat_add, BitVec.toNat_ofNat]
  omega

/-- From `x` to `y` the line books `d` records more: those that were in the hand of the operation and are now listed or completed (R58, R61). -/
structure Line.Keeps (lic : Licence) (d : Nat) (x y : Line) : Prop extends x.Sound lic y where
  intake : y.intake = x.intake
  entries : y.entries.length ≤ x.entries.length + d
  booked : x.booked + d ≤ 65535 → y.booked = x.booked + d

variable {lic : Licence} {d : Nat} {x y z : Line}

theorem Line.Keeps.refl (lic : Licence) (x : Line) : x.Keeps lic 0 x := ⟨.refl lic x, rfl, le_rfl, fun _ => rfl⟩

theorem Line.Keeps.trans (h : x.Keeps lic 0 y) (k : y.Keeps lic d z) : x.Keeps lic d z where
  toSound := h.toSound.trans k.toSound
  intake := k.intake.trans h.intake
  entries := k.entries.trans (Nat.add_le_add_right h.entries d)
  booked hb := by
    have hy := h.booked (by omega)
    rw [k.booked (by omega), hy, Nat.add_zero]

theorem Line.Keeps.trans_right (h : x.Keeps lic d y) (k : y.Keeps lic 0 z) : x.Keeps lic d z where
  toSound := h.toSound.trans k.toSound
  intake := k.intake.trans h.intake
  entries := k.entries.trans h.entries
  booked hb := by
    have hy := h.booked hb
    rw [k.booked (by omega), hy, Nat.add_zero]

/-! ## The changes of a line that operations are made of -/

theorem Line.keeps_collector (lic : Licence) (x : Line) (c : Collector) : x.Keeps lic 0 { x with collector := c } :=
  ⟨⟨.inl ⟨rfl, rfl, rfl, rfl, rfl⟩, id, id, fun _ => .inl rfl, id⟩, rfl, le_rfl, fun _ => rfl⟩

theorem Line.keeps_grantee (lic : Licence) (x : Line) (g : Grantee) : x.Keeps lic 0 { x with lastGrantee := g } :=
  ⟨⟨.inl ⟨rfl, rfl, rfl, rfl, rfl⟩, id, id, fun _ => .inl rfl, id⟩, rfl, le_rfl, fun _ => rfl⟩

theorem Line.keeps_counts (lic : Licence) (x : Line) (n : Nat) (k : Counters) :
    x.Keeps lic 0 { x with consecutiveCollisions := n, counters := k } :=
  ⟨⟨.inl ⟨rfl, rfl, rfl, rfl, rfl⟩, id, id, fun _ => .inl rfl, id⟩, rfl, le_rfl, fun _ => rfl⟩

theorem Line.keeps_control (hc : lic.control) (x : Line) (st : LineState) (j : Option Job) (r : Option Receiving) (det : Detector)
    (w : WakeSequence) : x.Keeps lic 0 { x with state := st, job := j, reception := r, detector := det, wake := w } :=
  ⟨⟨.inr hc, id, id, fun _ => .inl rfl, id⟩, rfl, le_rfl, fun _ => rfl⟩

theorem Line.keeps_engine {g : Engine} (h : lic.AtBank x.engine → lic.AtBank g) : x.Keeps lic 0 { x with engine := g } :=
  ⟨⟨.inl ⟨rfl, rfl, rfl, rfl, rfl⟩, id, id, fun _ => .inl rfl, h⟩, rfl, le_rfl, fun _ => rfl⟩

theorem Line.keeps_buffers {b : BufferUnit} (h : x.buffers.Law → b.Law) : x.Keeps lic 0 { x with buffers := b } :=
  ⟨⟨.inl ⟨rfl, rfl, rfl, rfl, rfl⟩, h, id, fun _ => .inl rfl, id⟩, rfl, le_rfl, fun _ => rfl⟩

/-- Some entries leave the list, `n` in number, with one completion each. -/
theorem Line.keeps_leaving {es : List Entry} {n : Nat} (h : es.length + n = x.entries.length) :
    x.Keeps lic 0 { x with
      entries := es, completion := { x.completion with producer := x.completion.producer + BitVec.ofNat 16 n } } where
  toSound := ⟨.inl ⟨rfl, rfl, rfl, rfl, rfl⟩, id, id, fun _ => .inl rfl, id⟩
  intake := rfl
  entries := by simp only; omega
  booked hb := by
    have hadd := x.completion.unreleased_add n (by unfold booked at hb; omega)
    simp only [booked, CompletionWriter.unreleased] at *
    omega

theorem Line.keeps_entries {es : List Entry} (h : es.length = x.entries.length) : x.Keeps lic 0 { x with entries := es } where
  toSound := ⟨.inl ⟨rfl, rfl, rfl, rfl, rfl⟩, id, id, fun _ => .inl rfl, id⟩
  intake := rfl
  entries := h.le
  booked _ := by simp only [booked, h, Nat.add_zero]

theorem Line.keeps_append (lic : Licence) (x : Line) (e : Entry) : x.Keeps lic 1 { x with entries := x.entries ++ [e] } where
  toSound := ⟨.inl ⟨rfl, rfl, rfl, rfl, rfl⟩, id, id, fun _ => .inl rfl, id⟩
  intake := rfl
  entries := by simp
  booked _ := by simp only [booked, List.length_append, List.length_singleton]; omega

/-- A record in hand completes at once. -/
theorem Line.keeps_completed (lic : Licence) (x : Line) :
    x.Keeps lic 1 { x with completion := { x.completion with producer := x.completion.producer + 1 } } where
  toSound := ⟨.inl ⟨rfl, rfl, rfl, rfl, rfl⟩, id, id, fun _ => .inl rfl, id⟩
  intake := rfl
  entries := by simp
  booked hb := by
    have hadd : (x.completion.producer + 1 - x.completion.consumer).toNat = _ :=
      x.completion.unreleased_add 1 (by unfold booked at hb; omega)
    simp only [booked, CompletionWriter.unreleased] at *
    omega

theorem Station.law_of_station (h : x.TableLaw) (a : Nat) (ha : 1 ≤ a ∧ a ≤ 62) : (x.station a).Law x.params.offlineThreshold :=
  h.2.2 a ha.1 ha.2

/-- One record is replaced by one that keeps its law, and its SEQ bit unless that is licensed (R40, R41). -/
theorem Line.keeps_setStation (a : Nat) {r : Station} (hseq : r.seq = (x.station a).seq ∨ lic.answers a)
    (hlaw : 1 ≤ x.params.offlineThreshold → (x.station a).Law x.params.offlineThreshold → r.Law x.params.offlineThreshold) :
    x.Keeps lic 0 (x.setStation a r) := by
  by_cases ha : 1 ≤ a ∧ a ≤ 62
  · have hparams : (x.setStation a r).params = x.params := by rw [x.setStation_rest a r]
    have htable (h : x.TableLaw) : (x.setStation a r).TableLaw := by
      refine ⟨hparams ▸ h.1, hparams ▸ h.2.1, fun b h1 h62 => ?_⟩
      rw [hparams]
      by_cases hb : b = a
      · subst hb
        rw [x.station_setStation_same r ha]
        exact hlaw h.2.1 (Station.law_of_station h b ha)
      · rw [x.station_setStation_ne r hb]
        exact Station.law_of_station h b ⟨h1, h62⟩
    have hseqs (b : Nat) : ((x.setStation a r).station b).seq = (x.station b).seq ∨ lic.answers b := by
      by_cases hb : b = a
      · subst hb
        rw [x.station_setStation_same r ha]
        exact hseq
      · exact .inl (by rw [x.station_setStation_ne r hb])
    have hrest := x.setStation_rest a r
    rw [hrest] at hseqs htable ⊢
    exact ⟨⟨.inl ⟨rfl, rfl, rfl, rfl, rfl⟩, id, htable, hseqs, id⟩, rfl, le_rfl, fun _ => rfl⟩
  · have hsame : x.setStation a r = x := dif_neg ha
    rw [hsame]
    exact .refl lic x

/-! ## The event unit (R89 to R91) -/

variable {l : LineId} {s t u : State}

theorem State.Touches.run_eq (h : State.Touches l s t) : t.run = s.run := by rw [h.rest]; cases l <;> rfl

theorem State.Touches.context_eq (h : State.Touches l s t) : t.context = s.context := by rw [h.rest]; cases l <;> rfl

/-- The law of the event unit reads the event unit and the context only. -/
theorem State.EventLaw.of_same (h : s.EventLaw) (hevents : t.events = s.events) (hcontext : t.context = s.context) : t.EventLaw := by
  unfold State.EventLaw
  rwa [hevents, hcontext]

/-- A record more stands unreleased, where one less had room (R89). -/
theorem producer_succ_unreleased {p c : Half} {n : Nat} (h : (p - c).toNat < n) : (p + 1 - c).toNat ≤ n := by
  have hswap : p + 1 - c = (p - c) + 1 := by
    rw [BitVec.sub_eq_add_neg, BitVec.sub_eq_add_neg, BitVec.add_assoc, BitVec.add_comm 1, BitVec.add_assoc]
  rw [hswap, BitVec.toNat_add]
  exact (Nat.mod_le _ _).trans h

/-- An event raised is written where there is room, or backlogged below the limit, or counted (R90). -/
theorem raiseEvent_eventLaw (e : Event) (h : s.EventLaw) : (raiseEvent e s).EventLaw := by
  obtain ⟨hproducer, hbacklog, hloss, hfirst⟩ := h
  unfold raiseEvent
  dsimp only
  split
  · next hnow =>
    refine ⟨?_, by simpa using hbacklog, by simpa using hloss, by simpa using hfirst⟩
    have hroom := hnow.2.2
    unfold State.eventRoom at hroom
    rw [(writeEvent_reports _ _ _).context_eq, writeEvent_events]
    exact producer_succ_unreleased (of_decide_eq_true hroom)
  · split
    · next hroom => exact ⟨hproducer, by simpa using hroom, hloss, hfirst⟩
    · refine ⟨hproducer, hbacklog, Nat.min_le_left _ _, ?_⟩
      simp only
      split
      · next hzero => simp [hzero]
      · next hsome => simp [hfirst.mpr hsome]

/-! ## Operations that work on one line -/

/-- `t` is `s` after an operation of line `l` that books `d` records and does nothing to the line that the licence does not allow. -/
structure State.Works (lic : Licence) (l : LineId) (d : Nat) (s t : State) : Prop where
  touches : State.Touches l s t
  keeps : (s.line l).Keeps lic d (t.line l)
  events : s.EventLaw → t.EventLaw

theorem State.Works.refl (lic : Licence) (l : LineId) (s : State) : State.Works lic l 0 s s := ⟨.refl l s, .refl lic _, id⟩

theorem State.Works.trans (h : State.Works lic l 0 s t) (k : State.Works lic l d t u) : State.Works lic l d s u :=
  ⟨h.touches.trans k.touches, h.keeps.trans k.keeps, k.events ∘ h.events⟩

theorem State.Works.trans_right (h : State.Works lic l d s t) (k : State.Works lic l 0 t u) : State.Works lic l d s u :=
  ⟨h.touches.trans k.touches, h.keeps.trans_right k.keeps, k.events ∘ h.events⟩

theorem State.Works.ite {p : Prop} [Decidable p] (ht : p → State.Works lic l d s t) (hu : ¬p → State.Works lic l d s u) :
    State.Works lic l d s (if p then t else u) := by
  split
  · exact ht ‹_›
  · exact hu ‹_›

theorem State.Reports.works (lic : Licence) (l : LineId) (h : s.Reports t) (hevents : s.EventLaw → t.EventLaw) : State.Works lic l 0 s t :=
  ⟨h.touches l, by rw [h.line l]; exact .refl lic _, hevents⟩

/-- A report that leaves the event unit. -/
theorem State.Reports.works_of_events (lic : Licence) (l : LineId) (h : s.Reports t) (hevents : t.events = s.events) : State.Works lic l 0 s t :=
  h.works lic l fun hlaw => hlaw.of_same hevents h.context_eq

theorem State.updLine_works {f : Line → Line} (h : (s.line l).Keeps lic d (f (s.line l))) : State.Works lic l d s (s.updLine l f) :=
  ⟨s.updLine_touches l f, by rwa [State.updLine_line_same], fun hlaw => hlaw.of_same (by simp) (by simp)⟩

theorem State.issueRead_works (lic : Licence) (l : LineId) (s : State) (r : Reader) (a : Addr) (n : Nat) :
    State.Works lic l 0 s (s.issueRead r a n) :=
  ⟨s.issueRead_touches l r a n, by rw [State.issueRead_line]; exact .refl lic _, id⟩

theorem State.endRead_works (lic : Licence) (l : LineId) (s : State) (id : Nat) : State.Works lic l 0 s (s.endRead id) :=
  ⟨s.endRead_touches l id, by rw [State.endRead_line]; exact .refl lic _, fun h => h⟩

/-- An operation whose line differs from the old one as `y` does works as `y` does. -/
theorem State.Works.of_line (htouch : State.Touches l s t) (hevents : s.EventLaw → t.EventLaw) (hline : t.line l = y)
    (h : (s.line l).Keeps lic d y) : State.Works lic l d s t :=
  ⟨htouch, hline ▸ h, hevents⟩

theorem State.Works.of_events (htouch : State.Touches l s t) (hevents : t.events = s.events) (h : (s.line l).Keeps lic d (t.line l)) :
    State.Works lic l d s t :=
  ⟨htouch, h, fun hlaw => hlaw.of_same hevents htouch.context_eq⟩

/-- The same for an operation that leaves the event unit. -/
theorem State.Works.of_line_events (htouch : State.Touches l s t) (hevents : t.events = s.events) (hline : t.line l = y)
    (h : (s.line l).Keeps lic d y) : State.Works lic l d s t :=
  .of_line htouch (fun hlaw => hlaw.of_same hevents htouch.context_eq) hline h

end Sys2Proof.Machine
end

section
/-! PROOFS. The shared operations, the station table, the buffer unit and the collector work on their line (R37 to R55, R62, R79, R83 to R88, R133 to R141). -/

set_option Elab.async false

namespace Sys2Proof.Machine

variable {lic : Licence} {d : Nat} {l : LineId} {s t : State}

/-! ## Events, counters and completions -/

theorem raiseEvent_works (lic : Licence) (l : LineId) (e : Event) (s : State) : State.Works lic l 0 s (raiseEvent e s) :=
  (raiseEvent_reports e s).works lic l (raiseEvent_eventLaw e)

theorem State.hostWrite_works (lic : Licence) (l : LineId) (s : State) (a : Addr) (b : List Byte) : State.Works lic l 0 s (s.hostWrite a b) :=
  (s.hostWrite_reports a b).works_of_events lic l rfl

theorem countOnLine_works (lic : Licence) (l : LineId) (f : Counters → Counters) (s : State) : State.Works lic l 0 s (countOnLine l f s) :=
  .of_line_events (countOnLine_touches l f s) (by simp [countOnLine, writeCounters, State.indexWrite]) (countOnLine_line l f s) (Line.keeps_counts lic _ _ _)

theorem moveLine_works (hc : lic.control) (l : LineId) (new : LineState) (r : LineReason) (s : State) :
    State.Works lic l 0 s (moveLine l new r s) :=
  .of_line (moveLine_touches l new r s)
    (fun h => raiseEvent_eventLaw _ (h.of_same (State.updLine_events ..) (State.updLine_context ..))) (moveLine_line l new r s) (Line.keeps_control hc _ _ _ _ _ _)

theorem complete_works (lic : Licence) (l : LineId) (c : Completion) (s : State) : State.Works lic l 1 s (complete l c s) :=
  .of_line_events (complete_touches l c s) (complete_events l c s) (complete_line l c s) (Line.keeps_completed lic _)

theorem completeEntry_works (lic : Licence) (l : LineId) (how : Ending) (s : State) (e : Entry) :
    State.Works lic l 1 s (completeEntry l how s e) := complete_works lic l _ s

theorem putEntry_works (lic : Licence) (l : LineId) (i : Nat) (e : Entry) (s : State) : State.Works lic l 0 s (putEntry l i e s) :=
  State.updLine_works (Line.keeps_entries List.length_set)

theorem appendEntry_works (lic : Licence) (l : LineId) (e : Entry) (s : State) : State.Works lic l 1 s (appendEntry l e s) :=
  State.updLine_works (Line.keeps_append lic _ e)

theorem finishEntry_works (lic : Licence) (l : LineId) {i : Nat} (e : Entry) (how : Ending) (s : State) (hi : i < (s.line l).entries.length) :
    State.Works lic l 0 s (finishEntry l i e how s) :=
  .of_line_events (finishEntry_touches l i e how s) (finishEntry_events l i e how s) (finishEntry_line l i e how s)
    (Line.keeps_leaving (n := 1) (List.length_eraseIdx_add_one hi))

/-- An entry found stands at a place of the list. -/
theorem Line.FirstEntry.lt {x : Line} {p : Entry → Bool} {i : Nat} {e : Entry} (h : x.FirstEntry p i e) : i < x.entries.length := by
  obtain ⟨hlt, -⟩ := List.getElem?_eq_some_iff.mp h.1
  exact hlt

theorem Line.findEntry_lt {x : Line} {p : Entry → Bool} {i : Nat} {e : Entry} (h : x.findEntry p = some (i, e)) : i < x.entries.length :=
  (Line.findEntry_eq_some.mp h).lt

theorem finishFirst_works (lic : Licence) (l : LineId) (p : Entry → Bool) (how : Ending) (s : State) :
    State.Works lic l 0 s (finishFirst l p how s) := by
  unfold finishFirst
  split
  · exact .refl lic l s
  · next i e hfind => exact finishEntry_works lic l e how s (Line.findEntry_lt hfind)

theorem finishAll_events (l : LineId) (p : Entry → Bool) (how : Entry → Ending) (s : State) : (finishAll l p how s).events = s.events := by
  have hfold (es : List Entry) (u : State) : (es.foldl (fun s e => completeEntry l (how e) s e) u).events = u.events := by
    induction es generalizing u with
    | nil => rfl
    | cons e rest ih => rw [List.foldl_cons, ih, completeEntry, complete_events]
  rw [finishAll, hfold, State.updLine_events]

theorem finishAll_works (lic : Licence) (l : LineId) (p : Entry → Bool) (how : Entry → Ending) (s : State) :
    State.Works lic l 0 s (finishAll l p how s) :=
  .of_line_events (finishAll_touches l p how s) (finishAll_events l p how s) (finishAll_line l p how s)
    (Line.keeps_leaving ((Nat.add_comm _ _).trans (List.length_eq_length_filter_add p).symm))

theorem writeCycleRecord_works (lic : Licence) (l : LineId) (s : State) : State.Works lic l 0 s (writeCycleRecord l s) :=
  (writeCycleRecord_reports l s).works_of_events lic l rfl

theorem writeCounters_works (lic : Licence) (l : LineId) (s : State) : State.Works lic l 0 s (writeCounters l s) :=
  (writeCounters_reports l s).works_of_events lic l rfl

/-! ## The station table (R39 to R52) -/

theorem raiseIf_eventLaw (c : Bool) (e : Event) (h : s.EventLaw) : (raiseIf c e s).EventLaw := by
  unfold raiseIf
  split
  · exact raiseEvent_eventLaw e h
  · exact h

theorem changeStation_eventLaw (l : LineId) (cause : HealthCause) (f : Station → Station) (a : Nat) (h : s.EventLaw) :
    (changeStation l cause f s a).EventLaw :=
  raiseIf_eventLaw _ _ (h.of_same (State.updLine_events ..) (State.updLine_context ..))

theorem changeStation_works (l : LineId) (cause : HealthCause) {f : Station → Station} (s : State) (a : Nat)
    (hseq : (f ((s.line l).station a)).seq = ((s.line l).station a).seq ∨ lic.answers a)
    (hlaw : 1 ≤ (s.line l).params.offlineThreshold → ((s.line l).station a).Law (s.line l).params.offlineThreshold →
      (f ((s.line l).station a)).Law (s.line l).params.offlineThreshold) :
    State.Works lic l 0 s (changeStation l cause f s a) :=
  .of_line (changeStation_touches l cause f s a) (changeStation_eventLaw l cause f a) (changeStation_line l cause f s a) (Line.keeps_setStation a hseq hlaw)

/-- A change that keeps every record's law and SEQ bit may be made of several stations in turn. -/
theorem foldl_changeStation_works (lic : Licence) (l : LineId) (cause : HealthCause) {f : Station → Station} (hseq : ∀ r, (f r).seq = r.seq)
    (hlaw : ∀ n r, r.Law n → (f r).Law n) (as : List Nat) (s : State) : State.Works lic l 0 s (as.foldl (changeStation l cause f) s) := by
  induction as generalizing s with
  | nil => exact .refl lic l s
  | cons a rest ih => exact (changeStation_works l cause s a (.inl (hseq _)) fun _ => hlaw _ _).trans (ih _)

@[simp] theorem Station.count_state (r : Station) (o : ExchangeEnd) : (r.count o).state = r.state := by
  unfold Station.count
  split <;> try rfl
  split <;> rfl

@[simp] theorem Station.count_failures (r : Station) (o : ExchangeEnd) : (r.count o).failures = r.failures := by
  unfold Station.count
  split <;> try rfl
  split <;> rfl

@[simp] theorem Station.count_seq (r : Station) (o : ExchangeEnd) : (r.count o).seq = r.seq := by
  unfold Station.count
  split <;> try rfl
  split <;> rfl

@[simp] theorem Station.count_attention (r : Station) (o : ExchangeEnd) : (r.count o).attention = r.attention := by
  unfold Station.count
  split <;> try rfl
  split <;> rfl

/-- The law of a record reads its state, its count and, when DISABLED, its attention flag. -/
theorem Station.Law.of_same {n : Nat} {r r' : Station} (h : r.Law n) (hstate : r'.state = r.state) (hfail : r'.failures = r.failures)
    (hatt : r.state = .disabled → r'.attention = r.attention) : r'.Law n := by
  unfold Station.Law at *
  rw [hstate, hfail]
  revert h
  cases hst : r.state
  case disabled => rw [hatt hst]; exact id
  all_goals exact id

/-- A FAILED report leaves the record SUSPECT below the threshold, or OFFLINE at it (R41). -/
theorem Station.fail_law {n : Nat} {r : Station} (hn : 1 ≤ n) (hen : r.state ≠ .disabled) (h : r.Law n) : (r.fail n).Law n := by
  unfold Station.fail
  split
  · next hoff => simp only [Station.Law, hoff]
  · split
    · next hlt => simpa only [Station.Law] using hlt
    · next hoff hge =>
      have hle : r.failures + 1 ≤ n := by
        unfold Station.Law at h
        cases hst : r.state <;> simp only [hst] at h
        case disabled => exact absurd hst hen
        case offline => exact absurd hst hoff
        all_goals omega
      simp only [Station.Law]
      omega

theorem Station.applyReport_law {n : Nat} {r : Station} (o : ExchangeEnd) (hn : 1 ≤ n) (h : r.Law n) : (r.applyReport n o).Law n := by
  have hcount : (r.count o).Law n := h.of_same (by simp) (by simp) (by simp)
  unfold Station.applyReport
  split
  · exact h
  · next hen =>
    have hhealth : ((r.count o).applyHealth n o).Law n ∧ ((r.count o).applyHealth n o).state ≠ .disabled := by
      unfold Station.applyHealth
      split
      · exact ⟨rfl, nofun⟩
      · refine ⟨Station.fail_law hn (by simpa using hen) hcount, ?_⟩
        unfold Station.fail
        split
        · next hoff => simp only [hoff]; exact nofun
        · split <;> exact nofun
      · exact ⟨hcount, by simpa using hen⟩
    dsimp only
    split
    · exact hhealth.1.of_same rfl rfl fun hdis => absurd hdis hhealth.2
    · exact hhealth.1

/-- Only a SUCCESS toggles the SEQ bit (R40). -/
theorem Station.applyReport_seq {n : Nat} {r : Station} {o : ExchangeEnd} (h : o.advances = false) : (r.applyReport n o).seq = r.seq := by
  have hhealth : ((r.count o).applyHealth n o).seq = r.seq := by
    unfold Station.applyHealth
    split
    · simp [Station.answer, h]
    · unfold Station.fail
      split
      · simp
      · split <;> simp
    · simp
  unfold Station.applyReport
  split
  · rfl
  · dsimp only
    split <;> exact hhealth

theorem reportOutcome_works (l : LineId) (a : Nat) (o : ExchangeEnd) (s : State) (h : o.advances = true → lic.answers a) :
    State.Works lic l 0 s (reportOutcome l a o s) := by
  refine .of_line (reportOutcome_touches l a o s) (fun h => raiseIf_eventLaw _ _ (changeStation_eventLaw l _ _ a h)) (reportOutcome_line l a o s)
    (Line.keeps_setStation a ?_ fun hn hlaw => Station.applyReport_law o hn hlaw)
  cases hadv : o.advances with
  | false => exact .inl (Station.applyReport_seq hadv)
  | true => exact .inr (h hadv)

theorem noteWake_works (lic : Licence) (l : LineId) (a : Nat) (s : State) : State.Works lic l 0 s (noteWake l a s) := by
  unfold noteWake
  dsimp only
  split
  · exact .refl lic l s
  · next hen =>
    have hkeep : (s.line l).Keeps lic 0 ((s.line l).setStation a { (s.line l).station a with attention := true }) :=
      Line.keeps_setStation a (.inl rfl) fun _ hlaw => hlaw.of_same rfl rfl fun hdis => absurd hdis hen
    exact State.Works.trans (State.updLine_works hkeep) ((raiseIf_reports _ _ _).works lic l (raiseIf_eventLaw _ _))

theorem clearAttention_works (lic : Licence) (l : LineId) (a : Nat) (s : State) : State.Works lic l 0 s (clearAttention l a s) := by
  refine State.updLine_works (Line.keeps_setStation a (.inl rfl) fun _ hlaw => ?_)
  unfold Station.Law at *
  revert hlaw
  cases ((s.line l).station a).state
  case disabled => exact fun h => ⟨h.1, rfl⟩
  all_goals exact id

theorem SetAction.apply_seq (act : SetAction) (r : Station) : (act.apply r).seq = r.seq := by
  cases act
  case wakeCapable | timeoutOverride => rfl
  all_goals
    unfold SetAction.apply
    dsimp only
    split <;> rfl

theorem SetAction.apply_law (act : SetAction) (n : Nat) (r : Station) (h : r.Law n) : (act.apply r).Law n := by
  cases act
  case wakeCapable | timeoutOverride => exact h.of_same rfl rfl fun _ => rfl
  all_goals
    unfold SetAction.apply
    dsimp only
    split
  case enable.isTrue => rfl
  case disable.isFalse => exact ⟨rfl, rfl⟩
  case forget.isFalse => rfl
  all_goals exact h

theorem applySet_works (lic : Licence) (l : LineId) (first last : Nat) (act : SetAction) (s : State) :
    State.Works lic l 0 s (applySet l first last act s) :=
  foldl_changeStation_works lic l _ act.apply_seq act.apply_law _ s

theorem writeImages_reports (l : LineId) (first last : Nat) (a : Addr) (s : State) : s.Reports (writeImages l first last a s) := by
  unfold writeImages
  induction stationRange first last generalizing s with
  | nil => exact .refl s
  | cons n rest ih => exact (s.hostWrite_reports _ _).trans (ih _)

theorem writeImages_events (l : LineId) (first last : Nat) (a : Addr) (s : State) : (writeImages l first last a s).events = s.events := by
  unfold writeImages
  induction stationRange first last generalizing s with
  | nil => rfl
  | cons n rest ih => exact (ih _).trans rfl

theorem writeImages_works (lic : Licence) (l : LineId) (first last : Nat) (a : Addr) (s : State) :
    State.Works lic l 0 s (writeImages l first last a s) :=
  (writeImages_reports l first last a s).works_of_events lic l (writeImages_events l first last a s)

theorem clearStatistics_works (lic : Licence) (l : LineId) (first last : Nat) (s : State) :
    State.Works lic l 0 s (clearStatistics l first last s) := by
  unfold clearStatistics
  induction stationRange first last generalizing s with
  | nil => exact .refl lic l s
  | cons a rest ih =>
    have hkeep : (s.line l).Keeps lic 0 ((s.line l).setStation a ((s.line l).station a).clearStatistics) :=
      Line.keeps_setStation a (.inl rfl) fun _ hlaw => hlaw.of_same rfl rfl fun _ => rfl
    exact State.Works.trans (State.updLine_works hkeep) (ih _)

/-! ## The buffer unit (R85 to R88) -/

/-- The write-back index has `n` descriptors still to pass, `ds` of which are to be held: then writing back those before the first usable one leaves a
law-abiding buffer unit (R83, R85). -/
theorem flushInvalid_line (l : LineId) (ds : List Descriptor) (s : State) :
    ∃ n held, n + held.length = ds.length ∧ (∀ d, held.head? = some d → d.usable = true) ∧ (flushInvalid l ds s).line l =
      { s.line l with buffers := { (s.line l).buffers with
        held := held, writeBack := (s.line l).buffers.writeBack + BitVec.ofNat 16 n } } := by
  induction ds generalizing s with
  | nil => exact ⟨0, [], rfl, nofun, by simp [flushInvalid, setHeld]⟩
  | cons d rest ih =>
    unfold flushInvalid
    split
    · next hd => exact ⟨0, d :: rest, by simp, fun _ h => by cases h; exact hd, by simp [setHeld]⟩
    · obtain ⟨n, held, hlen, hhead, hline⟩ := ih (writeBack l (returnedOctets d 1) s)
      refine ⟨n + 1, held, by simp only [List.length_cons]; omega, hhead, ?_⟩
      rw [hline, writeBack_line, BitVec.ofNat_add, BitVec.add_comm (BitVec.ofNat 16 n), ← BitVec.add_assoc]
      rfl

theorem returnHeld_line (l : LineId) (ds : List Descriptor) (s : State) :
    (returnHeld l ds s).line l = { s.line l with buffers := { (s.line l).buffers with
      held := [], writeBack := (s.line l).buffers.writeBack + BitVec.ofNat 16 ds.length } } := by
  induction ds generalizing s with
  | nil => simp [returnHeld, setHeld]
  | cons d rest ih =>
    rw [returnHeld, ih, writeBack_line, List.length_cons, BitVec.ofNat_add, BitVec.add_comm (BitVec.ofNat 16 rest.length),
      ← BitVec.add_assoc]
    rfl

/-- The two indexes of a buffer unit agree with the number it holds, which with the one being fetched is at most two (R83, R85). -/
def BufferUnit.Counts (b : BufferUnit) : Prop :=
  b.consumer - b.writeBack = BitVec.ofNat 16 b.held.length ∧ b.held.length + (if b.fetch.isSome then 1 else 0) ≤ Config.heldMax

theorem BufferUnit.Law.counts {b : BufferUnit} (h : b.Law) : b.Counts := ⟨h.1, h.2.1⟩

/-- The law of a buffer unit after `n` of the descriptors it held have gone back and `held` are held (R83, R85). -/
theorem BufferUnit.Counts.law_of_returned {b : BufferUnit} {held : List Descriptor} {n : Nat} (h : b.Counts)
    (hlen : n + held.length = b.held.length) (hhead : ∀ d, held.head? = some d → d.usable = true) :
    ({ b with held := held, writeBack := b.writeBack + BitVec.ofNat 16 n } : BufferUnit).Law := by
  obtain ⟨hindex, hcount⟩ := h
  refine ⟨?_, ?_, hhead⟩
  · simp only
    rw [← hlen, BitVec.ofNat_add] at hindex
    rw [BitVec.sub_eq_iff_eq_add] at hindex ⊢
    rw [hindex]
    ac_rfl
  · simp only at *
    omega

/-- A fetched descriptor is held behind the others (R85). -/
theorem BufferUnit.Counts.hold {b : BufferUnit} (h : b.Counts) (hfetch : b.fetch.isSome = true) (d : Descriptor) :
    ({ b with consumer := b.consumer + 1, fetch := none, held := b.held ++ [d] } : BufferUnit).Counts := by
  obtain ⟨hindex, hcount⟩ := h
  refine ⟨?_, ?_⟩
  · simp only
    rw [List.length_append, BitVec.ofNat_add, ← hindex, BitVec.sub_eq_add_neg, BitVec.sub_eq_add_neg]
    change b.consumer + 1 + -b.writeBack = b.consumer + -b.writeBack + 1
    ac_rfl
  · rw [hfetch] at hcount
    simp only [List.length_append, List.length_singleton, Option.isSome_none, Bool.false_eq_true, if_false, if_true] at *
    omega

theorem writeBack_events (l : LineId) (d : List Byte) (s : State) : (writeBack l d s).events = s.events := by simp [writeBack]

theorem flushInvalid_events (l : LineId) (ds : List Descriptor) (s : State) : (flushInvalid l ds s).events = s.events := by
  induction ds generalizing s with
  | nil => exact State.updLine_events ..
  | cons d rest ih =>
    unfold flushInvalid
    split
    · exact State.updLine_events ..
    · rw [ih, writeBack_events]

theorem returnHeld_events (l : LineId) (ds : List Descriptor) (s : State) : (returnHeld l ds s).events = s.events := by
  induction ds generalizing s with
  | nil => exact State.updLine_events ..
  | cons d rest ih => rw [returnHeld, ih, writeBack_events]

theorem fillHead_events (l : LineId) (a : Nat) (f : Byte) (p : List Byte) (more : Bool) (s : State) :
    (fillHead l a f p more s).events = s.events := by
  unfold fillHead
  split
  · rfl
  · dsimp only
    rw [flushInvalid_events, writeBack_events]
    split <;> rfl

theorem returnHeld_works (lic : Licence) (l : LineId) (s : State) : State.Works lic l 0 s (returnHeld l (s.line l).buffers.held s) :=
  .of_line_events (returnHeld_touches l _ s) (returnHeld_events l _ s) (returnHeld_line l _ s) (Line.keeps_buffers fun h => h.counts.law_of_returned (by simp) nofun)

theorem fillHead_works (lic : Licence) (l : LineId) (a : Nat) (f : Byte) (p : List Byte) (more : Bool) (s : State) :
    State.Works lic l 0 s (fillHead l a f p more s) := by
  refine .of_events (fillHead_touches l a f p more s) (fillHead_events l a f p more s) ?_
  unfold fillHead
  split
  · exact .refl lic _
  · next d rest hheld =>
    dsimp only
    obtain ⟨u, hu, hline⟩ : ∃ u : State, u = (if min p.length d.length = 0 then s else s.hostWrite d.address (p.take (min p.length d.length))) ∧
        u.line l = s.line l := ⟨_, rfl, by split <;> simp⟩
    rw [← hu]
    obtain ⟨n, held, hlen, hhead, hflush⟩ :=
      flushInvalid_line l rest (writeBack l (filledOctets d a f (min p.length d.length) p.length more) u)
    rw [hflush, writeBack_line, hline]
    refine Line.keeps_buffers fun h => ?_
    have hlaw := h.counts.law_of_returned (held := held) (n := n + 1) (by rw [hheld, List.length_cons]; omega) hhead
    rwa [BitVec.ofNat_add, BitVec.add_comm (BitVec.ofNat 16 n), ← BitVec.add_assoc] at hlaw

theorem endDescriptorRead_works (lic : Licence) (l : LineId) (data : Option (List Byte)) (s : State)
    (hfetch : (s.line l).buffers.fetch.isSome = true) : State.Works lic l 0 s (endDescriptorRead l data s) := by
  unfold endDescriptorRead
  dsimp only
  split
  · refine State.Works.trans (State.updLine_works (Line.keeps_buffers fun h => ?_)) (raiseEvent_works lic l _ _)
    obtain ⟨hindex, hcount, hhead⟩ := h
    exact ⟨hindex, by simp only [Option.isSome_none, Bool.false_eq_true, if_false] at *; omega, hhead⟩
  · next d =>
    refine .of_events ((State.updLine_touches s l _).trans (((State.hostWrite_reports _ _ _).touches l).trans (flushInvalid_touches l _ _)))
      ((flushInvalid_events l _ _).trans (State.updLine_events ..)) ?_
    obtain ⟨n, held, hlen, hhead, hflush⟩ := flushInvalid_line l ((s.line l).buffers.held ++ [parseDescriptor d])
      ((s.updLine l (fun x => { x with buffers := { (s.line l).buffers with
        consumer := (s.line l).buffers.consumer + 1, fetch := none, held := (s.line l).buffers.held ++ [parseDescriptor d] } })).indexWrite
          (bufferConsumerOffset l) (leBytes 2 ((s.line l).buffers.consumer + 1).toNat))
    rw [hflush]
    simp only [State.indexWrite, State.hostWrite_line, State.updLine_line_same]
    exact Line.keeps_buffers fun h => (h.counts.hold hfetch _).law_of_returned hlen hhead

/-! ## The collector (R134 to R140) -/

theorem checkStarved_eventLaw (l : LineId) (h : s.EventLaw) : (checkStarved l s).EventLaw := by
  unfold checkStarved
  dsimp only
  split
  · exact h.of_same (State.updLine_events ..) (State.updLine_context ..)
  · split
    · exact raiseEvent_eventLaw _ (h.of_same (State.updLine_events ..) (State.updLine_context ..))
    · exact h

theorem settle_eventLaw (l : LineId) (h : s.EventLaw) : (settle l s).EventLaw := by
  have hchecked := checkStarved_eventLaw l h
  unfold settle checkClaim
  split
  · exact hchecked.of_same (State.updLine_events ..) (State.updLine_context ..)
  · exact hchecked

theorem checkStarved_works (lic : Licence) (l : LineId) (s : State) : State.Works lic l 0 s (checkStarved l s) := by
  obtain ⟨starved, h⟩ := checkStarved_line l s
  exact .of_line (checkStarved_touches l s) (checkStarved_eventLaw l) h (Line.keeps_collector lic _ _)

theorem settle_works (lic : Licence) (l : LineId) (s : State) : State.Works lic l 0 s (settle l s) := by
  obtain ⟨claim, starved, h⟩ := settle_line l s
  exact .of_line (settle_touches l s) (settle_eventLaw l) h (Line.keeps_collector lic _ _)

theorem moveRotation_works (lic : Licence) (l : LineId) (a : Nat) (s : State) : State.Works lic l 0 s (moveRotation l a s) :=
  State.updLine_works (Line.keeps_collector lic _ _)

theorem fetchOutcome_works (lic : Licence) (l : LineId) (a : Nat) (o : ExchangeEnd) (s : State) :
    State.Works lic l 0 s (fetchOutcome l a o s) := by
  unfold fetchOutcome
  split
  · next attn f p =>
    have hflag : State.Works lic l 0 s (if attn then s else clearAttention l a s) := by
      split
      · exact .refl lic l s
      · exact clearAttention_works lic l a s
    have hfill (u : State) : State.Works lic l 0 u (if p.length = 0 then u else fillHead l a f p attn u) := by
      split
      · exact .refl lic l u
      · exact fillHead_works lic l a f p attn u
    exact (hflag.trans (hfill _)).trans (moveRotation_works lic l a _)
  · exact moveRotation_works lic l a s

end Sys2Proof.Machine
end

section
/-! PROOFS. The cycle engine works on its line (R101 to R127). -/

set_option Elab.async false

namespace Sys2Proof.Machine

variable {lic : Licence} {d : Nat} {l : LineId} {s t : State}

/-! ## A bank replaced -/

@[simp] theorem Engine.setBank_active (g : Engine) (b : BankId) (x : Bank) : (g.setBank b x).active = g.active := by cases b <;> rfl
@[simp] theorem Engine.setBank_state (g : Engine) (b : BankId) (x : Bank) : (g.setBank b x).state = g.state := by cases b <;> rfl
@[simp] theorem Engine.setBank_source (g : Engine) (b : BankId) (x : Bank) : (g.setBank b x).source = g.source := by cases b <;> rfl
@[simp] theorem Engine.setBank_timer (g : Engine) (b : BankId) (x : Bank) : (g.setBank b x).timer = g.timer := by cases b <;> rfl
@[simp] theorem Engine.setBank_cycle (g : Engine) (b : BankId) (x : Bank) : (g.setBank b x).cycle = g.cycle := by cases b <;> rfl
@[simp] theorem Engine.setBank_pendingStart (g : Engine) (b : BankId) (x : Bank) : (g.setBank b x).pendingStart = g.pendingStart := by cases b <;> rfl
@[simp] theorem Engine.setBank_startLate (g : Engine) (b : BankId) (x : Bank) : (g.setBank b x).startLate = g.startLate := by cases b <;> rfl
@[simp] theorem Engine.setBank_due (g : Engine) (b : BankId) (x : Bank) : (g.setBank b x).due = g.due := by cases b <;> rfl
@[simp] theorem Engine.setBank_cursor (g : Engine) (b : BankId) (x : Bank) : (g.setBank b x).cursor = g.cursor := by cases b <;> rfl
@[simp] theorem Engine.setBank_stage (g : Engine) (b : BankId) (x : Bank) : (g.setBank b x).stage = g.stage := by cases b <;> rfl
@[simp] theorem Engine.setBank_stopRequested (g : Engine) (b : BankId) (x : Bank) : (g.setBank b x).stopRequested = g.stopRequested := by cases b <;> rfl
@[simp] theorem Engine.setBank_lastCompleted (g : Engine) (b : BankId) (x : Bank) : (g.setBank b x).lastCompleted = g.lastCompleted := by cases b <;> rfl
@[simp] theorem Engine.setBank_overruns (g : Engine) (b : BankId) (x : Bank) : (g.setBank b x).overruns = g.overruns := by cases b <;> rfl
@[simp] theorem Engine.setBank_mergedStarts (g : Engine) (b : BankId) (x : Bank) : (g.setBank b x).mergedStarts = g.mergedStarts := by cases b <;> rfl
@[simp] theorem Engine.setBank_lateStarts (g : Engine) (b : BankId) (x : Bank) : (g.setBank b x).lateStarts = g.lateStarts := by cases b <;> rfl

theorem Engine.setBank_activeBank (g : Engine) : g.setBank g.active g.activeBank = g := by
  obtain ⟨st, active, b0, b1⟩ := g
  cases active <;> rfl

/-! ## What slots and starts do to the engine -/

/-- Two engines stand on the same bank in the same state. -/
def Engine.SameStand (g h : Engine) : Prop := h.active = g.active ∧ h.state = g.state

theorem Licence.AtBank.of_sameStand {g h : Engine} (hs : g.SameStand h) (hg : lic.AtBank g) : lic.AtBank h := by
  obtain ⟨hactive, hstate⟩ := hs
  unfold Licence.AtBank Licence.OnBank at *
  rwa [hactive, hstate]

theorem updEngine_works (l : LineId) {f : Engine → Engine} (s : State) (h : lic.AtBank (s.line l).engine → lic.AtBank (f (s.line l).engine)) :
    State.Works lic l 0 s (updEngine l f s) :=
  State.updLine_works (Line.keeps_engine h)

theorem updEngine_works_same (lic : Licence) (l : LineId) {f : Engine → Engine} (s : State)
    (h : ∀ g : Engine, g.SameStand (f g) := by exact fun _ => ⟨rfl, rfl⟩) :
    State.Works lic l 0 s (updEngine l f s) :=
  updEngine_works l s fun hg => hg.of_sameStand (h _)

theorem setInactiveState_works (lic : Licence) (l : LineId) (st : BankState) (s : State) :
    State.Works lic l 0 s (setInactiveState l st s) :=
  updEngine_works_same lic l s fun g => ⟨by simp, by simp⟩

/-- A slot that ends replaces the active bank, and nothing else of the engine (R120). -/
theorem recordSlot_engine (l : LineId) (r : SlotResult) (k : Option Nat) (s : State) (n : Nat) :
    ∃ b, ((recordSlot l r k s n).line l).engine = (s.line l).engine.setBank (s.line l).engine.active b := by
  unfold recordSlot
  dsimp only
  split
  · exact ⟨(s.line l).engine.activeBank, (Engine.setBank_activeBank _).symm⟩
  · exact ⟨_, by simp; rfl⟩

theorem recordSlot_events (l : LineId) (r : SlotResult) (k : Option Nat) (s : State) (n : Nat) : (recordSlot l r k s n).events = s.events := by
  unfold recordSlot
  dsimp only
  split
  · rfl
  · simp [updEngine]

theorem recordSlot_works (lic : Licence) (l : LineId) (r : SlotResult) (k : Option Nat) (s : State) (n : Nat) :
    State.Works lic l 0 s (recordSlot l r k s n) := by
  obtain ⟨b, hb⟩ := recordSlot_engine l r k s n
  refine .of_line_events (recordSlot_touches l r k s n) (recordSlot_events l r k s n) (recordSlot_line l r k s n) (Line.keeps_engine fun hg => hg.of_sameStand ?_)
  rw [hb]
  exact ⟨by simp, by simp⟩

theorem recordSlot_sameStand (l : LineId) (r : SlotResult) (k : Option Nat) (s : State) (n : Nat) :
    (s.line l).engine.SameStand ((recordSlot l r k s n).line l).engine := by
  obtain ⟨b, hb⟩ := recordSlot_engine l r k s n
  rw [hb]
  exact ⟨by simp, by simp⟩

theorem recordSlots_works (lic : Licence) (l : LineId) (r : SlotResult) (ns : List Nat) (s : State) :
    State.Works lic l 0 s (recordSlots l r ns s) := by
  unfold recordSlots
  induction ns generalizing s with
  | nil => exact .refl lic l s
  | cons n rest ih => exact (recordSlot_works lic l r none s n).trans (ih _)

theorem recordPollOk_sound (lic : Licence) (l : LineId) (n : Nat) (p : List Byte) (s : State) :
    State.Works lic l 0 s (recordPollOk l n p s) ∧ (s.line l).engine.SameStand ((recordPollOk l n p s).line l).engine := by
  unfold recordPollOk
  dsimp only
  split
  · exact ⟨.refl lic l s, rfl, rfl⟩
  · next c hc =>
    split
    · exact ⟨recordSlot_works lic l _ _ s n, recordSlot_sameStand l _ _ s n⟩
    · refine ⟨(State.hostWrite_works lic l s _ _).trans (recordSlot_works lic l _ _ _ n), ?_⟩
      have h := recordSlot_sameStand l .ok (some (min p.length c.slot.inLength))
        (s.hostWrite ((s.line l).engine.activeBank.nextHalf c) (p.take (min p.length c.slot.inLength))) n
      rwa [State.hostWrite_line] at h

theorem startEvent_works (lic : Licence) (l : LineId) (s : State) : State.Works lic l 0 s (startEvent l s) := by
  unfold startEvent
  dsimp only
  split
  · exact updEngine_works_same lic l s
  · exact updEngine_works_same lic l s

/-! ## Switching and stopping (R124, R125) -/

/-- A switch exchanges the banks; it is licensed by a stopped engine or by a cycle start (R124). -/
theorem switchBanks_works (l : LineId) (s : State)
    (h : lic.starts ∨ (s.line l).engine.state = .stopped ∨ (s.line l).engine.state = .halted) : State.Works lic l 0 s (switchBanks l s) := by
  refine State.Works.trans (t := updEngine l _ s) (updEngine_works l s fun _ => ?_) (((raiseEvent_works lic l _ _).trans
    (writeCycleRecord_works lic l _)).trans (finishFirst_works lic l _ _ _))
  exact h.imp .inr fun h => by simpa using h

theorem switchIfCommitted_works (l : LineId) (s : State)
    (h : lic.starts ∨ (s.line l).engine.state = .stopped ∨ (s.line l).engine.state = .halted) :
    State.Works lic l 0 s (switchIfCommitted l s) := by
  unfold switchIfCommitted
  split
  · exact switchBanks_works l s h
  · exact .refl lic l s

theorem becomeStopped_works (lic : Licence) (l : LineId) (s : State) : State.Works lic l 0 s (becomeStopped l s) := by
  refine .trans (.trans (.trans ?_ (switchIfCommitted_works l _ ?_)) (writeCycleRecord_works lic l _)) (finishAll_works lic l _ _ _)
  · exact updEngine_works l s fun _ => .inr (.inl rfl)
  · exact .inr (.inl (by simp))

/-! ## Running slots (R115 to R121) -/

theorem passSlot_works (lic : Licence) (l : LineId) (s : State) : State.Works lic l 0 s (passSlot l s) :=
  updEngine_works_same lic l s

theorem prepareSlot_works (lic : Licence) (l : LineId) (c : SlotCell) (s : State) : State.Works lic l 0 s (prepareSlot l c s) := by
  unfold prepareSlot
  dsimp only
  split
  · exact updEngine_works_same lic l s
  · exact State.Works.trans (t := updEngine l _ s) (updEngine_works_same lic l s) (State.issueRead_works lic l _ _ _ _)

theorem Licence.OnBank.of_sameStand {g h : Engine} (hs : g.SameStand h) (hg : lic.OnBank g) : lic.OnBank h := by
  unfold Licence.OnBank at *
  rwa [hs.1]

/-- A slot that is passed leaves the engine on its bank. -/
theorem Licence.OnBank.passSlot {u : State} (h : lic.OnBank (u.line l).engine) : lic.OnBank ((passSlot l u).line l).engine :=
  h.of_sameStand ⟨by simp [Sys2Proof.Machine.passSlot], by simp [Sys2Proof.Machine.passSlot]⟩

theorem endCycle_works (l : LineId) (s : State) (h : lic.OnBank (s.line l).engine) : State.Works lic l 0 s (endCycle l s) :=
  (updEngine_works l s fun _ => .inl h).trans (writeCycleRecord_works lic l _)

theorem reachSlots_works (l : LineId) (ns : List Nat) (s : State) (h : lic.OnBank (s.line l).engine) :
    State.Works lic l 0 s (reachSlots l ns s) := by
  induction ns generalizing s with
  | nil => exact endCycle_works l s h
  | cons n rest ih =>
    unfold reachSlots
    split
    · exact (passSlot_works lic l s).trans (ih _ h.passSlot)
    · split
      · next r _ =>
        have hrec := h.of_sameStand (recordSlot_sameStand l r none s n)
        exact (recordSlot_works lic l r none s n).trans ((passSlot_works lic l _).trans (ih _ hrec.passSlot))
      · exact prepareSlot_works lic l _ s

theorem afterSlot_works (l : LineId) (s : State) (h : lic.OnBank (s.line l).engine) : State.Works lic l 0 s (afterSlot l s) := by
  unfold afterSlot
  dsimp only
  split
  · exact becomeStopped_works lic l s
  · split
    · exact endCycle_works l s h
    · split
      · exact .refl lic l s
      · exact reachSlots_works l _ s h

/-- A slot that has ended is passed, and the engine goes on. -/
theorem afterSlot_passSlot_works {u : State} (hwork : State.Works lic l 0 s u) (hstand : (s.line l).engine.SameStand (u.line l).engine)
    (h : lic.OnBank (s.line l).engine) : State.Works lic l 0 s (afterSlot l (passSlot l u)) :=
  hwork.trans ((passSlot_works lic l u).trans (afterSlot_works l _ (h.of_sameStand hstand).passSlot))

theorem endSlot_works (l : LineId) (r : SlotResult) (s : State) (h : lic.OnBank (s.line l).engine) :
    State.Works lic l 0 s (endSlot l r s) := by
  unfold endSlot
  split
  · exact .refl lic l s
  · exact afterSlot_passSlot_works (recordSlot_works lic l r none s _) (recordSlot_sameStand l r none s _) h

theorem pollOutcome_works (l : LineId) (o : ExchangeEnd) (s : State) (h : lic.OnBank (s.line l).engine) :
    State.Works lic l 0 s (pollOutcome l o s) := by
  unfold pollOutcome
  split
  · next p n _ _ =>
    obtain ⟨hwork, hstand⟩ := recordPollOk_sound lic l n p s
    exact afterSlot_passSlot_works hwork hstand h
  · exact endSlot_works l _ s h

theorem takeStart_works (l : LineId) (s : State) (h : lic.starts) : State.Works lic l 0 s (takeStart l s) := by
  have any (g : Engine) : lic.AtBank g := .inl (.inr h)
  have upd (f : Engine → Engine) (u : State) : State.Works lic l 0 u (updEngine l f u) := updEngine_works l u fun _ => any _
  unfold takeStart
  dsimp only
  have overrun (u : State) (p : Prop) [Decidable p] (ns : List Nat) (f : Engine → Engine) (e : Event) :
      State.Works lic l 0 u (if p then raiseEvent e (updEngine l f (recordSlots l .skippedOverrun ns u)) else u) :=
    .ite (fun _ => (recordSlots_works lic l _ _ _).trans ((upd _ _).trans (raiseEvent_works lic l _ _))) fun _ => .refl lic l u
  have switched (u : State) : State.Works lic l 0 u (switchIfCommitted l u) := switchIfCommitted_works l u (.inl h)
  refine .ite (fun _ => .trans ?_ (endCycle_works l _ (.inr h))) fun _ =>
    .trans (.trans ?_ ((upd _ _).trans (writeCycleRecord_works lic l _))) (reachSlots_works l _ _ (.inr h))
  all_goals exact .trans (.trans (.trans (upd _ s) (overrun _ _ _ _ _)) (switched _)) (upd _ _)

/-! ## Halt and device stop (R126, R127) -/

@[simp] theorem Engine.clearStart_active (g : Engine) : g.clearStart.active = g.active := rfl
@[simp] theorem Engine.clearStart_state (g : Engine) : g.clearStart.state = g.state := rfl

theorem haltEngine_works (lic : Licence) (l : LineId) (s : State) : State.Works lic l 0 s (haltEngine l s) := by
  unfold haltEngine
  dsimp only
  split
  · exact .refl lic l s
  · split
    · exact (recordSlots_works lic l _ _ s).trans ((passSlot_works lic l _).trans (becomeStopped_works lic l _))
    · refine .trans (.trans (.trans (.trans ?_ (updEngine_works l _ ?_)) (switchIfCommitted_works l _ ?_)) (raiseEvent_works lic l _ _))
        (writeCycleRecord_works lic l _)
      · exact recordSlots_works lic l _ _ s
      · exact fun _ => .inr (.inr rfl)
      · exact .inr (.inr (by simp))

theorem stopEngine_works (lic : Licence) (l : LineId) (s : State) : State.Works lic l 0 s (stopEngine l s) := by
  have stop (f : Engine → Engine) (u : State) (hf : ∀ g, (f g).state = .stopped) : State.Works lic l 0 u (writeCycleRecord l (updEngine l f u)) :=
    (updEngine_works l u fun _ => .inr (.inl (hf _))).trans (writeCycleRecord_works lic l _)
  unfold stopEngine
  dsimp only
  have clear : State.Works lic l 0 s (updEngine l (fun e => e.clearStart.setBank e.active.other
      { e.inactiveBank with state := e.inactiveBank.state.atStop }) s) :=
    updEngine_works_same lic l s fun g => ⟨by simp, by simp⟩
  split
  · exact clear
  · exact clear.trans (stop _ _ fun _ => by rfl)
  · exact clear.trans (stop _ _ fun _ => by rfl)
  · refine .ite (fun _ => .trans (clear.trans ?_) (updEngine_works_same lic l _)) fun _ => .trans (clear.trans ?_) (stop _ _ fun _ => by rfl)
    all_goals exact recordSlots_works lic l _ _ _

/-! ## Schedule requests (R105, R109, R110, R123, R125) -/

theorem endSchedule_works (lic : Licence) (l : LineId) (e : Entry) (st : Status) (s : State) : State.Works lic l 1 s (endSchedule l e st s) :=
  completeEntry_works lic l _ s e

theorem actLoad_works (lic : Licence) (l : LineId) (e : Entry) (n : Nat) (a : Addr) (s : State) : State.Works lic l 1 s (actLoad l e n a s) := by
  have load : State.Works lic l 1 s ((appendEntry l { e with state := .inFlight (.tableRead s.nextRead) }
      (updEngine l (fun g => g.setBank g.active.other { Bank.empty with state := .loading }) s)).issueRead (.slotTable l) a (16 * n)) :=
    State.Works.trans_right (State.Works.trans (updEngine_works_same lic l s fun g => ⟨by simp, by simp⟩) (appendEntry_works lic l _ _))
      (State.issueRead_works lic l _ _ _ _)
  unfold actLoad
  split
  · exact load
  · exact load
  · exact endSchedule_works lic l e _ s

theorem actStart_works (l : LineId) (e : Entry) (src : StartSource) (s : State) (h : lic.OnBank (s.line l).engine) :
    State.Works lic l 1 s (actStart l e src s) := by
  have refuse (st : Status) : State.Works lic l 1 s (endSchedule l e st s) := endSchedule_works lic l e st s
  unfold actStart
  dsimp only
  split
  · exact refuse _
  · split
    · exact refuse _
    · split
      · exact refuse _
      · split
        · exact refuse _
        · have begun (f : Engine → Engine) (hf : ∀ g, (f g).active = g.active) :
              State.Works lic l 1 s (writeCycleRecord l (endSchedule l e .ok (updEngine l f s))) := by
            refine State.Works.trans_right (State.Works.trans (updEngine_works l s fun _ => .inl ?_) (endSchedule_works lic l e _ _))
              (writeCycleRecord_works lic l _)
            unfold Licence.OnBank at *
            rwa [hf]
          exact .ite (fun _ => .trans_right (begun _ fun _ => by rfl) (startEvent_works lic l _)) fun _ => begun _ fun _ => by rfl

theorem actTrigger_works (lic : Licence) (l : LineId) (e : Entry) (s : State) : State.Works lic l 1 s (actTrigger l e s) := by
  unfold actTrigger
  split
  · exact (startEvent_works lic l s).trans (endSchedule_works lic l e _ _)
  · exact endSchedule_works lic l e _ s

theorem actSwitch_works (lic : Licence) (l : LineId) (e : Entry) (s : State) : State.Works lic l 1 s (actSwitch l e s) := by
  unfold actSwitch
  split
  · split
    · exact (setInactiveState_works lic l _ s).trans (appendEntry_works lic l _ _)
    · next hidle =>
      refine State.Works.trans (switchBanks_works l s (.inr ?_)) (endSchedule_works lic l e _ _)
      rw [Engine.runs_iff] at hidle
      revert hidle
      cases (s.line l).engine.state <;> simp
  · exact endSchedule_works lic l e _ s
  · exact endSchedule_works lic l e _ s
  · exact endSchedule_works lic l e _ s

theorem actStop_works (lic : Licence) (l : LineId) (e : Entry) (s : State) : State.Works lic l 1 s (actStop l e s) := by
  have running : State.Works lic l 1 s
      (if (s.line l).engine.stopRequested then appendEntry l { e with state := .inFlight .stopWait } s
      else
        let s' := recordSlots l .skippedStop (if (s.line l).engine.state = .inCycle then (s.line l).engine.remainingIdle else [])
          (updEngine l Engine.clearStart s)
        if (s.line l).engine.stage = .inFlight then
          appendEntry l { e with state := .inFlight .stopWait } (updEngine l (fun g => { g with stopRequested := true }) s')
        else endSchedule l e .ok (becomeStopped l s')) := by
    split
    · exact appendEntry_works lic l _ s
    · have cleared (ns : List Nat) : State.Works lic l 0 s (recordSlots l .skippedStop ns (updEngine l Engine.clearStart s)) :=
        (updEngine_works_same lic l s).trans (recordSlots_works lic l _ ns _)
      exact .ite (fun _ => .trans (.trans (cleared _) (updEngine_works_same lic l _)) (appendEntry_works lic l _ _))
        fun _ => .trans (.trans (cleared _) (becomeStopped_works lic l _)) (endSchedule_works lic l e _ _)
  unfold actStop
  dsimp only
  split
  · exact endSchedule_works lic l e _ s
  · exact (updEngine_works l s fun _ => .inr (.inl rfl)).trans
      ((writeCycleRecord_works lic l _).trans (endSchedule_works lic l e _ _))
  · exact running

theorem actSchedule_works (l : LineId) (e : Entry) (s : State) (hbody : e.body.isSchedule = true) (h : lic.OnBank (s.line l).engine) :
    State.Works lic l 1 s (actSchedule l e s) := by
  unfold actSchedule
  split
  · exact actLoad_works lic l e _ _ s
  · exact actStart_works l e _ s h
  · exact actStop_works lic l e s
  · exact actSwitch_works lic l e s
  · exact actTrigger_works lic l e s
  · next hload hstart hstop hswitch htrigger =>
    unfold Body.isSchedule at hbody
    split at hbody
    · next hb => exact absurd hb (hload _ _ _ _ _)
    · next a hb =>
      cases a
      · exact absurd hb (hstart _)
      · exact absurd hb hstop
      · exact absurd hb hswitch
      · exact absurd hb htrigger
    · cases hbody

theorem writeInitialStatuses_reports (a : Addr) (n : Nat) (cells : List SlotCell) (s : State) : s.Reports (writeInitialStatuses a n cells s) := by
  induction cells generalizing n s with
  | nil => exact .refl s
  | cons c rest ih => exact (s.hostWrite_reports _ _).trans (ih _ _)

theorem writeInitialStatuses_events (a : Addr) (n : Nat) (cells : List SlotCell) (s : State) :
    (writeInitialStatuses a n cells s).events = s.events := by
  induction cells generalizing n s with
  | nil => rfl
  | cons c rest ih => exact (ih _ _).trans rfl

theorem endTableRead_works (lic : Licence) (l : LineId) {i : Nat} (e : Entry) (data : Option (List Byte)) (s : State)
    (hi : i < (s.line l).entries.length) : State.Works lic l 0 s (endTableRead l i e data s) := by
  have fails (how : Ending) : State.Works lic l 0 s (finishEntry l i e how (setInactiveState l .empty s)) :=
    (setInactiveState_works lic l .empty s).trans (finishEntry_works lic l e how _ (by simpa [setInactiveState] using hi))
  unfold endTableRead
  split
  · split
    · exact fails _
    · refine .trans (.trans (updEngine_works_same lic l s ?_) ((writeInitialStatuses_reports _ 1 _ _).works_of_events lic l (writeInitialStatuses_events _ 1 _ _)))
        (finishEntry_works lic l e _ _ ?_)
      · exact fun g => ⟨by simp, by simp⟩
      · rw [(writeInitialStatuses_reports _ 1 _ _).line l]
        simpa using hi
  · exact fails _

end Sys2Proof.Machine
end

section
/-! PROOFS. The wake sequence, the request engine and LINE_CONFIG work on their line (R31 to R36, R60 to R78, R142 to R157). -/

set_option Elab.async false

namespace Sys2Proof.Machine

variable {lic : Licence} {d : Nat} {l : LineId} {s t : State}

/-! ## Work for the line controller and the wake sequence -/

theorem giveJob_works (hc : lic.control) (l : LineId) (k : JobKind) (s : State) : State.Works lic l 0 s (giveJob l k s) :=
  State.updLine_works (Line.keeps_control hc _ _ _ _ _ _)

theorem handExchange_works (hc : lic.control) (l : LineId) (a : Nat) (f : Byte) (p : List Byte) (n : Nat) (c : Claimant) (s : State) :
    State.Works lic l 0 s (handExchange l a f p n c s) := giveJob_works hc l _ s

theorem updWake_works (hc : lic.control) (l : LineId) (f : WakeSequence → WakeSequence) (s : State) :
    State.Works lic l 0 s (updWake l f s) :=
  State.updLine_works (Line.keeps_control hc _ _ _ _ _ _)

theorem endEpisode_works (hc : lic.control) (l : LineId) (s : State) : State.Works lic l 0 s (endEpisode l s) := updWake_works hc l _ s

theorem clearJob_works (hc : lic.control) (l : LineId) (s : State) : State.Works lic l 0 s (clearJob l s) :=
  State.updLine_works (Line.keeps_control hc _ _ _ _ _ _)

theorem clearConsecutive_works (lic : Licence) (l : LineId) (s : State) : State.Works lic l 0 s (clearConsecutive l s) :=
  State.updLine_works (Line.keeps_counts lic _ _ _)

theorem openWindow_works (hc : lic.control) (l : LineId) (s : State) : State.Works lic l 0 s (openWindow l s) :=
  State.updLine_works (Line.keeps_control hc _ _ _ _ _ _)

theorem enterClosing_works (hc : lic.control) (l : LineId) (a : Nat) (s : State) : State.Works lic l 0 s (enterClosing l a s) :=
  (updWake_works hc l _ s).trans (giveJob_works hc l _ _)

theorem rollNext_works (hc : lic.control) (l : LineId) (s : State) : State.Works lic l 0 s (rollNext l s) := by
  unfold rollNext
  split
  · exact enterClosing_works hc l 0 s
  · exact .ite (fun _ => enterClosing_works hc l 0 s) fun _ => (updWake_works hc l _ s).trans (handExchange_works hc l _ _ _ _ _ _)

theorem validWake_works (hc : lic.control) (l : LineId) (a : Nat) (s : State) : State.Works lic l 0 s (validWake l a s) :=
  (updWake_works hc l _ s).trans ((noteWake_works lic l a _).trans (enterClosing_works hc l a _))

theorem garbageWindow_works (hc : lic.control) (l : LineId) (s : State) : State.Works lic l 0 s (garbageWindow l s) :=
  .trans (State.updLine_works (Line.keeps_control hc _ _ _ _ _ _)) (rollNext_works hc l _)

theorem silentWindow_works (hc : lic.control) (l : LineId) (s : State) : State.Works lic l 0 s (silentWindow l s) :=
  (updWake_works hc l _ s).trans (enterClosing_works hc l 0 _)

theorem decideWindow_works (hc : lic.control) (l : LineId) (c : RxCheck) (s : State) : State.Works lic l 0 s (decideWindow l c s) := by
  unfold decideWindow
  split
  · exact .ite (fun _ => validWake_works hc l _ s) fun _ => garbageWindow_works hc l s
  · exact garbageWindow_works hc l s

theorem beginMasterWake_works (hc : lic.control) (l : LineId) (s : State) : State.Works lic l 0 s (beginMasterWake l s) :=
  (moveLine_works hc l _ _ s).trans (State.updLine_works (Line.keeps_control hc _ _ _ _ _ _))

theorem finishWake_works (hc : lic.control) (l : LineId) (s : State) : State.Works lic l 0 s (finishWake l s) := by
  unfold finishWake
  dsimp only
  refine .trans (.trans (.trans (.trans (.trans ?_ (raiseEvent_works lic l _ _)) (moveLine_works hc l _ _ _)) (endEpisode_works hc l _))
    (checkStarved_works lic l _)) (finishFirst_works lic l _ _ _)
  exact State.updLine_works ((Line.keeps_control hc (s.line l) _ none _ _ _).trans (Line.keeps_counts lic _ 0 _))

/-! ## Placing a record (R60, R61, R75) -/

/-- A record in hand completes behind other work: the list has not grown. -/
theorem State.Works.completes {u : State} (h : State.Works lic l 0 s u) (c : Completion) :
    State.Works lic l 1 s (complete l c u) ∧ ((complete l c u).line l).entries.length ≤ (s.line l).entries.length :=
  ⟨h.trans (complete_works lic l c u), by rw [complete_entries]; exact h.keeps.entries⟩

/-- An ABORT, in hand, completes some entries and itself (R75). -/
theorem executeAbort_works (hc : lic.control) (l : LineId) (a : Entry) (sel : AbortSelector) (s : State) :
    State.Works lic l 1 s (executeAbort l a sel s) ∧ ((executeAbort l a sel s).line l).entries.length ≤ (s.line l).entries.length := by
  have mark (u : State) (g : Entry → Entry) : State.Works lic l 0 u (u.updLine l (fun x => { x with entries := x.entries.map g })) :=
    State.updLine_works (Line.keeps_entries (List.length_map g))
  have markExchange (u : State) : State.Works lic l 0 u (u.updLine l Line.markRequestExchange) := by
    refine State.updLine_works ?_
    unfold Line.markRequestExchange
    split
    · split
      · exact Line.keeps_control hc _ _ _ _ _ _
      · exact .refl lic _
    · exact .refl lic _
  unfold executeAbort completeEntry
  dsimp only
  refine State.Works.completes (.ite (fun _ => .trans ?_ (markExchange _)) fun _ => ?_) _
  all_goals exact (finishAll_works lic l _ _ s).trans (mark _ _)

theorem placeEntry_works (l : LineId) (e : Entry) (s : State) (h : lic.OnBank (s.line l).engine) :
    State.Works lic l 1 s (placeEntry l e s) :=
  .ite (fun hbody => actSchedule_works l e s hbody h) fun _ => appendEntry_works lic l e s

/-- A record taken completes, joins the list, acts, or is staged behind a full list (R60, R61). -/
theorem takeRecord_works (hc : lic.control) (l : LineId) (i : Half) (d : List Byte) (s : State) (h : lic.OnBank (s.line l).engine) :
    (State.Works lic l 1 s (takeRecord l i d s) ∧ (((takeRecord l i d s).line l).entries.length ≤ (s.line l).entries.length ∨
      (s.line l).entries.length < Config.pendingMax)) ∨
      ∃ e, takeRecord l i d s = s.updLine l (fun x => { x with intake := { x.intake with staged := some e } }) := by
  unfold takeRecord
  split
  · obtain ⟨hwork, hlen⟩ := (State.Works.refl lic l s).completes (malformedCompletion d i)
    exact .inl ⟨hwork, .inl hlen⟩
  · dsimp only
    split
    · obtain ⟨hwork, hlen⟩ := executeAbort_works hc l (newEntry d i (.abort _)) _ s
      exact .inl ⟨hwork, .inl hlen⟩
    · split
      · next hroom => exact .inl ⟨placeEntry_works l _ s h, .inr hroom⟩
      · exact .inr ⟨_, rfl⟩

/-! ## Selection and outcomes (R63 to R70) -/

theorem prepareTraffic_works (lic : Licence) (l : LineId) (i : Nat) (e : Entry) (s : State) :
    State.Works lic l 0 s (prepareTraffic l i e s) :=
  .ite (fun _ => putEntry_works lic l i _ s) fun _ => (putEntry_works lic l i _ s).trans (State.issueRead_works lic l _ _ _ _)

theorem selectTraffic_works (hc : lic.control) (l : LineId) {i : Nat} (e : Entry) (s : State) (hi : i < (s.line l).entries.length) :
    State.Works lic l 0 s (selectTraffic l i e s) := by
  have finish (how : Ending) := finishEntry_works lic l e how s hi
  refine .ite (fun _ => finish _) fun _ => .ite (fun _ => .ite (fun _ => beginMasterWake_works hc l s) fun _ => finish _) fun _ => ?_
  split
  · exact finish _
  · exact prepareTraffic_works lic l i e s

theorem endPayloadRead_works (lic : Licence) (l : LineId) {i : Nat} (e : Entry) (data : Option (List Byte)) (s : State)
    (hi : i < (s.line l).entries.length) : State.Works lic l 0 s (endPayloadRead l i e data s) := by
  refine .ite (fun _ => finishEntry_works lic l e _ s hi) fun _ => ?_
  split
  · exact finishEntry_works lic l e _ s hi
  · exact putEntry_works lic l i _ s

theorem handTraffic_works (hc : lic.control) (l : LineId) (b : Body) (p : List Byte) (s : State) :
    State.Works lic l 0 s (handTraffic l b p s) := by
  unfold handTraffic
  split
  · exact handExchange_works hc l _ _ _ _ _ s
  · exact giveJob_works hc l _ s
  · exact .refl lic l s

theorem grantTraffic_works (hc : lic.control) (l : LineId) {i : Nat} (e : Entry) (p : List Byte) (s : State)
    (hi : i < (s.line l).entries.length) : State.Works lic l 0 s (grantTraffic l i e p s) := by
  refine .ite (fun _ => finishEntry_works lic l e _ s hi) fun _ => ?_
  split
  · exact finishEntry_works lic l e _ s hi
  · exact (putEntry_works lic l i _ s).trans (handTraffic_works hc l _ _ _)

theorem deliverResponse_works (lic : Licence) (l : LineId) {i : Nat} (e : Entry) (p : List Byte) (s : State)
    (hi : i < (s.line l).entries.length) : State.Works lic l 0 s (deliverResponse l i e p s) := by
  unfold deliverResponse
  dsimp only
  split
  · exact finishEntry_works lic l e _ s hi
  · exact (State.hostWrite_works lic l s _ _).trans (finishEntry_works lic l e _ _ (by simpa using hi))

theorem busyOutcome_works (lic : Licence) (l : LineId) {i : Nat} (e : Entry) (s : State) (hi : i < (s.line l).entries.length) :
    State.Works lic l 0 s (busyOutcome l i e s) :=
  .ite (fun _ => finishEntry_works lic l _ _ s hi) fun _ => .ite (fun _ => finishEntry_works lic l _ _ s hi) fun _ =>
    .ite (fun _ => finishEntry_works lic l _ _ s hi) fun _ => putEntry_works lic l i _ s

theorem requestOutcome_works (lic : Licence) (l : LineId) (o : ExchangeEnd) (n : Nat) (s : State) :
    State.Works lic l 0 s (requestOutcome l o n s) := by
  unfold requestOutcome
  split
  · exact .refl lic l s
  · next i e hfind =>
    have hi := Line.findEntry_lt hfind
    dsimp only
    split
    case h_1 => exact deliverResponse_works lic l _ _ s hi
    case h_5 => exact busyOutcome_works lic l _ s hi
    all_goals exact finishEntry_works lic l _ _ s hi

theorem sendOutcome_works (lic : Licence) (l : LineId) (sent : Bool) (s : State) : State.Works lic l 0 s (sendOutcome l sent s) := by
  unfold sendOutcome
  split
  · exact .refl lic l s
  · next i e hfind => exact finishEntry_works lic l _ _ s (Line.findEntry_lt hfind)

/-! ## LINE_CONFIG (R31 to R36, R50) -/

/-- The sixteen checks of a Line Parameter Block, group by group (R24, R34). -/
theorem badParameter_eq_none {m : GroupMask} {d : List Byte} (h : badParameter m d = none) :
    (m.link = true → (Params.ofBlock d).rate ≤ 9 ∧ 8 ≤ (Params.ofBlock d).gap ∧ (Params.ofBlock d).gap ≤ 255) ∧
    (m.timing = true → (20 ≤ (Params.ofBlock d).responseTimeout ∧ (Params.ofBlock d).responseTimeout ≤ 65535) ∧
      (Params.ofBlock d).retryLimit ≤ 7 ∧ (Params.ofBlock d).slotRetryLimit ≤ 1 ∧
      (50 ≤ (Params.ofBlock d).busyHoldoff ∧ (Params.ofBlock d).busyHoldoff ≤ 65535) ∧
      1 ≤ (Params.ofBlock d).busyLimit ∧ (Params.ofBlock d).busyLimit ≤ 255) ∧
    (m.health = true → (1 ≤ (Params.ofBlock d).offlineThreshold ∧ (Params.ofBlock d).offlineThreshold ≤ 15) ∧
      (Params.ofBlock d).rejoinInterval ≤ 255 ∧ 1 ≤ (Params.ofBlock d).collisionLimit ∧ (Params.ofBlock d).collisionLimit ≤ 7) ∧
    (m.rest = true → (1 ≤ (Params.ofBlock d).wakeToneLength ∧ (Params.ofBlock d).wakeToneLength ≤ 16) ∧
      (500 ≤ (Params.ofBlock d).listenWindow ∧ (Params.ofBlock d).listenWindow ≤ 8000) ∧
      100 ≤ (Params.ofBlock d).quiesceTime ∧ (Params.ofBlock d).quiesceTime ≤ 10000) := by
  simp only [badParameter, GroupMask.members, parameterRanges, parameterValues, firstOutOfRange, ite_eq_right_iff, reduceCtorEq,
    imp_false, Bool.and_eq_true, Bool.not_eq_true', Bool.and_eq_false_iff, decide_eq_false_iff_not, not_and, not_or, not_not,
    ite_eq_iff, and_false, false_or, Nat.zero_le] at h
  obtain ⟨h1, -, h3, h4, h5, h6, h7, h8, h9, h10, h11, h12, h13, h14, -⟩ := h
  simp only [Params.ofBlock]
  exact ⟨fun hm => ⟨(h1 hm).2, h3 hm⟩, fun hm => ⟨h4 hm, (h5 hm).2, (h6 hm).2, h7 hm, h8 hm⟩,
    fun hm => ⟨h9 hm, (h10 hm).2, h11 hm⟩, fun hm => ⟨h12 hm, h13 hm, h14 hm⟩⟩

/-- The named groups of a set in range, installed over a set in range, leave a set in range (R24, R35). -/
theorem Params.InRange.install {p q : Params} {m : GroupMask} (h : p.InRange)
    (hlink : m.link = true → q.rate ≤ 9 ∧ 8 ≤ q.gap ∧ q.gap ≤ 255)
    (htiming : m.timing = true → (20 ≤ q.responseTimeout ∧ q.responseTimeout ≤ 65535) ∧ q.retryLimit ≤ 7 ∧ q.slotRetryLimit ≤ 1 ∧
      (50 ≤ q.busyHoldoff ∧ q.busyHoldoff ≤ 65535) ∧ 1 ≤ q.busyLimit ∧ q.busyLimit ≤ 255)
    (hhealth : m.health = true → (1 ≤ q.offlineThreshold ∧ q.offlineThreshold ≤ 15) ∧ q.rejoinInterval ≤ 255 ∧
      1 ≤ q.collisionLimit ∧ q.collisionLimit ≤ 7)
    (hrest : m.rest = true → (1 ≤ q.wakeToneLength ∧ q.wakeToneLength ≤ 16) ∧ (500 ≤ q.listenWindow ∧ q.listenWindow ≤ 8000) ∧
      100 ≤ q.quiesceTime ∧ q.quiesceTime ≤ 10000) : (p.install m q).InRange := by
  unfold InRange at *
  obtain ⟨p1, p3, p4, p5, p6, p7, p8, p9, p10, p11, p12, p13, p14⟩ := h
  have pick {c : Bool} {u v : Nat} {P : Nat → Prop} (hu : c = true → P u) (hv : P v) : P (if c then u else v) := by
    split
    · exact hu ‹_›
    · exact hv
  simp only [Params.install]
  exact ⟨pick (P := (· ≤ 9)) (fun h => (hlink h).1) p1, pick (P := fun n => 8 ≤ n ∧ n ≤ 255) (fun h => (hlink h).2) p3,
    pick (P := fun n => 20 ≤ n ∧ n ≤ 65535) (fun h => (htiming h).1) p4, pick (P := (· ≤ 7)) (fun h => (htiming h).2.1) p5,
    pick (P := (· ≤ 1)) (fun h => (htiming h).2.2.1) p6, pick (P := fun n => 50 ≤ n ∧ n ≤ 65535) (fun h => (htiming h).2.2.2.1) p7,
    pick (P := fun n => 1 ≤ n ∧ n ≤ 255) (fun h => (htiming h).2.2.2.2) p8,
    pick (P := fun n => 1 ≤ n ∧ n ≤ 15) (fun h => (hhealth h).1) p9, pick (P := (· ≤ 255)) (fun h => (hhealth h).2.1) p10,
    pick (P := fun n => 1 ≤ n ∧ n ≤ 7) (fun h => (hhealth h).2.2) p11, pick (P := fun n => 1 ≤ n ∧ n ≤ 16) (fun h => (hrest h).1) p12,
    pick (P := fun n => 500 ≤ n ∧ n ≤ 8000) (fun h => (hrest h).2.1) p13,
    pick (P := fun n => 100 ≤ n ∧ n ≤ 10000) (fun h => (hrest h).2.2) p14⟩

theorem Params.InRange.threshold_pos {p : Params} (h : p.InRange) : 1 ≤ p.offlineThreshold := by
  unfold Params.InRange at h
  omega

/-- A record re-evaluated under a new threshold keeps the law of the new one (R50). -/
theorem Station.rethreshold_law {old new : Nat} {r : Station} (h : r.Law old) : (r.rethreshold old new).Law new := by
  unfold Station.Law at h
  unfold Station.rethreshold Station.Law
  cases hst : r.state <;> simp only [hst] at h
  case disabled => simpa [hst] using h
  case offline => grind
  all_goals grind

theorem Station.rethreshold_seq (old new : Nat) (r : Station) : (r.rethreshold old new).seq = r.seq := by
  unfold Station.rethreshold
  split
  · rfl
  · split
    · rfl
    · split <;> rfl

/-- Changing several records changes the station table and nothing else of the line. -/
theorem foldl_changeStation_line (l : LineId) (cause : HealthCause) (f : Station → Station) (as : List Nat) (s : State) :
    ∃ table, (as.foldl (changeStation l cause f) s).line l = { s.line l with stations := table } := by
  induction as generalizing s with
  | nil => exact ⟨_, rfl⟩
  | cons a rest ih =>
    obtain ⟨table, h⟩ := ih (changeStation l cause f s a)
    exact ⟨table, by rw [List.foldl_cons, h, changeStation_line, Line.setStation_rest]⟩

theorem nodup_stationAddresses : stationAddresses.Nodup := List.nodup_range'

theorem mem_stationAddresses {a : Nat} : a ∈ stationAddresses ↔ 1 ≤ a ∧ a ≤ 62 := by
  simp only [stationAddresses, List.mem_range'_1]
  omega

/-- Every record is re-evaluated once (R50). -/
theorem reevaluate_station (l : LineId) (old new : Nat) (s : State) {a : Nat} (ha : 1 ≤ a ∧ a ≤ 62) :
    ((reevaluate l old new s).line l).station a = ((s.line l).station a).rethreshold old new := by
  rw [reevaluate, foldl_changeStation_station l _ _ _ s nodup_stationAddresses (fun b hb => mem_stationAddresses.mp hb),
    if_pos (mem_stationAddresses.mpr ha)]

/-- A record outside the table is read as a fresh one (R37). -/
theorem Line.station_of_not (x : Line) {a : Nat} (ha : ¬(1 ≤ a ∧ a ≤ 62)) : x.station a = Station.fresh := dif_neg ha

theorem Params.install_offlineThreshold (p q : Params) (m : GroupMask) :
    (p.install m q).offlineThreshold = if m.health then q.offlineThreshold else p.offlineThreshold := rfl

/-- A parameter set and the station table are replaced together (R35, R50). -/
theorem Line.keeps_params (hc : lic.control) {x : Line} {p : Params} {link : Bool} {table : Vector Station 62} (hp : x.params.InRange → p.InRange)
    (hseq : ∀ a, ({ x.setParams link p with stations := table }.station a).seq = (x.station a).seq)
    (hlaw : ∀ a, 1 ≤ a ∧ a ≤ 62 → (x.station a).Law x.params.offlineThreshold →
      ({ x.setParams link p with stations := table }.station a).Law p.offlineThreshold) :
    x.Keeps lic 0 { x.setParams link p with stations := table } where
  toSound := {
    control := .inr hc
    buffers := id
    table := fun h => ⟨hp h.1, (hp h.1).threshold_pos, fun a h1 h62 => hlaw a ⟨h1, h62⟩ (h.2.2 a h1 h62)⟩
    seq := fun a => .inl (hseq a)
    bank := id }
  intake := rfl
  entries := le_rfl
  booked _ := rfl

theorem foldl_changeStation_eventLaw (l : LineId) (cause : HealthCause) (f : Station → Station) (as : List Nat) (h : s.EventLaw) :
    (as.foldl (changeStation l cause f) s).EventLaw := by
  induction as generalizing s with
  | nil => exact h
  | cons a rest ih => exact ih (changeStation_eventLaw l cause f a h)

/-- Values that leave the set in force in range may be installed; with HEALTH the records are re-evaluated (R35, R50). -/
theorem installParams_works (hc : lic.control) (l : LineId) (m : GroupMask) (new : Params) (s : State)
    (h : ∀ p : Params, p.InRange → (p.install m new).InRange) : State.Works lic l 0 s (installParams l m new s) := by
  refine .trans ?_ (checkStarved_works lic l _)
  have htouch := s.updLine_touches l (fun x => x.setParams m.link ((s.line l).params.install m new))
  have hline := s.updLine_line_same l (fun x => x.setParams m.link ((s.line l).params.install m new))
  cases hm : m.health with
  | false =>
    refine .of_line_events htouch (by simp) hline (Line.keeps_params (p := (s.line l).params.install m new) (link := m.link) hc (h _) (fun _ => rfl) fun a _ hlaw => ?_)
    rw [Params.install_offlineThreshold, if_neg (by simp [hm])]
    exact hlaw
  | true =>
    obtain ⟨table, htable⟩ := foldl_changeStation_line l .threshold
      (Station.rethreshold (s.line l).params.offlineThreshold new.offlineThreshold) stationAddresses
      (s.updLine l (fun x => x.setParams m.link ((s.line l).params.install m new)))
    have hstation {a : Nat} (ha : 1 ≤ a ∧ a ≤ 62) :=
      reevaluate_station l (s.line l).params.offlineThreshold new.offlineThreshold
        (s.updLine l (fun x => x.setParams m.link ((s.line l).params.install m new))) ha
    simp only [reevaluate, htable, hline] at hstation
    refine .of_line (htouch.trans (foldl_changeStation_touches l _ _ _ _))
      (fun hlaw => foldl_changeStation_eventLaw l _ _ _ (hlaw.of_same (State.updLine_events ..) (State.updLine_context ..))) (htable.trans (by rw [hline]))
      (Line.keeps_params (p := (s.line l).params.install m new) (link := m.link) hc (h _) (fun a => ?_) fun a ha hlaw => ?_)
    · by_cases ha : 1 ≤ a ∧ a ≤ 62
      · rw [hstation ha]
        exact Station.rethreshold_seq _ _ _
      · rw [Line.station_of_not _ ha, Line.station_of_not _ ha]
    · rw [hstation ha]
      rw [Params.install_offlineThreshold, if_pos hm]
      exact Station.rethreshold_law hlaw

theorem writeParamsCopy_works (lic : Licence) (l : LineId) (n : Nat) (a : Addr) (s : State) :
    State.Works lic l 0 s (writeParamsCopy l n a s) :=
  .ite (fun _ => .refl lic l s) fun _ => State.hostWrite_works lic l s _ _

theorem writeParamsCopy_line (l k : LineId) (n : Nat) (a : Addr) (s : State) : (writeParamsCopy l n a s).line k = s.line k := by
  unfold writeParamsCopy
  split
  · rfl
  · simp

theorem finishConfig_works (lic : Licence) (l : LineId) {i : Nat} (e : Entry) (how : Ending) (s : State) (hi : i < (s.line l).entries.length) :
    State.Works lic l 0 s (finishConfig l i e how s) := by
  unfold finishConfig
  split
  · exact (writeParamsCopy_works lic l _ _ s).trans (finishEntry_works lic l e how _ (by rwa [writeParamsCopy_line]))
  · exact finishEntry_works lic l e how s hi

/-- The Default values are in range (R24). -/
theorem Params.default_inRange : Params.default.InRange := by
  unfold Params.InRange
  decide

theorem Params.InRange.install_default {p : Params} (m : GroupMask) (h : p.InRange) : (p.install m Params.default).InRange :=
  h.install (fun _ => by decide) (fun _ => by decide) (fun _ => by decide) fun _ => by decide

theorem Params.InRange.install_block {p : Params} {m : GroupMask} {d : List Byte} (hd : badParameter m d = none) (h : p.InRange) :
    (p.install m (Params.ofBlock d)).InRange := by
  obtain ⟨hlink, htiming, hhealth, hrest⟩ := badParameter_eq_none hd
  exact h.install hlink htiming hhealth hrest

/-- Installing parameters leaves the list. -/
theorem installParams_entries (l : LineId) (m : GroupMask) (new : Params) (s : State) :
    ((installParams l m new s).line l).entries = (s.line l).entries := by
  unfold installParams
  dsimp only
  obtain ⟨starved, h⟩ := checkStarved_line l
    (if m.health then reevaluate l (s.line l).params.offlineThreshold new.offlineThreshold
      (s.updLine l (fun x => x.setParams m.link ((s.line l).params.install m new)))
    else s.updLine l (fun x => x.setParams m.link ((s.line l).params.install m new)))
  rw [h]
  dsimp only
  split
  · obtain ⟨table, htable⟩ := foldl_changeStation_line l .threshold
      (Station.rethreshold (s.line l).params.offlineThreshold new.offlineThreshold) stationAddresses
      (s.updLine l (fun x => x.setParams m.link ((s.line l).params.install m new)))
    rw [reevaluate, htable, State.updLine_line_same]
    rfl
  · rw [State.updLine_line_same]
    rfl

theorem actConfig_works (hc : lic.control) (l : LineId) (e : Entry) (m : GroupMask) (defaults : Bool) (a : Addr) (s : State)
    (h0 : 0 < (s.line l).entries.length) : State.Works lic l 0 s (actConfig l e m defaults a s) := by
  refine .ite (fun _ => finishConfig_works lic l e _ s h0) fun _ => .ite (fun _ => finishConfig_works lic l e _ s h0) fun _ =>
    .ite (fun _ => (putEntry_works lic l 0 _ s).trans (State.issueRead_works lic l _ _ _ _)) fun _ => ?_
  exact (installParams_works hc l m _ s fun _ hp => hp.install_default m).trans
    (finishConfig_works lic l e _ _ (by rwa [installParams_entries]))

theorem endBlockRead_works (hc : lic.control) (l : LineId) {i : Nat} (e : Entry) (m : GroupMask) (data : Option (List Byte)) (s : State)
    (hi : i < (s.line l).entries.length) : State.Works lic l 0 s (endBlockRead l i e m data s) := by
  refine .ite (fun _ => finishConfig_works lic l e _ s hi) fun _ => ?_
  split
  · exact finishConfig_works lic l e _ s hi
  · split
    · exact finishConfig_works lic l e _ s hi
    · next hd =>
      exact (installParams_works hc l m _ s fun _ hp => hp.install_block hd).trans
        (finishConfig_works lic l e _ _ (by rwa [installParams_entries]))

end Sys2Proof.Machine
end

section
/-! PROOFS. The line controller, the arbiter and the entry to FAULTED work on their line (R8 to R21, R128 to R132, R159 to R164). -/

set_option Elab.async false

namespace Sys2Proof.Machine

variable {lic : Licence} {d : Nat} {l : LineId} {s t : State}

/-! ## Attempts and exchanges -/

/-- An exchange ends with an answer that advances SEQ only when its last attempt was answered so (R14, R40). -/
theorem Exchange.advances_afterAttempt {x : Exchange} {a : AttemptEnd} {o : ExchangeEnd} (h : (x.afterAttempt a).2 = some o)
    (ho : o.advances = true) : ∃ attn f p, a = .success attn f p := by
  unfold Exchange.afterAttempt spentOutcome at h
  cases a
  case success attn f p => exact ⟨attn, f, p, rfl⟩
  case nakBusy | nakRefused => (cases h; cases ho)
  all_goals
    dsimp only at h
    split_ifs at h
    all_goals (cases h; cases ho)

/-- The report of an exchange leaves the cycle engine. -/
theorem reported_engine (l : LineId) (a : Nat) (o : ExchangeEnd) (s : State) :
    ((checkStarved l (reportOutcome l a o (clearJob l s))).line l).engine = (s.line l).engine := by
  obtain ⟨starved, h⟩ := checkStarved_line l (reportOutcome l a o (clearJob l s))
  rw [h, reportOutcome_line, Line.setStation_rest]
  simp [clearJob]

theorem deliverExchange_works (hc : lic.control) (l : LineId) (x : Exchange) (o : ExchangeEnd) (s : State)
    (h : lic.OnBank (s.line l).engine) : State.Works lic l 0 s (deliverExchange l x o s) := by
  unfold deliverExchange
  split
  · exact requestOutcome_works lic l o _ s
  · exact pollOutcome_works l o s h
  · exact fetchOutcome_works lic l _ o s
  · exact rollNext_works hc l s

theorem endExchange_works (hc : lic.control) (l : LineId) (x : Exchange) (o : ExchangeEnd) (s : State) (h : lic.OnBank (s.line l).engine)
    (hans : o.advances = true → lic.answers x.station) : State.Works lic l 0 s (endExchange l x o s) :=
  (clearJob_works hc l s).trans ((reportOutcome_works l _ o _ hans).trans ((checkStarved_works lic l _).trans
    (deliverExchange_works hc l x o _ (by rwa [reported_engine]))))

theorem Exchange.afterAttempt_station (x : Exchange) (a : AttemptEnd) : (x.afterAttempt a).1.station = x.station := by
  unfold Exchange.afterAttempt
  cases a
  case nakSeq =>
    dsimp only
    split <;> rfl
  all_goals rfl

theorem endAttempt_works (hc : lic.control) (l : LineId) (x : Exchange) (a : AttemptEnd) (s : State) (h : lic.OnBank (s.line l).engine)
    (hans : (∃ attn f p, a = .success attn f p) → lic.answers x.station) : State.Works lic l 0 s (endAttempt l x a s) := by
  have hend {x' o} (hx : x.afterAttempt a = (x', some o)) : State.Works lic l 0 s (endExchange l x' o s) := by
    have hstation := x.afterAttempt_station a
    rw [hx] at hstation
    exact endExchange_works hc l x' o s h fun ho => hstation ▸ hans (x.advances_afterAttempt (by rw [hx]) ho)
  unfold endAttempt
  split
  · next hx => exact hend hx
  · exact giveJob_works hc l _ s

theorem endData_works (hc : lic.control) (l : LineId) (x : DataOrder) (sent : Bool) (s : State) (h : lic.OnBank (s.line l).engine) :
    State.Works lic l 0 s (endData l x sent s) := by
  unfold endData
  dsimp only
  refine .trans (clearJob_works hc l s) ?_
  split
  · exact endSlot_works l _ _ (by simpa [clearJob] using h)
  · exact sendOutcome_works lic l sent _
  · exact .refl lic l _

theorem endCollided_works (hc : lic.control) (l : LineId) (j : JobKind) (s : State) (h : lic.OnBank (s.line l).engine) :
    State.Works lic l 0 s (endCollided l j s) := by
  unfold endCollided
  split
  · exact endAttempt_works hc l _ _ s h nofun
  · exact endData_works hc l _ _ s h
  · exact giveJob_works hc l _ s
  · exact .ite (fun _ => (clearJob_works hc l s).trans ((endEpisode_works hc l _).trans (finishFirst_works lic l _ _ _)))
      fun _ => giveJob_works hc l _ s
  · exact .refl lic l s

/-! ## Entry to FAULTED -/

theorem faultRequests_works (lic : Licence) (l : LineId) (cut : Option Job) (s : State) : State.Works lic l 0 s (faultRequests l cut s) :=
  .trans (State.updLine_works (Line.keeps_entries (List.length_map _))) (finishAll_works lic l _ _ _)

theorem faultCollector_works (lic : Licence) (l : LineId) (cut : Option Job) (s : State) : State.Works lic l 0 s (faultCollector l cut s) := by
  unfold faultCollector
  split
  · exact .ite (fun _ => moveRotation_works lic l _ s) fun _ => .refl lic l s
  · exact .refl lic l s

theorem enterFaulted_works (hc : lic.control) (l : LineId) (r : LineReason) (cycleFirst : Bool) (s : State) :
    State.Works lic l 0 s (enterFaulted l r cycleFirst s) := by
  unfold enterFaulted
  dsimp only
  refine .trans ?_ (faultCollector_works lic l _ _)
  have hcut : State.Works lic l 0 s (s.updLine l (fun x =>
      { x.cutForFault with state := .faulted, counters := { x.counters with faultsEntered := x.counters.faultsEntered + 1 } })) :=
    State.updLine_works ((Line.keeps_control hc (s.line l) _ none _ _ _).trans (Line.keeps_counts lic _ _ _))
  have hreport (u : State) (e : Event) : State.Works lic l 0 u (raiseEvent e (writeCounters l u)) :=
    (writeCounters_works lic l u).trans (raiseEvent_works lic l e _)
  exact .ite (fun _ => (hcut.trans (hreport _ _)).trans ((haltEngine_works lic l _).trans (faultRequests_works lic l _ _)))
    fun _ => (hcut.trans (hreport _ _)).trans ((faultRequests_works lic l _ _).trans (haltEngine_works lic l _))

/-! ## Reception -/

theorem endWatch_works (lic : Licence) (l : LineId) (s : State) : State.Works lic l 0 s (endWatch l s) := finishFirst_works lic l _ _ s

theorem frameStart_works (hc : lic.control) (l : LineId) (s : State) : State.Works lic l 0 s (frameStart l s) := by
  refine .trans (endWatch_works lic l s) (State.updLine_works ?_)
  unfold Line.beginReception
  split
  · exact Line.keeps_control hc _ _ _ _ _ _
  · exact Line.keeps_control hc _ _ _ _ _ _
  · exact Line.keeps_control hc _ _ _ _ _ _

theorem frameArrival_works (hc : lic.control) (l : LineId) (rx : Reception) (s : State) : State.Works lic l 0 s (frameArrival l rx s) := by
  unfold frameArrival
  split
  · exact frameStart_works hc l s
  · exact .ite (fun _ => endWatch_works lic l s) fun _ => .refl lic l s

theorem countCrc_works (lic : Licence) (l : LineId) (c : RxCheck) (s : State) : State.Works lic l 0 s (countCrc l c s) :=
  .ite (fun _ => countOnLine_works lic l _ s) fun _ => .refl lic l s

/-- An answer is licensed for the station of the exchange in flight, when the frame was received as its answer. -/
theorem deliverFrame_works (hc : lic.control) (l : LineId) (role : RxRole) (c : RxCheck) (s : State) (h : lic.OnBank (s.line l).engine)
    (hans : ∀ x st attn f p, (s.line l).job = some ⟨.exchange x, st⟩ → classifyAnswer x c = .success attn f p → role = .answer →
      lic.answers x.station) : State.Works lic l 0 s (deliverFrame l role c s) := by
  unfold deliverFrame
  split
  · split
    · next x st hjob =>
      exact endAttempt_works hc l x _ s h fun ⟨attn, f, p, hsuccess⟩ => hans x st attn f p hjob hsuccess rfl
    · exact .refl lic l s
  · exact decideWindow_works hc l c s
  · split
    · exact countOnLine_works lic l _ s
    · exact .refl lic l s

/-! ## Grants -/

theorem setGrantee_works (lic : Licence) (l : LineId) (g : Grantee) (s : State) : State.Works lic l 0 s (setGrantee l g s) :=
  State.updLine_works (Line.keeps_grantee lic _ g)

theorem grantSlot_works (hc : lic.control) (l : LineId) (s : State) (h : lic.OnBank (s.line l).engine) :
    State.Works lic l 0 s (grantSlot l s) := by
  unfold grantSlot
  dsimp only
  split
  · split
    · exact .refl lic l s
    · split
      · exact endSlot_works l _ s h
      · split
        · exact .trans (updEngine_works_same lic l s) (handExchange_works hc l _ _ _ _ _ _)
        · exact .trans (updEngine_works_same lic l s) (giveJob_works hc l _ _)
  · exact .refl lic l s

theorem grantRequest_works (hc : lic.control) (l : LineId) (s : State) : State.Works lic l 0 s (grantRequest l s) := by
  unfold grantRequest
  dsimp only
  refine .trans (setGrantee_works lic l .requestEngine s) ?_
  split
  · next i e hfind =>
    split
    · exact grantTraffic_works hc l e _ _ (Line.findEntry_lt hfind)
    · exact .refl lic l _
  · exact .refl lic l _

theorem grantRest_works (hc : lic.control) (l : LineId) (s : State) : State.Works lic l 0 s (grantRest l s) := by
  unfold grantRest
  dsimp only
  refine .trans (setGrantee_works lic l .requestEngine s) ?_
  split
  · exact .refl lic l _
  · next i e hfind =>
    split
    · exact finishEntry_works lic l e _ _ (Line.findEntry_lt hfind)
    · exact (putEntry_works lic l i _ _).trans ((moveLine_works hc l _ _ _).trans ((updWake_works hc l _ _).trans (giveJob_works hc l _ _)))

theorem grantFetch_works (hc : lic.control) (l : LineId) (s : State) : State.Works lic l 0 s (grantFetch l s) := by
  unfold grantFetch
  dsimp only
  have claimed : State.Works lic l 0 s ((setGrantee l .collector s).updLine l
      (fun x => { x with collector := { x.collector with claim := false } })) :=
    (setGrantee_works lic l .collector s).trans (State.updLine_works (Line.keeps_collector lic _ _))
  refine .ite (fun _ => ?_) fun _ => claimed
  split
  · exact claimed.trans (handExchange_works hc l _ _ _ _ _ _)
  · exact claimed

/-- Only the grant of a start needs the licence of a start (R112, R124). -/
theorem grant_works (hc : lic.control) (l : LineId) (c : Claim) (s : State) (hstart : c = .start → lic.starts)
    (h : lic.OnBank (s.line l).engine) : State.Works lic l 0 s (grant l c s) := by
  cases c
  case start => exact takeStart_works l s (hstart rfl)
  case slot => exact grantSlot_works hc l s h
  case traffic => exact grantRequest_works hc l s
  case barrier => exact grantRest_works hc l s
  case fetch => exact grantFetch_works hc l s

end Sys2Proof.Machine
end

section
/-! PROOFS. What a command does to the lines: intake and its books, host reads, and each command of one line. -/

set_option Elab.async false

namespace Sys2Proof.Machine

variable {lic : Licence} {d : Nat} {l : LineId} {s t u : State} {x y z : Line}

/-! ## What a command keeps of a line -/

/-- The books of a line with a completion ring of this size balance (R58, R61, R79). -/
def Line.CreditOk (x : Line) (size : Nat) : Prop :=
  size ≤ 1024 ∧ (x.intake.staged.isSome = true → x.intake.fetch = none) ∧ x.booked = size - 1

theorem State.creditLaw_iff : s.CreditLaw l ↔ (s.line l).CreditOk (s.context.lineSection l).completionRing.size := Iff.rfl

/-- From `x` to `y` a whole command was done: the laws are kept, the list and the books too (R58, R61). -/
structure Line.Steps (lic : Licence) (x y : Line) : Prop extends x.Sound lic y where
  pending : x.PendingLaw → y.PendingLaw
  credit : ∀ size, x.CreditOk size → y.CreditOk size

theorem Line.Steps.refl (lic : Licence) (x : Line) : x.Steps lic x := ⟨.refl lic x, id, fun _ => id⟩

theorem Line.Steps.trans (h : x.Steps lic y) (k : y.Steps lic z) : x.Steps lic z :=
  ⟨h.toSound.trans k.toSound, k.pending ∘ h.pending, fun n => k.credit n ∘ h.credit n⟩

theorem Line.Keeps.steps (h : x.Keeps lic 0 y) : x.Steps lic y where
  toSound := h.toSound
  pending := le_trans h.entries
  credit size hx := by
    obtain ⟨hsize, hstaged, hbooked⟩ := hx
    exact ⟨hsize, by rwa [h.intake], by rw [h.booked (by omega), Nat.add_zero, hbooked]⟩

/-- Intake and completion writer are no matter of the laws of the other blocks. -/
theorem Line.sound_intake (lic : Licence) (x : Line) (k : Intake) (c : CompletionWriter) :
    x.Sound lic { x with intake := k, completion := c } :=
  ⟨.inl ⟨rfl, rfl, rfl, rfl, rfl⟩, id, id, fun _ => .inl rfl, id⟩

/-- A record leaves intake's hands for the list or its completion, and the rest of the command books it (R58, R61). -/
theorem Line.Keeps.steps_of_taken {k : Intake} (hk : k.owed + 1 = x.intake.owed) (hstaged : k.staged.isSome = true → k.fetch = none)
    (h : { x with intake := k }.Keeps lic 1 y) (hlen : y.entries.length ≤ x.entries.length ∨ x.entries.length < Config.pendingMax) :
    x.Steps lic y where
  toSound := (x.sound_intake lic k x.completion).trans h.toSound
  pending hx := by
    have hgrow := h.entries
    unfold PendingLaw at *
    simp only at hgrow
    omega
  credit size hx := by
    obtain ⟨hsize, -, hbooked⟩ := hx
    have htaken : ({ x with intake := k } : Line).booked + 1 = x.booked := by
      simp only [Line.booked]
      omega
    exact ⟨hsize, by rwa [h.intake], by rw [h.booked (by omega), htaken, hbooked]⟩

/-- Intake and credit change, and the books stay balanced. -/
theorem Line.steps_intake {k : Intake} {n : Nat} (hbook : n + k.owed = x.completion.credit + x.intake.owed)
    (hstaged : (x.intake.staged.isSome = true → x.intake.fetch = none) → k.staged.isSome = true → k.fetch = none) :
    x.Steps lic { x with intake := k, completion := { x.completion with credit := n } } where
  toSound := x.sound_intake lic _ _
  pending := id
  credit size hx := by
    obtain ⟨hsize, hold, hbooked⟩ := hx
    refine ⟨hsize, hstaged hold, ?_⟩
    simp only [booked, CompletionWriter.unreleased] at *
    omega

/-- `t` is `s` after a whole command of line `l`. -/
structure State.Steps (lic : Licence) (l : LineId) (s t : State) : Prop where
  touches : State.Touches l s t
  steps : (s.line l).Steps lic (t.line l)
  events : s.EventLaw → t.EventLaw

theorem State.Steps.refl (lic : Licence) (l : LineId) (s : State) : State.Steps lic l s s := ⟨.refl l s, .refl lic _, id⟩

theorem State.Steps.trans (h : State.Steps lic l s t) (k : State.Steps lic l t u) : State.Steps lic l s u :=
  ⟨h.touches.trans k.touches, h.steps.trans k.steps, k.events ∘ h.events⟩

theorem State.Works.steps (h : State.Works lic l 0 s t) : State.Steps lic l s t := ⟨h.touches, h.keeps.steps, h.events⟩

theorem State.updLine_steps {f : Line → Line} (h : (s.line l).Steps lic (f (s.line l))) : State.Steps lic l s (s.updLine l f) :=
  ⟨s.updLine_touches l f, by rwa [State.updLine_line_same], fun hlaw => hlaw.of_same (by simp) (by simp)⟩

/-! ## NOTIFY (R57, R82, R84) -/

theorem rejectNotify_steps (lic : Licence) (l : LineId) (k : Option LineId) (n : Nat) (v held : Half) (s : State) :
    State.Steps lic l s (rejectNotify k n v held s) := (raiseEvent_works lic l _ s).steps

theorem notifyRequest_steps (lic : Licence) (l : LineId) (v : Half) (s : State) : State.Steps lic l s (notifyRequest l v s) := by
  unfold notifyRequest
  dsimp only
  split
  · exact State.updLine_steps (Line.steps_intake rfl id)
  · exact rejectNotify_steps lic l _ _ _ _ s

theorem notifyBuffer_steps (lic : Licence) (l : LineId) (v : Half) (s : State) : State.Steps lic l s (notifyBuffer l v s) := by
  unfold notifyBuffer
  dsimp only
  split
  · exact (State.updLine_works (Line.keeps_buffers fun h => by exact h)).steps
  · exact rejectNotify_steps lic l _ _ _ _ s

/-- Released records turn into credit one for one (R82). -/
theorem unreleased_of_consumerOk {v c p : Half} (h : consumerOk v c p = true) : (v - c).toNat + (p - v).toNat = (p - c).toNat := by
  unfold consumerOk at h
  have hle := of_decide_eq_true h
  have hsplit : p - v = (p - c) - (v - c) := by
    rw [BitVec.sub_eq_add_neg p v, BitVec.sub_eq_add_neg (p - c)]
    simp only [BitVec.sub_eq_add_neg, BitVec.neg_add, BitVec.neg_neg]
    rw [show p + -c + (-v + c) = p + -v + (c + -c) by ac_rfl, BitVec.add_right_neg, BitVec.add_zero]
  rw [hsplit, BitVec.toNat_sub_of_le hle]
  omega

theorem notifyCompletion_steps (lic : Licence) (l : LineId) (v : Half) (s : State) : State.Steps lic l s (notifyCompletion l v s) := by
  unfold notifyCompletion
  dsimp only
  split
  · next h =>
    obtain ⟨-, hok⟩ := Bool.and_eq_true_iff.mp h
    have hcount := unreleased_of_consumerOk hok
    refine State.updLine_steps (Line.Keeps.steps ⟨Line.sound_intake lic _ _ _, rfl, le_rfl, fun _ => ?_⟩)
    simp only [Line.booked, CompletionWriter.unreleased]
    omega
  · exact rejectNotify_steps lic l _ _ _ _ s

/-! ## Intake (R58 to R61) -/

theorem endRequestRead_steps (hc : lic.control) (l : LineId) (data : Option (List Byte)) (s : State)
    (h : lic.OnBank (s.line l).engine) (hfetch : (s.line l).intake.fetch.isSome = true) :
    State.Steps lic l s (endRequestRead l data s) := by
  have howed (k : Intake) (hk : k.staged = (s.line l).intake.staged) (hkf : k.fetch = none) : k.owed + 1 = (s.line l).intake.owed := by
    simp [Intake.owed, hk, hkf, hfetch]
  unfold endRequestRead
  dsimp only
  split
  · refine State.Steps.trans (State.updLine_steps (Line.steps_intake ?_ ?_)) (raiseEvent_works lic l _ _).steps
    · rw [Nat.add_assoc, Nat.add_comm 1, howed]
      · rfl
      · rfl
    · exact fun _ _ => rfl
  · next data =>
    obtain ⟨u, hu⟩ : ∃ u : State, u = (s.updLine l (fun x => { x with intake := { (s.line l).intake with
        consumer := (s.line l).intake.consumer + 1, fetch := none } })).indexWrite (requestConsumerOffset l)
        (leBytes 2 ((s.line l).intake.consumer + 1).toNat) := ⟨_, rfl⟩
    rw [← hu]
    have htouch : State.Touches l s u := hu ▸ (s.updLine_touches l _).trans ((State.hostWrite_reports _ _ _).touches l)
    have hevents : u.events = s.events := hu ▸ State.updLine_events ..
    have hline : u.line l = { s.line l with intake := { (s.line l).intake with
        consumer := (s.line l).intake.consumer + 1, fetch := none } } := by
      rw [hu, State.indexWrite, State.hostWrite_line, State.updLine_line_same]
    have htaken (v : State) (hwork : State.Works lic l 1 u v)
        (hlen : (v.line l).entries.length ≤ (u.line l).entries.length ∨ (u.line l).entries.length < Config.pendingMax) : State.Steps lic l s v := by
      refine ⟨htouch.trans hwork.touches, ?_, fun hlaw => hwork.events (hlaw.of_same hevents htouch.context_eq)⟩
      have hkeeps := hwork.keeps
      rw [hline] at hkeeps hlen
      exact Line.Keeps.steps_of_taken (k := { (s.line l).intake with consumer := (s.line l).intake.consumer + 1, fetch := none })
        (howed _ rfl rfl) (fun _ => rfl) hkeeps hlen
    split
    · obtain ⟨hwork, hlen⟩ := (State.Works.refl lic l u).completes (uncheckedCompletion data (s.line l).intake.consumer (u.line l))
      exact htaken _ hwork (.inl hlen)
    · obtain ⟨hwork, hlen⟩ | ⟨e, hstaged⟩ := takeRecord_works hc l (s.line l).intake.consumer data u (by rwa [hline])
      · exact htaken _ hwork hlen
      · rw [hstaged]
        refine ⟨htouch.trans (State.updLine_touches u l _), ?_,
          fun hlaw => hlaw.of_same ((State.updLine_events ..).trans hevents) ((State.updLine_context ..).trans htouch.context_eq)⟩
        rw [State.updLine_line_same, hline]
        refine ⟨Line.sound_intake lic _ _ _, id, fun size hx => ?_⟩
        obtain ⟨hsize, hold, hbooked⟩ := hx
        have hnone : (s.line l).intake.staged = none := by
          by_contra hsome
          rw [hold (Option.isSome_iff_ne_none.mpr hsome)] at hfetch
          cases hfetch
        refine ⟨hsize, fun _ => rfl, ?_⟩
        simpa [Line.booked, Intake.owed, hnone, hfetch] using hbooked

/-- Taking a record out of the staging place (R61). -/
theorem staged_steps {e : Entry} (hstaged : (s.line l).intake.staged = some e)
    (h : State.Works lic l 1 (s.updLine l (fun x => { x with intake := { x.intake with staged := none } })) t)
    (hlen : (t.line l).entries.length ≤ (s.line l).entries.length ∨ (s.line l).entries.length < Config.pendingMax) : State.Steps lic l s t := by
  refine ⟨(s.updLine_touches l _).trans h.touches, ?_, fun hlaw => h.events (hlaw.of_same (State.updLine_events ..) (State.updLine_context ..))⟩
  have hkeeps := h.keeps
  rw [State.updLine_line_same] at hkeeps
  refine Line.Keeps.steps_of_taken (k := { (s.line l).intake with staged := none }) ?_ nofun hkeeps hlen
  simp only [Intake.owed, hstaged]
  simp [Nat.add_comm]

theorem stopRequests_steps (lic : Licence) (l : LineId) (s : State) : State.Steps lic l s (stopRequests l s) := by
  unfold stopRequests
  dsimp only
  refine State.Steps.trans (finishAll_works lic l (fun e => !(s.line l).outlivesWalk e) (fun _ => stopEnding) s).steps ?_
  split
  · exact .refl lic l _
  · next e hstaged =>
    have hstill : ((finishAll l (fun e => !(s.line l).outlivesWalk e) (fun _ => stopEnding) s).line l).intake.staged = some e := by
      rw [finishAll_line]
      exact hstaged
    refine staged_steps hstill (completeEntry_works lic l stopEnding _ e) (.inl ?_)
    rw [completeEntry, complete_entries, State.updLine_line_same]

/-- The wake sequence's action on the entry to STOPPING changes the detector and the episode only (R157). -/
theorem Line.stopWake_eq (x : Line) : ∃ det w, x.stopWake = { x with detector := det, wake := w } := by
  unfold Line.stopWake
  split
  · exact ⟨_, x.wake, rfl⟩
  · split
    · exact ⟨_, _, rfl⟩
    · exact ⟨_, x.wake, rfl⟩
  · exact ⟨x.detector, x.wake, rfl⟩

theorem stopLine_steps (hc : lic.control) (cycleFirst : Bool) (l : LineId) (s : State) : State.Steps lic l s (stopLine cycleFirst l s) := by
  have hmark : State.Steps lic l s (s.updLine l (fun x =>
      { x.stopWake with job := x.job.map Job.marked, collector := { x.collector with claim := false } })) := by
    obtain ⟨det, w, hwake⟩ := (s.line l).stopWake_eq
    refine State.updLine_steps (Line.Keeps.steps ?_)
    rw [hwake]
    exact (Line.keeps_collector lic (s.line l) { (s.line l).collector with claim := false }).trans (Line.keeps_control hc _ _ _ _ _ _)
  unfold stopLine
  dsimp only
  split
  · exact hmark.trans ((stopEngine_works lic l _).steps.trans (stopRequests_steps lic l _))
  · exact hmark.trans ((stopRequests_steps lic l _).trans (stopEngine_works lic l _).steps)

end Sys2Proof.Machine
end

section
/-! PROOFS. Each command of one line is a whole command of that line: it answers a next state, and keeps what it may not change. -/

set_option Elab.async false

namespace Sys2Proof.Machine

variable {lic : Licence} {d : Nat} {l : LineId} {s t u : State}

/-! ## Host reads (R180) -/

theorem requestEnded_steps (hc : lic.control) (l : LineId) (id : Nat) (data : Option (List Byte)) (s : State)
    (h : lic.OnBank (s.line l).engine) : State.Steps lic l s (requestEnded l id data s) := by
  unfold requestEnded
  split
  · next hfetch => exact endRequestRead_steps hc l data s h (by rw [hfetch]; rfl)
  · exact .refl lic l s

theorem descriptorEnded_steps (lic : Licence) (l : LineId) (id : Nat) (data : Option (List Byte)) (s : State) :
    State.Steps lic l s (descriptorEnded l id data s) := by
  unfold descriptorEnded
  split
  · next hfetch => exact ((endDescriptorRead_works lic l data s (by rw [hfetch]; rfl)).trans (settle_works lic l _)).steps
  · exact .refl lic l s

theorem payloadEnded_steps (lic : Licence) (l : LineId) (id : Nat) (data : Option (List Byte)) (s : State) :
    State.Steps lic l s (payloadEnded l id data s) := by
  unfold payloadEnded
  split
  · next hfind => exact (endPayloadRead_works lic l _ data s (Line.findEntry_lt hfind)).steps
  · exact .refl lic l s

theorem parametersEnded_steps (hc : lic.control) (l : LineId) (id : Nat) (data : Option (List Byte)) (s : State) :
    State.Steps lic l s (parametersEnded l id data s) := by
  unfold parametersEnded
  split
  · next hfind =>
    split
    · exact ((endBlockRead_works hc l _ _ data s (Line.findEntry_lt hfind)).trans (settle_works lic l _)).steps
    · exact .refl lic l s
  · exact .refl lic l s

theorem slotTableEnded_steps (lic : Licence) (l : LineId) (id : Nat) (data : Option (List Byte)) (s : State) :
    State.Steps lic l s (slotTableEnded l id data s) := by
  unfold slotTableEnded
  split
  · next hfind => exact (endTableRead_works lic l _ data s (Line.findEntry_lt hfind)).steps
  · exact .refl lic l s

theorem slotOutputEnded_steps (l : LineId) (id : Nat) (data : Option (List Byte)) (s : State) (h : lic.OnBank (s.line l).engine) :
    State.Steps lic l s (slotOutputEnded l id data s) := by
  unfold slotOutputEnded
  split
  · split
    · exact (endSlot_works l _ s h).steps
    · exact (updEngine_works_same lic l s).steps
  · exact .refl lic l s

/-- The line a read belongs to. -/
def Reader.line? : Reader → Option LineId
  | .context => none
  | .request l | .descriptor l | .payload l | .parameters l | .slotTable l | .slotOutput l => some l

/-- A read of no line is the context read. -/
theorem readEnded_of_context {r : HostRead} (h : r.reader.line? = none) (data : Option (List Byte)) (s : State) :
    readEnded r data s = contextEnded r.id data s := by
  obtain ⟨id, reader, a, n⟩ := r
  cases reader
  case context => rfl
  all_goals cases h

/-- The end of a read of one line, whatever its result, is a whole command of that line (R180). -/
theorem readEnded_steps (hc : lic.control) {r : HostRead} (hr : r.reader.line? = some l) (data : Option (List Byte)) (s : State)
    (h : lic.OnBank (s.line l).engine) : State.Steps lic l s (readEnded r data s) := by
  obtain ⟨id, reader, a, n⟩ := r
  unfold readEnded
  cases reader <;> cases hr
  case request => exact requestEnded_steps hc l id data s h
  case descriptor => exact descriptorEnded_steps lic l id data s
  case payload => exact payloadEnded_steps lic l id data s
  case parameters => exact parametersEnded_steps hc l id data s
  case slotTable => exact slotTableEnded_steps lic l id data s
  case slotOutput => exact slotOutputEnded_steps l id data s h

theorem endRead_readEnded_steps (hc : lic.control) {r : HostRead} (hr : r.reader.line? = some l) (id : Nat) (data : Option (List Byte)) (s : State)
    (h : lic.OnBank (s.line l).engine) : State.Steps lic l s (readEnded r data (s.endRead id)) :=
  (State.endRead_works lic l s id).steps.trans (readEnded_steps hc hr data _ (by rwa [State.endRead_line]))

theorem finishRead_steps (hc : lic.control) {reader : Reader} (hr : reader.line? = some l) (id : Nat) (result : ReadResult) (s : State)
    (h : lic.OnBank (s.line l).engine) : State.Steps lic l s (finishRead reader id result s) := by
  unfold finishRead
  split
  · split
    · next hreader => exact endRead_readEnded_steps hc (hreader ▸ hr) id _ s h
    · exact .refl lic l s
  · exact .refl lic l s

/-! ## Commands of one line -/

/-- The outcome `r` of a command at `s` is a next state, after a whole command of line `l`. -/
def Result.Steps (lic : Licence) (l : LineId) (s : State) (r : Result) : Prop := ∃ t, r = .next t ∧ State.Steps lic l s t

theorem State.Steps.next (h : State.Steps lic l s t) : Result.Steps lic l s (.next t) := ⟨t, rfl, h⟩

theorem State.Works.next (h : State.Works lic l 0 s t) : Result.Steps lic l s (.next t) := h.steps.next

theorem Result.Steps.same (lic : Licence) (l : LineId) (s : State) : Result.Steps lic l s (.next s) := (State.Steps.refl lic l s).next

theorem Result.Steps.ite {p : Prop} [Decidable p] {r r' : Result} (ht : p → Result.Steps lic l s r) (hf : ¬p → Result.Steps lic l s r') :
    Result.Steps lic l s (if p then r else r') := by
  split
  · exact ht ‹_›
  · exact hf ‹_›

/-- The oldest entry stands at place 0 of the list. -/
theorem State.oldestWaiting_pos {e : Entry} (h : s.oldestWaiting l = some e) : 0 < (s.line l).entries.length := by
  unfold State.oldestWaiting at h
  split at h
  · split at h
    · next hes => simp [hes]
    · cases h
  · cases h

/-- Completing the first entry that satisfies `p` changes the list and the completion writer, and nothing else of the line. -/
theorem finishFirst_line_rest (l : LineId) (p : Entry → Bool) (how : Ending) (s : State) :
    ∃ es c, (finishFirst l p how s).line l = { s.line l with entries := es, completion := c } := by
  unfold finishFirst
  split
  · exact ⟨_, _, rfl⟩
  · exact ⟨_, _, finishEntry_line l _ _ how s⟩

theorem endWatch_job (l : LineId) (s : State) : ((endWatch l s).line l).job = (s.line l).job := by
  obtain ⟨es, c, h⟩ := finishFirst_line_rest l (fun e => e.isDoing .watching) ⟨.stillFaulted, 0, false, false⟩ s
  rw [endWatch, h]

/-- A frame that begins leaves the work in flight, but for its stage (R8, R12). -/
theorem frameArrival_job (l : LineId) (rx : Reception) (s : State) :
    ((frameArrival l rx s).line l).job.map Job.kind = (s.line l).job.map Job.kind := by
  have hbegin (x : Line) : x.beginReception.job.map Job.kind = x.job.map Job.kind := by
    unfold Line.beginReception
    split
    · simp [Function.comp_def]
    · rfl
    · rfl
  unfold frameArrival
  split
  · rw [frameStart, State.updLine_line_same, hbegin, endWatch_job]
  · split
    · rw [endWatch_job]
    · rfl

theorem frameArrival_engine (l : LineId) (rx : Reception) (s : State) : ((frameArrival l rx s).line l).engine = (s.line l).engine := by
  have hwatch : ((endWatch l s).line l).engine = (s.line l).engine := by
    obtain ⟨es, c, h⟩ := finishFirst_line_rest l (fun e => e.isDoing .watching) ⟨.stillFaulted, 0, false, false⟩ s
    rw [endWatch, h]
  have hbegin (x : Line) : x.beginReception.engine = x.engine := by
    unfold Line.beginReception
    split <;> rfl
  unfold frameArrival
  split
  · rw [frameStart, State.updLine_line_same, hbegin, hwatch]
  · split
    · exact hwatch
    · rfl

theorem execLineGrant_steps (hc : lic.control) (l : LineId) (s : State) (hstart : (s.line l).choose = some .start → lic.starts)
    (h : lic.OnBank (s.line l).engine) : Result.Steps lic l s (execLineGrant l s) := by
  refine .ite (fun _ => ?_) fun _ => .same lic l s
  split
  · next c hchoose => exact (grant_works hc l c s (fun hcs => hstart (hcs ▸ hchoose)) h).next
  · exact .same lic l s

theorem execGapElapsed_steps (hc : lic.control) (l : LineId) (s : State) : Result.Steps lic l s (execGapElapsed l s) := by
  unfold execGapElapsed
  split
  · exact .ite (fun _ => .same lic l s) fun _ => (State.updLine_works (Line.keeps_control hc _ _ _ _ _ _)).next
  · exact .same lic l s

theorem execCollision_steps (hc : lic.control) (l : LineId) (cycleFirst : Bool) (s : State) (h : lic.OnBank (s.line l).engine) :
    Result.Steps lic l s (execCollision l cycleFirst s) := by
  unfold execCollision
  split
  · have hcount (n : Nat) : State.Works lic l 0 s (s.updLine l (fun x => { x with
        consecutiveCollisions := n, counters := { x.counters with collisions := x.counters.collisions + 1 } })) :=
      State.updLine_works (Line.keeps_counts lic _ _ _)
    refine .ite (fun _ => ((hcount _).trans (enterFaulted_works hc l _ cycleFirst _)).next) fun _ => ?_
    refine ((hcount _).trans ((writeCounters_works lic l _).trans
      ((endCollided_works hc l _ _ ?_).trans (settle_works lic l _)))).next
    rw [(writeCounters_reports l _).line l, State.updLine_line_same]
    exact h
  · exact .same lic l s

theorem execCmdSent_steps (hc : lic.control) (l : LineId) (s : State) : Result.Steps lic l s (execCmdSent l s) := by
  unfold execCmdSent
  split
  · exact ((clearConsecutive_works lic l s).trans (State.updLine_works (Line.keeps_control hc _ _ _ _ _ _))).next
  · exact .same lic l s

theorem execDatSent_steps (hc : lic.control) (l : LineId) (s : State) (h : lic.OnBank (s.line l).engine) :
    Result.Steps lic l s (execDatSent l s) := by
  unfold execDatSent
  split
  · exact ((clearConsecutive_works lic l s).trans (endData_works hc l _ _ _ (by simpa [clearConsecutive] using h))).next
  · exact .same lic l s

theorem execQuietSent_steps (hc : lic.control) (l : LineId) (s : State) : Result.Steps lic l s (execQuietSent l s) := by
  unfold execQuietSent
  split
  · dsimp only
    have hcons := clearConsecutive_works lic l s
    refine .ite (fun _ => (hcons.trans ((clearJob_works hc l _).trans ((endEpisode_works hc l _).trans
      (finishFirst_works lic l _ _ _)))).next) fun _ => ?_
    split
    · exact (hcons.trans (.trans (State.updLine_works (Line.keeps_control hc _ _ _ _ _ _)) (giveJob_works hc l _ _))).next
    · exact (hcons.trans (State.updLine_works (Line.keeps_control hc _ _ _ _ _ _))).next
    · exact (hcons.trans (clearJob_works hc l _)).next
  · exact .same lic l s

theorem execWackSent_steps (hc : lic.control) (l : LineId) (s : State) : Result.Steps lic l s (execWackSent l s) := by
  unfold execWackSent
  split
  · exact ((finishWake_works hc l s).trans (settle_works lic l _)).next
  · exact .same lic l s

theorem execResponseTimeout_steps (hc : lic.control) (l : LineId) (s : State) (h : lic.OnBank (s.line l).engine) :
    Result.Steps lic l s (execResponseTimeout l s) := by
  unfold execResponseTimeout
  split
  · exact ((countOnLine_works lic l _ s).trans ((endAttempt_works hc l _ .timeout _ (by simpa using h) nofun).trans (settle_works lic l _))).next
  · exact .same lic l s

/-- A received frame answers the exchange in flight only as the check of it says (R13, R40). -/
theorem execFrameReceived_steps (hc : lic.control) (l : LineId) (rx : Reception) (s : State) (h : lic.OnBank (s.line l).engine)
    (hans : ∀ x st attn f p, (s.line l).job = some ⟨.exchange x, st⟩ → classifyAnswer x (checkReception rx) = .success attn f p →
      lic.answers x.station) : Result.Steps lic l s (execFrameReceived l rx s) := by
  unfold execFrameReceived
  refine .ite (fun _ => ?_) fun _ => .same lic l s
  dsimp only
  split
  · next r _ =>
    refine ((frameArrival_works hc l rx s).trans (.trans (State.updLine_works (Line.keeps_control hc _ _ _ none _ _))
      ((countCrc_works lic l _ _).trans (.trans (deliverFrame_works hc l r.role _ _ ?_ ?_) (settle_works lic l _))))).next
    · rw [countCrc]
      split <;> simpa [frameArrival_engine] using h
    · intro x st attn f p hjob hsuccess _
      have hkind : (s.line l).job.map Job.kind = some (.exchange x) := by
        rw [← frameArrival_job l rx s]
        unfold countCrc at hjob
        split at hjob <;> simp at hjob <;> simp [hjob]
      obtain ⟨⟨k, st'⟩, hj, hk⟩ := Option.map_eq_some_iff.mp hkind
      exact hans x st' attn f p (by rw [hj]; cases hk; rfl) hsuccess
  · exact (frameArrival_works hc l rx s).next

theorem execRecoveryWatchExpiry_steps (hc : lic.control) (l : LineId) (s : State) : Result.Steps lic l s (execRecoveryWatchExpiry l s) := by
  unfold execRecoveryWatchExpiry
  split
  · next i e hfind =>
    refine .ite (fun _ => ?_) fun _ => .same lic l s
    refine ((clearConsecutive_works lic l s).trans ((moveLine_works hc l _ _ _).trans ((checkStarved_works lic l _).trans
      (.trans (finishEntry_works lic l e _ _ ?_) (settle_works lic l _))))).next
    obtain ⟨starved, h⟩ := checkStarved_line l (moveLine l .active .recover (clearConsecutive l s))
    rw [h, moveLine_line, clearConsecutive, State.updLine_line_same]
    exact Line.findEntry_lt hfind
  · exact .same lic l s

theorem execRequestFetchIssue_steps (lic : Licence) (l : LineId) (s : State) : Result.Steps lic l s (execRequestFetchIssue l s) := by
  unfold execRequestFetchIssue
  split
  · next hmay =>
    simp only [State.mayFetchRequest, Bool.and_eq_true, Option.isNone_iff_eq_none, decide_eq_true_eq] at hmay
    obtain ⟨⟨⟨_, hfetch⟩, hstaged⟩, hcredit⟩ := hmay
    refine (State.Steps.trans (State.updLine_steps (Line.steps_intake ?_ ?_)) (State.issueRead_works lic l _ _ _ _).steps).next
    · simp only [Intake.owed, hfetch, hstaged]
      simp
      omega
    · simp [hstaged]
  · exact .same lic l s

theorem execStagedRecordAppend_steps (l : LineId) (s : State) (h : lic.OnBank (s.line l).engine) :
    Result.Steps lic l s (execStagedRecordAppend l s) := by
  unfold execStagedRecordAppend
  split
  · next e hstaged =>
    split
    · next hroom => exact (staged_steps hstaged (placeEntry_works l e _ (by simpa using h)) (.inr hroom.2)).next
    · exact .same lic l s
  · exact .same lic l s

theorem execDescriptorFetchIssue_steps (lic : Licence) (l : LineId) (s : State) : Result.Steps lic l s (execDescriptorFetchIssue l s) := by
  unfold execDescriptorFetchIssue
  split
  · next hmay =>
    simp only [State.mayFetchDescriptor, Bool.and_eq_true, decide_eq_true_eq] at hmay
    obtain ⟨⟨_, hheld⟩, _⟩ := hmay
    refine (State.Works.trans (State.updLine_works (Line.keeps_buffers fun hlaw => ?_)) (State.issueRead_works lic l _ _ _ _)).next
    obtain ⟨hindex, _, hhead⟩ := hlaw
    exact ⟨hindex, by simpa using hheld, hhead⟩
  · exact .same lic l s

theorem execTrafficSelect_steps (hc : lic.control) (l : LineId) (s : State) : Result.Steps lic l s (execTrafficSelect l s) := by
  refine .ite (fun _ => ?_) fun _ => .same lic l s
  split
  · split
    · next i _ e he =>
      obtain ⟨hi, -⟩ := List.getElem?_eq_some_iff.mp he
      exact (selectTraffic_works hc l e s hi).next
    · exact .same lic l s
  · exact .same lic l s

theorem execHoldoffExpiry_steps (lic : Licence) (l : LineId) (i : Half) (s : State) : Result.Steps lic l s (execHoldoffExpiry l i s) := by
  unfold execHoldoffExpiry
  split
  · exact (putEntry_works lic l _ _ s).next
  · exact .same lic l s

/-- The change of a range of stations leaves the list. -/
theorem applySet_entries (l : LineId) (first last : Nat) (act : SetAction) (s : State) :
    ((applySet l first last act s).line l).entries = (s.line l).entries := by
  obtain ⟨table, h⟩ := foldl_changeStation_line l .stationSet act.apply (stationRange first last) s
  rw [applySet, h]

theorem clearStatistics_line (l : LineId) (first last : Nat) (s : State) :
    ∃ table, (clearStatistics l first last s).line l = { s.line l with stations := table } := by
  unfold clearStatistics
  induction stationRange first last generalizing s with
  | nil => exact ⟨_, rfl⟩
  | cons a rest ih =>
    obtain ⟨table, h⟩ := ih (s.updLine l (fun x => x.setStation a (x.station a).clearStatistics))
    exact ⟨table, by rw [List.foldl_cons, h, State.updLine_line_same, Line.setStation_rest]⟩

theorem execStationSet_steps (lic : Licence) (l : LineId) (s : State) : Result.Steps lic l s (execStationSet l s) := by
  unfold execStationSet
  split
  · next e hold =>
    split
    · refine .ite (fun _ => ((applySet_works lic l _ _ _ s).trans (finishEntry_works lic l e _ _ ?_)).next) fun _ => .same lic l s
      rw [applySet_entries]
      exact State.oldestWaiting_pos hold
    · exact .same lic l s
  · exact .same lic l s

theorem execStationRead_steps (lic : Licence) (l : LineId) (s : State) : Result.Steps lic l s (execStationRead l s) := by
  unfold execStationRead
  split
  · next e hold =>
    split
    · next first last clear a _ =>
      refine .ite (fun _ => ?_) fun _ => .same lic l s
      dsimp only
      have hpos := State.oldestWaiting_pos hold
      have himages := writeImages_reports l first last a s
      have hworks := writeImages_works lic l first last a s
      split
      · refine (hworks.trans ((clearStatistics_works lic l _ _ _).trans (finishEntry_works lic l e _ _ ?_))).next
        obtain ⟨table, h⟩ := clearStatistics_line l first last (writeImages l first last a s)
        rwa [h, himages.line l]
      · exact (hworks.trans (finishEntry_works lic l e _ _ (by rwa [himages.line l]))).next
    · exact .same lic l s
  · exact .same lic l s

theorem execLineConfig_steps (hc : lic.control) (l : LineId) (s : State) : Result.Steps lic l s (execLineConfig l s) := by
  unfold execLineConfig
  split
  · next e hold =>
    split
    · exact .ite (fun _ => ((actConfig_works hc l e _ _ _ s (State.oldestWaiting_pos hold)).trans (settle_works lic l _)).next)
        fun _ => .same lic l s
    · exact .same lic l s
  · exact .same lic l s

theorem execRest_steps (lic : Licence) (l : LineId) (s : State) : Result.Steps lic l s (execRest l s) := by
  unfold execRest
  split
  · next e hold =>
    have finish (how : Ending) := (finishEntry_works lic l e how s (State.oldestWaiting_pos hold)).next
    refine .ite (fun _ => ?_) fun _ => .same lic l s
    split
    · exact finish _
    · exact finish _
    · split
      · exact finish _
      · exact (putEntry_works lic l 0 _ s).next
    · exact .same lic l s
  · exact .same lic l s

theorem execWake_steps (hc : lic.control) (l : LineId) (s : State) : Result.Steps lic l s (execWake l s) := by
  unfold execWake
  split
  · next e hold =>
    have finish (how : Ending) := (finishEntry_works lic l e how s (State.oldestWaiting_pos hold)).next
    refine .ite (fun _ => ?_) fun _ => .same lic l s
    split
    · exact finish _
    · exact finish _
    · exact ((putEntry_works lic l 0 _ s).trans (beginMasterWake_works hc l _)).next
    · exact .same lic l s
  · exact .same lic l s

theorem execLineRecover_steps (lic : Licence) (l : LineId) (s : State) : Result.Steps lic l s (execLineRecover l s) := by
  unfold execLineRecover
  split
  · next e hold =>
    have finish (how : Ending) := (finishEntry_works lic l e how s (State.oldestWaiting_pos hold)).next
    refine .ite (fun _ => ?_) fun _ => .same lic l s
    split
    · exact finish _
    · exact finish _
    · exact (putEntry_works lic l 0 _ s).next
    · exact .same lic l s
  · exact .same lic l s

theorem execFence_steps (lic : Licence) (l : LineId) (s : State) : Result.Steps lic l s (execFence l s) := by
  unfold execFence
  split
  · next e hold => exact .ite (fun _ => (finishEntry_works lic l e _ s (State.oldestWaiting_pos hold)).next) fun _ => .same lic l s
  · exact .same lic l s

theorem execCycleTimerExpiry_steps (lic : Licence) (l : LineId) (s : State) : Result.Steps lic l s (execCycleTimerExpiry l s) := by
  unfold execCycleTimerExpiry
  dsimp only
  split
  · exact .ite (fun _ => ((startEvent_works lic l s).trans (updEngine_works_same lic l _)).next) fun _ => .same lic l s
  · exact .same lic l s

theorem execSyncRisingEdge_steps (lic : Licence) (l : LineId) (s : State) : Result.Steps lic l s (execSyncRisingEdge l s) :=
  .ite (fun _ => (startEvent_works lic l s).next) fun _ => .same lic l s

theorem execQuiesceTimerExpiry_steps (hc : lic.control) (l : LineId) (s : State) : Result.Steps lic l s (execQuiesceTimerExpiry l s) :=
  .ite (fun _ => ((moveLine_works hc l _ _ s).trans ((endEpisode_works hc l _).trans (finishFirst_works lic l _ _ _))).next)
    fun _ => .same lic l s

theorem beginStationWake_works (hc : lic.control) (l : LineId) (s : State) : State.Works lic l 0 s (beginStationWake l s) :=
  (moveLine_works hc l _ _ s).trans (State.updLine_works (Line.keeps_control hc _ _ _ _ _ _))

theorem joinStationWake_works (lic : Licence) (l : LineId) (s : State) : State.Works lic l 0 s (joinStationWake l s) := by
  unfold joinStationWake
  split
  · exact .ite (fun _ => putEntry_works lic l 0 _ s) fun _ => .refl lic l s
  · exact .refl lic l s

theorem execToneRecognised_steps (hc : lic.control) (r : ToneRecognition) (s : State) :
    Result.Steps lic r.line s (execToneRecognised r s) := by
  refine .ite (fun _ => ?_) fun _ => .same lic r.line s
  split
  · exact (State.Works.trans (.ite (fun _ => joinStationWake_works lic _ s) fun _ => .refl lic _ s) (beginStationWake_works hc _ _)).next
  · exact ((beginStationWake_works hc _ s).trans (finishFirst_works lic _ _ _ _)).next
  · exact .same lic r.line s

theorem execToneEnd_steps (hc : lic.control) (l : LineId) (s : State) : Result.Steps lic l s (execToneEnd l s) :=
  .ite (fun _ => (State.Works.trans (State.updLine_works (Line.keeps_control hc _ _ _ _ _ _)) (openWindow_works hc l _)).next)
    fun _ => .same lic l s

theorem execOverlongTone_steps (hc : lic.control) (l : LineId) (cycleFirst : Bool) (s : State) :
    Result.Steps lic l s (execOverlongTone l cycleFirst s) :=
  .ite (fun _ => (enterFaulted_works hc l _ cycleFirst s).next) fun _ => .same lic l s

theorem execStuckLine_steps (hc : lic.control) (l : LineId) (cycleFirst : Bool) (s : State) :
    Result.Steps lic l s (execStuckLine l cycleFirst s) :=
  .ite (fun _ => (enterFaulted_works hc l _ cycleFirst s).next) fun _ => .same lic l s

theorem execMasterToneEnd_steps (hc : lic.control) (l : LineId) (s : State) : Result.Steps lic l s (execMasterToneEnd l s) := by
  unfold execMasterToneEnd
  split
  · exact (openWindow_works hc l s).next
  · exact .same lic l s

theorem execListenWindowExpiry_steps (hc : lic.control) (l : LineId) (s : State) : Result.Steps lic l s (execListenWindowExpiry l s) :=
  .ite (fun _ => (silentWindow_works hc l s).next) fun _ => .same lic l s

theorem execReceivedFrameStart_steps (hc : lic.control) (l : LineId) (s : State) : Result.Steps lic l s (execReceivedFrameStart l s) :=
  .ite (fun _ => (frameStart_works hc l s).next) fun _ => .same lic l s

theorem execBufferReturnAtStop_steps (lic : Licence) (l : LineId) (s : State) : Result.Steps lic l s (execBufferReturnAtStop l s) :=
  .ite (fun _ => (returnHeld_works lic l s).next) fun _ => .same lic l s

theorem execNotifyRequestProducer_steps (lic : Licence) (l : LineId) (v : Half) (s : State) :
    Result.Steps lic l s (execNotifyRequestProducer l v s) := by
  unfold execNotifyRequestProducer
  split
  · exact (notifyRequest_steps lic l v s).next
  · exact .same lic l s

theorem execNotifyBufferProducer_steps (lic : Licence) (l : LineId) (v : Half) (s : State) :
    Result.Steps lic l s (execNotifyBufferProducer l v s) := by
  unfold execNotifyBufferProducer
  split
  · exact (notifyBuffer_steps lic l v s).next
  · exact .same lic l s

theorem execNotifyCompletionConsumer_steps (lic : Licence) (l : LineId) (v : Half) (s : State) :
    Result.Steps lic l s (execNotifyCompletionConsumer l v s) := by
  unfold execNotifyCompletionConsumer
  split
  · exact (notifyCompletion_steps lic l v s).next
  · exact (notifyCompletion_steps lic l v s).next
  · exact .same lic l s

/-! ## Any command of one line -/

/-- What a command may do to line `l`: toggle the SEQ bit of a station whose exchange it ends SUCCESS (R40), and leave the active bank as it takes a start
(R124). -/
def Instr.licence (c : Instr) (l : LineId) (s : State) : Licence where
  control := True
  answers a := ∃ rx x stage attn f p, c = .frameReceived l rx ∧ (s.line l).job = some ⟨.exchange x, stage⟩ ∧ x.station = a ∧
    classifyAnswer x (checkReception rx) = .success attn f p
  bank := (s.line l).engine.active
  starts := c = .lineGrant l ∧ (s.line l).choose = some .start

/-- A command of one line answers a next state, and is a whole command of that line. -/
theorem exec_steps {c : Instr} (hl : c.lineOf = some l) (s : State) : Result.Steps (Instr.licence c l s) l s (exec c s) := by
  have hc (c : Instr) : (Instr.licence c l s).control := trivial
  have hb (c : Instr) : (Instr.licence c l s).OnBank (s.line l).engine := .inl rfl
  cases c <;> cases hl
  case notifyRequestProducer v => exact execNotifyRequestProducer_steps _ l v s
  case notifyCompletionConsumer v => exact execNotifyCompletionConsumer_steps _ l v s
  case notifyBufferProducer v => exact execNotifyBufferProducer_steps _ l v s
  case requestFetchIssue => exact execRequestFetchIssue_steps _ l s
  case requestFetchDone id r => exact (finishRead_steps (hc _) rfl id r s (hb _)).next
  case stagedRecordAppend => exact execStagedRecordAppend_steps l s (hb _)
  case slotTableReadDone id r => exact (finishRead_steps (hc _) rfl id r s (hb _)).next
  case trafficSelect => exact execTrafficSelect_steps (hc _) l s
  case payloadReadDone id r => exact (finishRead_steps (hc _) rfl id r s (hb _)).next
  case holdoffExpiry i => exact execHoldoffExpiry_steps _ l i s
  case stationSet => exact execStationSet_steps _ l s
  case stationRead => exact execStationRead_steps _ l s
  case lineConfig => exact execLineConfig_steps (hc _) l s
  case lineParameterBlockReadDone id r => exact (finishRead_steps (hc _) rfl id r s (hb _)).next
  case rest => exact execRest_steps _ l s
  case wake => exact execWake_steps (hc _) l s
  case lineRecover => exact execLineRecover_steps _ l s
  case fence => exact execFence_steps _ l s
  case lineGrant => exact execLineGrant_steps (hc _) l s (fun h => ⟨rfl, h⟩) (hb _)
  case slotOutputReadDone id r => exact (finishRead_steps (hc _) rfl id r s (hb _)).next
  case gapElapsed => exact execGapElapsed_steps (hc _) l s
  case collision b => exact execCollision_steps (hc _) l b s (hb _)
  case cmdSent => exact execCmdSent_steps (hc _) l s
  case datSent => exact execDatSent_steps (hc _) l s (hb _)
  case quietSent => exact execQuietSent_steps (hc _) l s
  case wackSent => exact execWackSent_steps (hc _) l s
  case receivedFrameStart => exact execReceivedFrameStart_steps (hc _) l s
  case responseTimeout => exact execResponseTimeout_steps (hc _) l s (hb _)
  case frameReceived rx =>
    exact execFrameReceived_steps (hc _) l rx s (hb _) fun x st attn f p hjob hsuccess => ⟨rx, x, st, attn, f, p, rfl, hjob, rfl, hsuccess⟩
  case descriptorFetchIssue => exact execDescriptorFetchIssue_steps _ l s
  case descriptorFetchDone id r => exact (finishRead_steps (hc _) rfl id r s (hb _)).next
  case cycleTimerExpiry => exact execCycleTimerExpiry_steps _ l s
  case syncRisingEdge => exact execSyncRisingEdge_steps _ l s
  case quiesceTimerExpiry => exact execQuiesceTimerExpiry_steps (hc _) l s
  case toneRecognised r => exact execToneRecognised_steps (hc _) r s
  case toneEnd => exact execToneEnd_steps (hc _) l s
  case overlongTone b => exact execOverlongTone_steps (hc _) l b s
  case masterToneEnd => exact execMasterToneEnd_steps (hc _) l s
  case listenWindowExpiry => exact execListenWindowExpiry_steps (hc _) l s
  case stuckLine b => exact execStuckLine_steps (hc _) l b s
  case recoveryWatchExpiry => exact execRecoveryWatchExpiry_steps (hc _) l s
  case recoveryWatchActivity => exact (endWatch_works _ l s).next
  case bufferReturnAtStop => exact execBufferReturnAtStop_steps _ l s

end Sys2Proof.Machine
end

section
/-! PROOFS. Commands of run control and the device-wide blocks, and the laws that every step keeps (O2, O3, O5 to O8, O11, O12). -/

set_option Elab.async false

namespace Sys2Proof.Machine

variable {lic : LineId → Licence} {l : LineId} {s t u : State}

/-! ## Lines kept and lines renewed -/

/-- A line as a start or a reset leaves it, in the state it then has, with a completion ring of this size (R174, R179). -/
def Line.IsNew (x : Line) (size : Nat) : Prop :=
  ∃ p st, x = { Line.fresh p (size - 1) with state := st } ∧ p.InRange ∧ size ≤ 1024

/-- The queue and the context stay, the port is only added to, and each line is kept as a whole command of that line would keep it. -/
structure State.KeepsLines (lic : LineId → Licence) (s t : State) : Prop where
  pending : t.pending = s.pending
  port : s.port <+: t.port
  context : t.context = s.context
  steps : ∀ l, (s.line l).Steps (lic l) (t.line l)
  events : s.EventLaw → t.EventLaw

/-- The queue stays, the port is only added to, and both lines are new. -/
structure State.RenewsLines (s t : State) : Prop where
  pending : t.pending = s.pending
  port : s.port <+: t.port
  isNew : ∀ l, (t.line l).IsNew (t.context.lineSection l).completionRing.size
  events : t.EventLaw

/-- What any command does to the lines. -/
def State.Commands (lic : LineId → Licence) (s t : State) : Prop := s.KeepsLines lic t ∨ s.RenewsLines t

theorem State.KeepsLines.of_same (hpending : t.pending = s.pending) (hport : s.port <+: t.port) (hcontext : t.context = s.context)
    (hline : ∀ l, t.line l = s.line l) (hevents : s.EventLaw → t.EventLaw) : s.KeepsLines lic t :=
  ⟨hpending, hport, hcontext, fun l => hline l ▸ .refl _ _, hevents⟩

theorem State.KeepsLines.refl (lic : LineId → Licence) (s : State) : s.KeepsLines lic s := .of_same rfl (List.prefix_refl _) rfl (fun _ => rfl) id

theorem State.KeepsLines.trans (h : s.KeepsLines lic t) (k : t.KeepsLines lic u) : s.KeepsLines lic u :=
  ⟨k.pending.trans h.pending, h.port.trans k.port, k.context.trans h.context, fun l => (h.steps l).trans (k.steps l),
    k.events ∘ h.events⟩

theorem State.KeepsLines.trans_renews (h : s.KeepsLines lic t) (k : t.RenewsLines u) : s.RenewsLines u :=
  ⟨k.pending.trans h.pending, h.port.trans k.port, k.isNew, k.events⟩

theorem State.Reports.pending_eq (h : s.Reports t) : t.pending = s.pending := by rw [h.rest]

theorem State.Reports.keepsLines (lic : LineId → Licence) (h : s.Reports t) (hevents : s.EventLaw → t.EventLaw) : s.KeepsLines lic t :=
  .of_same h.pending_eq h.port h.context_eq h.line hevents

/-- A report that leaves the event unit. -/
theorem State.Reports.keepsLines_of_events (lic : LineId → Licence) (h : s.Reports t) (hevents : t.events = s.events) : s.KeepsLines lic t :=
  h.keepsLines lic fun hlaw => hlaw.of_same hevents h.context_eq

theorem State.Touches.pending_eq (h : State.Touches l s t) : t.pending = s.pending := by rw [h.rest]; cases l <;> rfl

/-- A command of one line keeps that line, and leaves the other. -/
theorem State.Steps.keepsLines (h : State.Steps (lic l) l s t) : s.KeepsLines lic t where
  pending := h.touches.pending_eq
  port := h.touches.port
  context := h.touches.context_eq
  steps k := by
    obtain rfl | rfl := LineId.eq_or_other l k
    · exact h.steps
    · rw [h.touches.other]
      exact .refl _ _
  events := h.events

/-! ## Run control and the device-wide blocks -/

theorem clearVectors_reports (s : State) : s.Reports (clearVectors s) := by
  unfold clearVectors State.issueInactive
  split
  · exact ⟨rfl, List.prefix_append _ _⟩
  · exact ⟨rfl, List.prefix_refl _⟩

theorem acknowledge_reports (v0 v1 v2 : Bool) (s : State) : s.Reports (acknowledge v0 v1 v2 s) := by
  unfold acknowledge State.issueInactive
  split
  · exact ⟨rfl, List.prefix_append _ _⟩
  · exact ⟨rfl, List.prefix_refl _⟩

theorem expireHold_reports (v : VectorId) (s : State) : s.Reports (expireHold v s) := by
  unfold expireHold
  split
  · exact raiseVector_reports v s
  · exact .refl s

theorem raiseUnreported_reports (v : VectorId) (s : State) : s.Reports (raiseUnreported v s) := by
  unfold raiseUnreported
  split
  · exact raiseVector_reports v s
  · exact .refl s

theorem State.reports_of_events (s : State) (e : EventUnit) : s.Reports { s with events := e } := ⟨rfl, List.prefix_refl _⟩

theorem notifyEvent_reports (v : Half) (s : State) : s.Reports (notifyEvent v s) := by
  unfold notifyEvent
  split
  · exact (s.reports_of_events _).trans (drainEvents_reports _)
  · exact raiseEvent_reports _ s

/-! ## The event unit drains (R91, R92) -/

theorem State.eventRoom_iff : s.eventRoom = true ↔ (s.events.producer - s.events.consumer).toNat < s.context.eventRing.size - 1 :=
  decide_eq_true_iff

/-- A written record needs a free entry, and leaves the rest of the event unit. -/
theorem writeEvent_eventLaw (q : Half) (e : Event) (h : s.EventLaw) (hroom : s.eventRoom = true) : (writeEvent q e s).EventLaw := by
  obtain ⟨-, hbacklog, hloss, hfirst⟩ := h
  unfold State.EventLaw
  rw [writeEvent_events, (writeEvent_reports q e s).context_eq]
  exact ⟨producer_succ_unreleased (State.eventRoom_iff.mp hroom), hbacklog, hloss, hfirst⟩

theorem drainBacklog_eventLaw (b : List (Half × Event)) (h : s.EventLaw) (hb : b.length ≤ Config.backlogMax) :
    (drainBacklog b s).EventLaw := by
  induction b generalizing s with
  | nil =>
    obtain ⟨hproducer, -, hloss, hfirst⟩ := h
    exact ⟨hproducer, Nat.zero_le _, hloss, hfirst⟩
  | cons p rest ih =>
    obtain ⟨q, e⟩ := p
    unfold drainBacklog
    split
    · next hroom => exact ih (writeEvent_eventLaw q e h hroom) (by simp only [List.length_cons] at hb; omega)
    · obtain ⟨hproducer, -, hloss, hfirst⟩ := h
      exact ⟨hproducer, hb, hloss, hfirst⟩

theorem writeLoss_eventLaw (h : s.EventLaw) : (writeLoss s).EventLaw := by
  unfold writeLoss
  split
  · next hdue =>
    obtain ⟨hproducer, hbacklog, -, -⟩ := h
    exact writeEvent_eventLaw _ _ ⟨hproducer, hbacklog, by simp, by simp⟩ hdue.2.2
  · exact h

theorem drainEvents_eventLaw (h : s.EventLaw) : (drainEvents s).EventLaw :=
  writeLoss_eventLaw (drainBacklog_eventLaw _ h h.2.1)

theorem notifyEvent_eventLaw (v : Half) (h : s.EventLaw) : (notifyEvent v s).EventLaw := by
  unfold notifyEvent
  split
  · next hok =>
    obtain ⟨hproducer, hbacklog, hloss, hfirst⟩ := h
    have hsplit := unreleased_of_consumerOk hok
    exact drainEvents_eventLaw ⟨by simp only; omega, hbacklog, hloss, hfirst⟩
  · exact raiseEvent_eventLaw _ h

theorem raiseVector_events (v : VectorId) (s : State) : (raiseVector v s).events = s.events := by
  unfold raiseVector State.issueInterrupt
  dsimp only
  rw [State.setVector_events]
  split
  · split <;> rfl
  · rfl

theorem issueInactive_events (s u : State) : (s.issueInactive u).events = s.events := by
  unfold State.issueInactive
  split <;> rfl

theorem expireHold_events (v : VectorId) (s : State) : (expireHold v s).events = s.events := by
  unfold expireHold
  split
  · exact raiseVector_events v s
  · rfl

theorem acknowledge_events (v0 v1 v2 : Bool) (s : State) : (acknowledge v0 v1 v2 s).events = s.events := by
  rw [acknowledge, issueInactive_events]

/-! ## Resets and the ends of starts and stops -/

theorem Line.absent_isNew : Line.absent.IsNew 0 := ⟨Params.default, .off, rfl, Params.default_inRange, by omega⟩

/-- A fresh event unit keeps its law in any ring (R89). -/
theorem State.eventLaw_of_fresh (h : s.events = EventUnit.fresh) : s.EventLaw := by
  simp [State.EventLaw, h, EventUnit.fresh]

/-- After a discard both lines are absent (R178, R179; log entry 6). -/
theorem State.discard_renews (s : State) : s.RenewsLines s.discard :=
  ⟨rfl, List.prefix_refl _, fun l => by cases l <;> exact Line.absent_isNew, State.eventLaw_of_fresh rfl⟩

theorem State.Reports.trans_renews (h : s.Reports t) (k : t.RenewsLines u) : s.RenewsLines u :=
  ⟨k.pending.trans h.pending_eq, h.port.trans k.port, k.isNew, k.events⟩

theorem deviceReset_renews (keep : Bool) (s : State) : s.RenewsLines (deviceReset keep s) :=
  (clearVectors_reports s).trans_renews
    ⟨rfl, List.prefix_refl _, fun l => by cases l <;> exact Line.absent_isNew, State.eventLaw_of_fresh rfl⟩

theorem endStop_renews (s : State) : s.RenewsLines (endStop s) :=
  (s.reports_of_events _).trans_renews ((raiseUnreported_reports .vector0 _).trans_renews ((raiseUnreported_reports .vector1 _).trans_renews
    ((raiseUnreported_reports .vector2 _).trans_renews ((clearVectors_reports _).trans_renews (State.discard_renews _)))))

/-- What leads to the end of an event drain keeps the lines, unless the stop ends (R178). -/
theorem State.KeepsLines.finishDrain (h : s.KeepsLines lic t) : s.Commands lic (finishDrain t) := by
  unfold Machine.finishDrain
  split
  · exact .inr (h.trans_renews (endStop_renews t))
  · exact .inl h

theorem failStart_keepsLines (lic : LineId → Licence) (f : FaultInfo) (a : Addr) (s : State) : s.KeepsLines lic (failStart f a s) := by
  unfold failStart
  dsimp only
  split
  · exact .of_same rfl (List.prefix_append _ _) rfl (fun l => by cases l <;> rfl) fun h => h
  · exact .of_same rfl (List.prefix_refl _) rfl (fun l => by cases l <;> rfl) fun h => h

/-- A block without a fault has rings of permitted sizes and parameter values in range (R172, R173). -/
theorem contextFault_eq_none {d : List Byte} (h : contextFault d = none) :
    (∀ r, r ∈ (parseContext d).rings → ringSizeOk r.2.1 r.2.2 r.1.size = true) ∧
      (parseContext d).section0.badParameter = none ∧ (parseContext d).section1.badParameter = none := by
  unfold contextFault at h
  dsimp only at h
  iterate 3
    split at h
    · cases h
  split at h
  · cases h
  · next hrings =>
    split at h
    · cases h
    · split at h
      · cases h
      · next h0 =>
        split at h
        · cases h
        · next h1 => exact ⟨fun r hr => by simpa using List.findIdx?_eq_none_iff.mp hrings r hr, h0, h1⟩

/-- Parameters with none out of range are in range (R24). -/
theorem LineSection.loadedParams_inRange {sec : LineSection} (h : sec.badParameter = none) : sec.loadedParams.InRange := by
  unfold LineSection.badParameter at h
  unfold LineSection.loadedParams
  split
  · exact Params.default_inRange
  · next hdef =>
    rw [if_neg hdef] at h
    have hall := Params.default_inRange.install_block h
    simpa [Params.install, GroupMask.all] using hall

theorem ringSizeOk_le {lo hi n : Nat} (h : ringSizeOk lo hi n = true) : n ≤ hi := by
  unfold ringSizeOk at h
  simp only [Bool.and_eq_true, decide_eq_true_eq] at h
  exact h.1.2

/-- A section of a block that passed gives a new line, in whatever state (R174). -/
theorem startLine_isNew {d : List Byte} (h : contextFault d = none) (l : LineId) (st : LineState) :
    ({ ((parseContext d).lineSection l).startLine with state := st } : Line).IsNew
      ((parseContext d).lineSection l).completionRing.size := by
  obtain ⟨hrings, h0, h1⟩ := contextFault_eq_none h
  refine ⟨((parseContext d).lineSection l).loadedParams, st, rfl, ?_, ?_⟩
  · cases l
    · exact LineSection.loadedParams_inRange h0
    · exact LineSection.loadedParams_inRange h1
  · cases l
    · exact ringSizeOk_le (hrings ((parseContext d).section0.completionRing, 8, 1024) (by simp [ContextBlock.rings]))
    · exact ringSizeOk_le (hrings ((parseContext d).section1.completionRing, 8, 1024) (by simp [ContextBlock.rings]))

/-- Bringing a line up touches that line only, and moves it to ACTIVE when it is enabled (R174). -/
theorem bringUp_touches (l : LineId) (s : State) : State.Touches l s (bringUp l s) := by
  unfold bringUp
  split
  · exact moveLine_touches l _ _ s
  · exact .refl l s

theorem bringUp_line (l : LineId) (s : State) :
    (bringUp l s).line l = { s.line l with state := if (s.context.lineSection l).enable then .active else (s.line l).state } := by
  unfold bringUp
  split
  · rw [moveLine_line]
  · rfl

/-- The initialised part, before its lines are brought up (R174 steps 1 to 5). -/
def State.prepared (s : State) (c : ContextBlock) : State :=
  { ({ s with context := c, contextRead := none } : State).hostWrite c.indexPage (zeros 256) with
    events := EventUnit.fresh
    vector0 := VectorState.fresh
    vector1 := VectorState.fresh
    vector2 := VectorState.fresh
    drain := none
    line0 := c.section0.startLine
    line1 := c.section1.startLine
    run := .running }

theorem initialise_eq (c : ContextBlock) (s : State) : initialise c s = bringUp .line1 (bringUp .line0 (s.prepared c)) := rfl

theorem initialise_context (c : ContextBlock) (s : State) : (initialise c s).context = c := by
  rw [initialise_eq, (bringUp_touches _ _).context_eq, (bringUp_touches _ _).context_eq]
  rfl

/-- After the initialisation each line is new, ACTIVE when it is enabled (R174). -/
theorem initialise_line (c : ContextBlock) (s : State) (l : LineId) :
    (initialise c s).line l = { (c.lineSection l).startLine with state := if (c.lineSection l).enable then .active else .off } := by
  have h0 : (bringUp .line0 (s.prepared c)).line .line0 =
      { c.section0.startLine with state := if c.section0.enable then .active else .off } := bringUp_line .line0 _
  have h1 : (bringUp .line1 (bringUp .line0 (s.prepared c))).line .line1 = { (bringUp .line0 (s.prepared c)).line .line1 with
      state := if ((bringUp .line0 (s.prepared c)).context.lineSection .line1).enable then .active
        else ((bringUp .line0 (s.prepared c)).line .line1).state } := bringUp_line .line1 _
  have hother : (bringUp .line0 (s.prepared c)).line .line1 = c.section1.startLine := (bringUp_touches .line0 (s.prepared c)).other
  have hkeep : (bringUp .line1 (bringUp .line0 (s.prepared c))).line .line0 = (bringUp .line0 (s.prepared c)).line .line0 :=
    (bringUp_touches .line1 _).other
  rw [initialise_eq]
  cases l
  · rw [hkeep, h0]
    rfl
  · rw [h1, (bringUp_touches .line0 (s.prepared c)).context_eq, hother]
    rfl

/-- The first events of a run are written or backlogged as any other (R174). -/
theorem initialise_eventLaw (c : ContextBlock) (s : State) : (initialise c s).EventLaw := by
  have hup (l : LineId) (u : State) (h : u.EventLaw) : (bringUp l u).EventLaw := by
    unfold bringUp
    split
    · exact raiseEvent_eventLaw _ (h.of_same (State.updLine_events ..) (State.updLine_context ..))
    · exact h
  exact hup .line1 _ (hup .line0 _ (State.eventLaw_of_fresh rfl))

theorem endContextRead_commands (lic : LineId → Licence) (data : Option (List Byte)) (s : State) :
    s.Commands lic (endContextRead data s) := by
  unfold endContextRead
  split
  · exact .inl (failStart_keepsLines lic _ _ s)
  · next d =>
    split
    · exact .inl (failStart_keepsLines lic _ _ s)
    · next hok =>
      have hport : s.port <+: (initialise (parseContext d) s).port := by
        rw [initialise_eq]
        exact .trans (List.prefix_append s.port _) ((bringUp_touches .line0 (s.prepared (parseContext d))).port.trans (bringUp_touches .line1 _).port)
      refine .inr ⟨?_, hport, fun l => ?_, initialise_eventLaw _ s⟩
      · rw [initialise_eq, (bringUp_touches _ _).pending_eq, (bringUp_touches _ _).pending_eq]
        rfl
      · rw [initialise_line, initialise_context]
        exact startLine_isNew hok l _

theorem takeDown_works (lic : Licence) (hc : lic.control) (l : LineId) (s : State) : State.Works lic l 0 s (takeDown l s) :=
  .ite (fun _ => .refl lic l s) fun _ => (moveLine_works hc l _ _ s).trans (State.updLine_works (Line.keeps_control hc _ _ _ _ _ _))

theorem beginStop_keepsLines (hc : ∀ l, (lic l).control) (b1 b2 : Bool) (s : State) : s.KeepsLines lic (beginStop b1 b2 s) := by
  have hrun : s.KeepsLines lic { s with run := .stopping } := .of_same rfl (List.prefix_refl _) rfl (fun l => by cases l <;> rfl) fun h => h
  have hstop (l : LineId) (u : State) : u.KeepsLines lic (stopLine b2 l u) := (stopLine_steps (hc l) b2 l u).keepsLines
  unfold beginStop
  dsimp only
  split
  · exact hrun.trans ((hstop .line1 _).trans (hstop .line0 _))
  · exact hrun.trans ((hstop .line0 _).trans (hstop .line1 _))

/-! ## Every command -/

/-- The outcome `r` of a command at `s` is a next state, with both lines kept or renewed. -/
def Result.Commands (lic : LineId → Licence) (s : State) (r : Result) : Prop := ∃ t, r = .next t ∧ s.Commands lic t

theorem State.Commands.next (h : s.Commands lic t) : Result.Commands lic s (.next t) := ⟨t, rfl, h⟩

theorem State.KeepsLines.next (h : s.KeepsLines lic t) : Result.Commands lic s (.next t) := ⟨t, rfl, .inl h⟩

theorem Result.Commands.same (lic : LineId → Licence) (s : State) : Result.Commands lic s (.next s) := (State.KeepsLines.refl lic s).next

theorem execDctlEnableSet_commands (lic : LineId → Licence) (s : State) : Result.Commands lic s (execDctlEnableSet s) := by
  unfold execDctlEnableSet
  split
  · split
    · exact ⟨_, rfl, .inl (.of_same rfl (List.prefix_refl _) rfl (fun l => by cases l <;> rfl) fun h => h)⟩
    · exact (failStart_keepsLines lic _ _ s).next
  · exact .same lic s

theorem execDctlEnableClear_commands (hc : ∀ l, (lic l).control) (b1 b2 : Bool) (s : State) :
    Result.Commands lic s (execDctlEnableClear b1 b2 s) := by
  unfold execDctlEnableClear
  split
  · exact ⟨_, rfl, .inl (.of_same rfl (List.prefix_refl _) rfl (fun l => by cases l <;> rfl) fun h => h)⟩
  · exact (beginStop_keepsLines hc b1 b2 s).next
  · exact ⟨_, rfl, .inl (.of_same rfl (List.prefix_refl _) rfl (fun l => by cases l <;> rfl) fun h => h)⟩
  · exact .same lic s

theorem execNotifyEventConsumer_commands (lic : LineId → Licence) (v : Half) (s : State) :
    Result.Commands lic s (execNotifyEventConsumer v s) := by
  have hnotify : s.Commands lic (finishDrain (notifyEvent v s)) := ((notifyEvent_reports v s).keepsLines lic (notifyEvent_eventLaw v)).finishDrain
  unfold execNotifyEventConsumer
  split
  · exact hnotify.next
  · exact hnotify.next
  · exact .same lic s

theorem execNotifyRingId7_commands (lic : LineId → Licence) (v : Half) (s : State) : Result.Commands lic s (execNotifyRingId7 v s) := by
  unfold execNotifyRingId7
  split
  · exact ((raiseEvent_reports _ s).keepsLines lic (raiseEvent_eventLaw _)).next
  · exact .same lic s

theorem execRegisterWrite_commands (lic : LineId → Licence) (r : PlainRegister) (v : Word) (s : State) :
    Result.Commands lic s (execRegisterWrite r v s) := by
  unfold execRegisterWrite
  split
  case h_5 => exact .same lic s
  all_goals exact ⟨_, rfl, .inl (.of_same rfl (List.prefix_refl _) rfl (fun l => by cases l <;> rfl) fun h => h)⟩

theorem contextEnded_commands (lic : LineId → Licence) (id : Nat) (data : Option (List Byte)) (s : State) :
    s.Commands lic (contextEnded id data s) := by
  unfold contextEnded
  split
  · exact endContextRead_commands lic data s
  · exact .inl (.refl lic s)

theorem State.endRead_keepsLines (lic : LineId → Licence) (s : State) (id : Nat) : s.KeepsLines lic (s.endRead id) :=
  .of_same rfl (List.prefix_refl _) rfl (fun l => by simp) fun h => h

theorem State.KeepsLines.trans_commands (h : s.KeepsLines lic t) (k : t.Commands lic u) : s.Commands lic u :=
  k.imp h.trans h.trans_renews

theorem execContextReadDone_commands (lic : LineId → Licence) (id : Nat) (r : ReadResult) (s : State) :
    Result.Commands lic s (execContextReadDone id r s) := by
  refine State.Commands.next ?_
  unfold finishRead
  split
  · next read _ =>
    split
    · next hreader =>
      rw [readEnded_of_context (by rw [hreader]; rfl)]
      exact (s.endRead_keepsLines lic id).trans_commands (contextEnded_commands lic _ _ _)
    · exact .inl (.refl lic s)
  · exact .inl (.refl lic s)

theorem execHostReadTimeout_commands (hc : ∀ l, (lic l).control) (hb : ∀ l, (lic l).OnBank (s.line l).engine) (id : Nat) :
    Result.Commands lic s (execHostReadTimeout id s) := by
  unfold execHostReadTimeout
  split
  · next read _ =>
    cases hl : read.reader.line? with
    | some l => exact (endRead_readEnded_steps (lic := lic l) (hc l) hl id none s (hb l)).keepsLines.next
    | none =>
      rw [readEnded_of_context hl]
      exact ((s.endRead_keepsLines lic id).trans_commands (contextEnded_commands lic _ _ _)).next
  · exact .same lic s

theorem execStopLineWorkEnd_commands (hc : ∀ l, (lic l).control) (s : State) : Result.Commands lic s (execStopLineWorkEnd s) := by
  unfold execStopLineWorkEnd
  split
  · refine State.Commands.next (State.KeepsLines.finishDrain ?_)
    have hdown (l : LineId) (u : State) : u.KeepsLines lic (takeDown l u) := (takeDown_works (lic l) (hc l) l u).steps.keepsLines
    exact (hdown .line0 s).trans ((hdown .line1 _).trans (.of_same rfl (List.prefix_refl _) rfl (fun l => by cases l <;> rfl) fun h => h))
  · exact .same lic s

theorem execEventDrainExpiry_commands (lic : LineId → Licence) (s : State) : Result.Commands lic s (execEventDrainExpiry s) := by
  unfold execEventDrainExpiry
  split
  · exact State.Commands.next (.inr (endStop_renews s))
  · exact .same lic s

/-- A command of no line answers a next state, with both lines kept or renewed. -/
theorem exec_commands_of_none {c : Instr} (hl : c.lineOf = none) (s : State) :
    Result.Commands (fun l => Instr.licence c l s) s (exec c s) := by
  have hc (c : Instr) (l : LineId) : (Instr.licence c l s).control := trivial
  have hb (c : Instr) (l : LineId) : (Instr.licence c l s).OnBank (s.line l).engine := .inl rfl
  cases c
  case powerOn => exact State.Commands.next (.inr (deviceReset_renews false s))
  case nReset => exact State.Commands.next (.inr (deviceReset_renews false s))
  case dctlEnableSet => exact execDctlEnableSet_commands _ s
  case dctlEnableClear b1 b2 => exact execDctlEnableClear_commands (hc _) b1 b2 s
  case dctlReset b => exact State.Commands.next (.inr (deviceReset_renews true s))
  case notifyEventConsumer v => exact execNotifyEventConsumer_commands _ v s
  case notifyRingId7 v => exact execNotifyRingId7_commands _ v s
  case irqpendAcknowledge v0 v1 v2 => exact ((acknowledge_reports v0 v1 v2 s).keepsLines_of_events _ (acknowledge_events v0 v1 v2 s)).next
  case registerWrite r v => exact execRegisterWrite_commands _ r v s
  case contextReadDone id r => exact execContextReadDone_commands _ id r s
  case hostReadTimeout id => exact execHostReadTimeout_commands (hc _) (hb _) id
  case eventBacklogDrain => exact (((drainEvents_reports s).keepsLines _ drainEvents_eventLaw).finishDrain).next
  case holdTimerExpiry v => exact ((expireHold_reports v s).keepsLines_of_events _ (expireHold_events v s)).next
  case stopLineWorkEnd => exact execStopLineWorkEnd_commands (hc _) s
  case eventDrainExpiry => exact execEventDrainExpiry_commands _ s
  all_goals cases hl

/-- Every command answers a next state, with both lines kept or renewed. -/
theorem exec_commands (c : Instr) (s : State) : Result.Commands (fun l => Instr.licence c l s) s (exec c s) := by
  cases hl : c.lineOf with
  | some l =>
    obtain ⟨t, ht, hsteps⟩ := exec_steps hl s
    exact ⟨t, ht, .inl (hsteps.keepsLines (lic := fun l => Instr.licence c l s))⟩
  | none => exact exec_commands_of_none hl s

theorem commands_of_exec {c : Instr} (h : exec c s = .next t) : s.Commands (fun l => Instr.licence c l s) t := by
  obtain ⟨u, hu, hcommands⟩ := exec_commands c s
  rw [h] at hu
  cases hu
  exact hcommands

/-- A step idles, or runs a command on the rest of the queue. -/
theorem step_commands (h : step s = .next t) : t = s ∨ ∃ c rest, { s with pending := rest }.Commands (fun l => Instr.licence c l s) t := by
  unfold step at h
  split at h
  · cases h
    exact .inl rfl
  · next c rest _ => exact .inr ⟨c, rest, commands_of_exec h⟩

/-- A law of a line's state and its context that whole commands keep and new lines meet is kept by every step. -/
theorem step_keeps {P : Line → Nat → Prop} (hsteps : ∀ {lic : Licence} {x y : Line} {n : Nat}, x.Steps lic y → P x n → P y n)
    (hnew : ∀ {x : Line} {n : Nat}, x.IsNew n → P x n) (h : step s = .next t)
    (hs : P (s.line l) (s.context.lineSection l).completionRing.size) : P (t.line l) (t.context.lineSection l).completionRing.size := by
  obtain rfl | ⟨c, rest, hkeep | hrenew⟩ := step_commands h
  · exact hs
  · rw [hkeep.context]
    exact hsteps (hkeep.steps l) (by cases l <;> exact hs)
  · exact hnew (hrenew.isNew l)

theorem Line.IsNew.pendingLaw {x : Line} {n : Nat} (h : x.IsNew n) : x.PendingLaw := by
  obtain ⟨p, st, rfl, -, -⟩ := h
  exact Nat.zero_le _

theorem Line.IsNew.creditOk {x : Line} {n : Nat} (h : x.IsNew n) : x.CreditOk n := by
  obtain ⟨p, st, rfl, -, hn⟩ := h
  refine ⟨hn, nofun, ?_⟩
  simp [Line.booked, Line.fresh, Intake.owed, CompletionWriter.unreleased]

theorem Line.IsNew.buffersLaw {x : Line} {n : Nat} (h : x.IsNew n) : x.buffers.Law := by
  obtain ⟨p, st, rfl, -, -⟩ := h
  simp [BufferUnit.Law, Line.fresh]

theorem Line.IsNew.station {x : Line} {n : Nat} (h : x.IsNew n) (a : Nat) : x.station a = Station.fresh := by
  obtain ⟨p, st, rfl, -, -⟩ := h
  unfold Line.station
  split
  · simp [Line.fresh]
  · rfl

theorem Line.IsNew.tableLaw {x : Line} {n : Nat} (h : x.IsNew n) : x.TableLaw := by
  have hstation := h.station
  obtain ⟨p, st, rfl, hp, -⟩ := h
  exact ⟨hp, hp.threshold_pos, fun a _ _ => by rw [hstation]; rfl⟩

theorem Line.IsNew.engine {x : Line} {n : Nat} (h : x.IsNew n) : x.engine = Engine.fresh := by
  obtain ⟨p, st, rfl, -, -⟩ := h
  rfl

/-! ## The cycle number of a start -/

/-- A slot that ends leaves the cycle number. -/
theorem recordSlot_engine_cycle (l : LineId) (r : SlotResult) (k : Option Nat) (s : State) (n : Nat) :
    ((recordSlot l r k s n).line l).engine.cycle = (s.line l).engine.cycle := by
  obtain ⟨b, hb⟩ := recordSlot_engine l r k s n
  rw [hb, Engine.setBank_cycle]

theorem recordSlots_cycle (l : LineId) (r : SlotResult) (ns : List Nat) (s : State) :
    ((recordSlots l r ns s).line l).engine.cycle = (s.line l).engine.cycle := by
  unfold recordSlots
  induction ns generalizing s with
  | nil => rfl
  | cons n rest ih => exact (ih _).trans (recordSlot_engine_cycle l r none s n)

theorem switchIfCommitted_cycle (l : LineId) (s : State) : ((switchIfCommitted l s).line l).engine.cycle = (s.line l).engine.cycle := by
  unfold switchIfCommitted
  split
  · unfold switchBanks
    dsimp only
    obtain ⟨es, c, h⟩ := finishFirst_line_rest l (fun p => decide (p.state = .parked)) ⟨.ok, 0, false, false⟩
      (writeCycleRecord l (raiseEvent (.scheduleSwitched l (s.line l).engine.cycle (s.line l).engine.active.other) (updEngine l (fun _ =>
        { ((s.line l).engine.setBank (s.line l).engine.active { (s.line l).engine.activeBank with
            state := if (s.line l).engine.activeBank.state = .active then .loaded else (s.line l).engine.activeBank.state }).setBank
          (s.line l).engine.active.other { (s.line l).engine.inactiveBank with state := .active } with
          active := (s.line l).engine.active.other }) s)))
    rw [h, (writeCycleRecord_reports l _).line l, (raiseEvent_reports _ _).line l, updEngine_line]
    simp
  · rfl

theorem endCycle_cycle (l : LineId) (s : State) : ((endCycle l s).line l).engine.cycle = (s.line l).engine.cycle := by
  rw [endCycle, (writeCycleRecord_reports l _).line l, updEngine_line]

theorem reachSlots_cycle (l : LineId) (ns : List Nat) (s : State) : ((reachSlots l ns s).line l).engine.cycle = (s.line l).engine.cycle := by
  induction ns generalizing s with
  | nil => exact endCycle_cycle l s
  | cons n rest ih =>
    have hpass (u : State) : ((passSlot l u).line l).engine.cycle = (u.line l).engine.cycle := by simp [passSlot]
    unfold reachSlots
    split
    · rw [ih, hpass]
    · split
      · rw [ih, hpass, recordSlot_engine_cycle]
      · unfold prepareSlot
        dsimp only
        split <;> simp

/-- A start taken raises the cycle number by 1 (R113). -/
theorem takeStart_cycle (l : LineId) (s : State) : ((takeStart l s).line l).engine.cycle = (s.line l).engine.cycle + 1 := by
  have both {p : Prop} [Decidable p] {u v : State} {n : Word} (hu : (u.line l).engine.cycle = n) (hv : (v.line l).engine.cycle = n) :
      ((if p then u else v).line l).engine.cycle = n := by
    split
    · exact hu
    · exact hv
  have hover {p : Prop} [Decidable p] (e : Event) (f g : Engine → Engine) (ns : List Nat) (hf : ∀ g : Engine, (f g).cycle = g.cycle)
      (hg : ∀ x : Engine, (g x).cycle = x.cycle) :
      ((switchIfCommitted l (if p then raiseEvent e (updEngine l f (recordSlots l .skippedOverrun ns (updEngine l g s)))
        else updEngine l g s)).line l).engine.cycle = (s.line l).engine.cycle := by
    rw [switchIfCommitted_cycle]
    refine both ?_ ?_
    · rw [(raiseEvent_reports _ _).line l, updEngine_line, hf, recordSlots_cycle, updEngine_line, hg]
    · rw [updEngine_line, hg]
  unfold takeStart
  refine both ?_ ?_
  · rw [endCycle_cycle, updEngine_line]
    exact congrArg (· + 1) (hover _ _ _ _ (fun _ => by rfl) fun _ => by rfl)
  · rw [reachSlots_cycle, (writeCycleRecord_reports l _).line l, updEngine_line, updEngine_line]
    exact congrArg (· + 1) (hover _ _ _ _ (fun _ => by rfl) fun _ => by rfl)

/-- A grant of a start that changes the engine has taken the start (R112). -/
theorem lineGrant_start_cycle (hchoose : (s.line l).choose = some .start) (h : exec (.lineGrant l) s = .next t)
    (hne : (t.line l).engine.active ≠ (s.line l).engine.active) : (t.line l).engine.cycle = (s.line l).engine.cycle + 1 := by
  change execLineGrant l s = .next t at h
  unfold execLineGrant at h
  dsimp only at h
  rw [hchoose] at h
  split at h
  · cases h
    exact takeStart_cycle l s
  · cases h
    exact absurd rfl hne

/-- Settles O2: every command keeps or renews the lines, and the queue and what the port has issued stay either way. -/
theorem everyCommandAnswersANextState : Obligations.EveryCommandAnswersANextState := by
  refine ⟨fun c s => ?_, fun c s t h => ?_⟩
  · obtain ⟨t, ht, hkeep | hrenew⟩ := exec_commands c s
    · exact ⟨t, ht, hkeep.pending⟩
    · exact ⟨t, ht, hrenew.pending⟩
  · obtain hkeep | hrenew := commands_of_exec h
    · exact hkeep.port
    · exact hrenew.port

/-- Settles O3: a command of one line touches nothing but that line, the event unit, the vectors, the reads and the port. -/
theorem linesShareOnlyDeviceWideBlocks : Obligations.LinesShareOnlyDeviceWideBlocks := by
  intro c l s t hl h
  obtain ⟨u, hu, hsteps⟩ := exec_steps hl s
  rw [h] at hu
  cases hu
  have hrest := hsteps.touches.rest
  refine ⟨hsteps.touches.other, ?_⟩
  rw [hrest]
  simp

/-- Settles O5: each operation books what it takes in hand, and intake hands on exactly one record. -/
theorem stepKeepsThePendingAndCreditLaws : Obligations.StepKeepsThePendingAndCreditLaws :=
  ⟨fun _ _ hs h l => step_keeps (P := fun x _ => x.PendingLaw) (fun hsteps => hsteps.pending) (fun hnew => hnew.pendingLaw) h (hs l),
    fun _ _ hs h l => step_keeps (P := Line.CreditOk) (fun hsteps => hsteps.credit _) (fun hnew => hnew.creditOk) h (hs l)⟩

/-- Settles O6: descriptors go back one index for each that leaves the held list. -/
theorem stepKeepsTheBufferLaw : Obligations.StepKeepsTheBufferLaw :=
  fun _ _ hs h l => step_keeps (P := fun x _ => x.buffers.Law) (fun hsteps => hsteps.buffers) (fun hnew => hnew.buffersLaw) h (hs l)

/-- Settles O8: every change of a record keeps its law, and new values of the parameters come with a re-evaluation. -/
theorem stepKeepsTheStationLaw : Obligations.StepKeepsTheStationLaw :=
  fun _ _ hs h l => step_keeps (P := fun x _ => x.TableLaw) (fun hsteps => hsteps.table) (fun hnew => hnew.tableLaw) h (hs l)

/-- Settles O7: an event raised or drained takes a free entry only where there is one, and commands else leave the event unit or make it anew. -/
theorem stepKeepsTheEventLaw : Obligations.StepKeepsTheEventLaw := by
  intro s t hs h
  obtain rfl | ⟨c, rest, hkeep | hrenew⟩ := step_commands h
  · exact hs
  · exact hkeep.events hs
  · exact hrenew.events

/-- Settles O12: only a frame that answers the exchange in flight is licensed to toggle the bit, and new records are fresh. -/
theorem seqBitChangesOnlyOnSuccess : Obligations.SeqBitChangesOnlyOnSuccess := by
  intro c l a s t h hne
  obtain hkeep | hrenew := commands_of_exec h
  · obtain hsame | hanswers := (hkeep.steps l).seq a
    · exact absurd hsame hne
    · exact .inr hanswers
  · exact .inl ((hrenew.isNew l).station a)

/-- Settles O11: only the grant of a start is licensed to leave the active bank with a running engine. -/
theorem activeBankChangesOnlyAtStartStopOrHalt : Obligations.ActiveBankChangesOnlyAtStartStopOrHalt := by
  intro c l s t h hne
  obtain hkeep | hrenew := commands_of_exec h
  · obtain (hsame | ⟨rfl, hchoose⟩) | hstopped | hhalted := (hkeep.steps l).bank (.inl (.inl rfl))
    · exact absurd hsame hne
    · exact .inr (.inr ⟨rfl, lineGrant_start_cycle hchoose h hne⟩)
    · exact .inl hstopped
    · exact .inr (.inl hhalted)
  · rw [(hrenew.isNew l).engine]
    exact .inl rfl

end Sys2Proof.Machine
end

section
/-! PROOFS. Run control (O1, O4, O10): what moves the run state, and the law of run control. -/

set_option Elab.async false

namespace Sys2Proof.Machine

variable {l : LineId} {s t u : State}

/-- Settles O1: the two cases of a step. -/
theorem stepRunsTheFrontCommand : Obligations.StepRunsTheFrontCommand := by
  refine ⟨fun c rest s h => ?_, fun s h => ?_⟩
  · simp only [step, h]
  · simp only [step, h]

/-- Settles O10: a reset leaves new lines, and everything else empty. -/
theorem resetMeetsTheLaws : Obligations.ResetMeetsTheLaws := by
  have hnew (l : LineId) : (State.reset.line l).IsNew (State.reset.context.lineSection l).completionRing.size := by
    cases l <;> exact Line.absent_isNew
  refine ⟨⟨nofun, nofun⟩, by simp [State.EventLaw, State.reset, EventUnit.fresh], fun l =>
    ⟨(hnew l).pendingLaw, (hnew l).creditOk, (hnew l).buffersLaw, (hnew l).tableLaw, ?_⟩⟩
  cases l <;> simp [Line.ControlLaw, State.line, State.reset, Line.absent, Line.fresh, WakeSequence.fresh, WakePhase.fits, Line.transmitting]

/-! ## Run control -/

/-- Run state, context read and event drain are the same. -/
structure State.SameRun (s t : State) : Prop where
  run : t.run = s.run
  contextRead : t.contextRead = s.contextRead
  drain : t.drain = s.drain

theorem State.SameRun.refl (s : State) : s.SameRun s := ⟨rfl, rfl, rfl⟩

theorem State.SameRun.trans (h : s.SameRun t) (k : t.SameRun u) : s.SameRun u :=
  ⟨k.run.trans h.run, k.contextRead.trans h.contextRead, k.drain.trans h.drain⟩

theorem State.Reports.sameRun (h : s.Reports t) : s.SameRun t := by constructor <;> rw [h.rest]

theorem State.Touches.sameRun (h : State.Touches l s t) : s.SameRun t := by
  constructor <;> rw [h.rest] <;> simp

theorem State.SameRun.runLaw (h : s.SameRun t) (hs : s.RunLaw) : t.RunLaw := by
  unfold State.RunLaw
  rw [h.run, h.contextRead, h.drain]
  exact hs

/-- How a command may move the run state (R170). -/
def Instr.MovesRun (c : Instr) (s t : State) : Prop :=
  (t.run = .off ∧ (c = .powerOn ∨ c = .nReset ∨ ∃ b, c = .dctlReset b)) ∨
  (s.run = .off ∧ c = .dctlEnableSet ∧ (t.run = .starting ∨ t.run = .fault)) ∨
  (s.run = .starting ∧ (t.run = .running ∨ t.run = .fault) ∧ ((∃ id r, c = .contextReadDone id r) ∨ ∃ id, c = .hostReadTimeout id)) ∨
  (∃ b1 b2, c = .dctlEnableClear b1 b2 ∧
    (s.run = .starting ∧ t.run = .off ∨ s.run = .running ∧ t.run = .stopping ∨ s.run = .fault ∧ t.run = .off)) ∨
  (s.run = .stopping ∧ t.run = .off ∧
    (c = .stopLineWorkEnd ∨ c = .eventDrainExpiry ∨ c = .eventBacklogDrain ∨ ∃ v, c = .notifyEventConsumer v))

/-- A command keeps the law of run control, and moves the run state as its table says (R170, R178). -/
def Instr.RunsSound (c : Instr) (s t : State) : Prop := t.RunLaw ∧ (t.run = s.run ∨ Instr.MovesRun c s t)

theorem State.SameRun.sound {c : Instr} (h : s.SameRun t) (hs : s.RunLaw) : Instr.RunsSound c s t := ⟨h.runLaw hs, .inl h.run⟩

/-- With the device in neither STARTING nor STOPPING no context read is waited for and no drain runs. -/
theorem State.RunLaw.idle (h : s.RunLaw) : (s.run ≠ .starting → s.contextRead = none) ∧ (s.run ≠ .stopping → s.drain = none) := by
  refine ⟨fun hrun => ?_, fun hrun => ?_⟩
  · exact Option.not_isSome_iff_eq_none.mp fun hsome => hrun (h.1 hsome)
  · exact Option.not_isSome_iff_eq_none.mp fun hsome => hrun (h.2 hsome)

theorem State.runLaw_of_none (hcontext : t.contextRead = none) (hdrain : t.drain = none) : t.RunLaw := by
  simp [State.RunLaw, hcontext, hdrain]

theorem failStart_fields (f : FaultInfo) (a : Addr) (s : State) :
    (failStart f a s).run = .fault ∧ (failStart f a s).contextRead = none ∧ (failStart f a s).drain = s.drain := by
  unfold failStart
  dsimp only
  split <;> exact ⟨rfl, rfl, rfl⟩

theorem initialise_fields (c : ContextBlock) (s : State) :
    (initialise c s).run = .running ∧ (initialise c s).contextRead = none ∧ (initialise c s).drain = none := by
  have hsame : (s.prepared c).SameRun (initialise c s) := (bringUp_touches .line0 _).sameRun.trans (bringUp_touches .line1 _).sameRun
  exact ⟨hsame.run, hsame.contextRead, hsame.drain⟩

/-- The end of the context read ends the start in RUNNING or FAULT (R173, R174). -/
theorem endContextRead_fields (data : Option (List Byte)) (s : State) :
    ((endContextRead data s).run = .running ∨ (endContextRead data s).run = .fault) ∧ (endContextRead data s).contextRead = none ∧
      ((endContextRead data s).drain = s.drain ∨ (endContextRead data s).drain = none) := by
  have hfail (f : FaultInfo) (a : Addr) : ((failStart f a s).run = .running ∨ (failStart f a s).run = .fault) ∧
      (failStart f a s).contextRead = none ∧ ((failStart f a s).drain = s.drain ∨ (failStart f a s).drain = none) := by
    obtain ⟨hrun, hcontext, hdrain⟩ := failStart_fields f a s
    exact ⟨.inr hrun, hcontext, .inl hdrain⟩
  unfold endContextRead
  split
  · exact hfail _ _
  · split
    · exact hfail _ _
    · next d _ _ =>
      obtain ⟨hrun, hcontext, hdrain⟩ := initialise_fields (parseContext d) s
      exact ⟨.inl hrun, hcontext, .inr hdrain⟩

theorem contextEnded_sound {c : Instr} (hc : (∃ id r, c = .contextReadDone id r) ∨ ∃ id, c = .hostReadTimeout id) (id : Nat)
    (data : Option (List Byte)) (h : s.SameRun u) (hs : s.RunLaw) : Instr.RunsSound c s (contextEnded id data u) := by
  unfold contextEnded
  split
  · next hread =>
    have hu := h.runLaw hs
    have hstarting : u.run = .starting := hu.1 (by rw [hread]; rfl)
    obtain ⟨hrun, hcontext, hdrain⟩ := endContextRead_fields data u
    have hnone : u.drain = none := hu.idle.2 (by rw [hstarting]; nofun)
    exact ⟨State.runLaw_of_none hcontext (hdrain.elim (fun h => h.trans hnone) fun h => h),
      .inr (.inr (.inr (.inl ⟨h.run.symm.trans hstarting, hrun, hc⟩)))⟩
  · exact h.sound hs

/-- The end of a stop leaves OFF (R178). -/
theorem finishDrain_sound {c : Instr} (hc : c = .stopLineWorkEnd ∨ c = .eventBacklogDrain ∨ ∃ v, c = .notifyEventConsumer v)
    (hrun : u.run = s.run) (hu : u.RunLaw) : Instr.RunsSound c s (finishDrain u) := by
  unfold finishDrain
  split
  · next hend =>
    have hstopping : s.run = .stopping := hrun.symm.trans (hu.2 hend.1)
    exact ⟨State.runLaw_of_none rfl rfl, .inr (.inr (.inr (.inr (.inr ⟨hstopping, rfl, hc.imp id .inr⟩))))⟩
  · exact ⟨hu, .inl hrun⟩

theorem beginStop_fields (b1 b2 : Bool) (s : State) :
    (beginStop b1 b2 s).run = .stopping ∧ (beginStop b1 b2 s).contextRead = s.contextRead ∧ (beginStop b1 b2 s).drain = s.drain := by
  have hline (l : LineId) (u : State) : u.SameRun (stopLine b2 l u) :=
    (stopLine_steps (lic := ⟨True, fun _ => True, .bank0, True⟩) trivial b2 l u).touches.sameRun
  have hsame : ({ s with run := .stopping } : State).SameRun (beginStop b1 b2 s) := by
    unfold beginStop
    dsimp only
    split
    · exact (hline .line1 _).trans (hline .line0 _)
    · exact (hline .line0 _).trans (hline .line1 _)
  exact ⟨hsame.run, hsame.contextRead, hsame.drain⟩

theorem takeDown_touches (l : LineId) (s : State) : State.Touches l s (takeDown l s) :=
  (takeDown_works ⟨True, fun _ => True, .bank0, True⟩ trivial l s).touches

theorem dctlEnableSet_sound (hs : s.RunLaw) (h : execDctlEnableSet s = .next t) : Instr.RunsSound .dctlEnableSet s t := by
  unfold execDctlEnableSet at h
  split at h
  · next hoff =>
    obtain ⟨hcontext, hdrain⟩ := hs.idle
    split at h
    · cases h
      refine ⟨⟨fun _ => rfl, fun hsome => ?_⟩, .inr (.inr (.inl ⟨hoff, rfl, .inl rfl⟩))⟩
      change s.drain.isSome = true at hsome
      rw [hdrain (by rw [hoff]; nofun)] at hsome
      cases hsome
    · cases h
      obtain ⟨hrun, hnone, hsame⟩ := failStart_fields ⟨.badContextAddress, s.contextAddress.toNat % 64, 0⟩ 0 s
      exact ⟨State.runLaw_of_none hnone (hsame.trans (hdrain (by rw [hoff]; nofun))), .inr (.inr (.inl ⟨hoff, rfl, .inr hrun⟩))⟩
  · cases h
    exact (State.SameRun.refl s).sound hs

theorem dctlEnableClear_sound {b1 b2 : Bool} (hs : s.RunLaw) (h : execDctlEnableClear b1 b2 s = .next t) :
    Instr.RunsSound (.dctlEnableClear b1 b2) s t := by
  obtain ⟨hcontext, hdrain⟩ := hs.idle
  have move (hmove : s.run = .starting ∧ t.run = .off ∨ s.run = .running ∧ t.run = .stopping ∨ s.run = .fault ∧ t.run = .off)
      (hlaw : t.RunLaw) : Instr.RunsSound (.dctlEnableClear b1 b2) s t := ⟨hlaw, .inr (.inr (.inr (.inr (.inl ⟨b1, b2, rfl, hmove⟩))))⟩
  unfold execDctlEnableClear at h
  split at h
  · next hrun =>
    cases h
    exact move (.inl ⟨hrun, rfl⟩) (State.runLaw_of_none rfl (hdrain (by rw [hrun]; nofun)))
  · next hrun =>
    cases h
    obtain ⟨hstop, hsameContext, hsameDrain⟩ := beginStop_fields b1 b2 s
    exact move (.inr (.inl ⟨hrun, hstop⟩)) (State.runLaw_of_none (hsameContext.trans (hcontext (by rw [hrun]; nofun)))
      (hsameDrain.trans (hdrain (by rw [hrun]; nofun))))
  · next hrun =>
    cases h
    exact move (.inr (.inr ⟨hrun, rfl⟩)) (State.runLaw_of_none (hcontext (by rw [hrun]; nofun)) (hdrain (by rw [hrun]; nofun)))
  · cases h
    exact (State.SameRun.refl s).sound hs

theorem notifyEventConsumer_sound {v : Half} (hs : s.RunLaw) (h : execNotifyEventConsumer v s = .next t) :
    Instr.RunsSound (.notifyEventConsumer v) s t := by
  have hnotify := (notifyEvent_reports v s).sameRun
  have hend := finishDrain_sound (c := .notifyEventConsumer v) (.inr (.inr ⟨v, rfl⟩)) hnotify.run (hnotify.runLaw hs)
  unfold execNotifyEventConsumer at h
  split at h
  · cases h
    exact hend
  · cases h
    exact hend
  · cases h
    exact (State.SameRun.refl s).sound hs

theorem registerWrite_sameRun {r : PlainRegister} {v : Word} (h : execRegisterWrite r v s = .next t) : s.SameRun t := by
  unfold execRegisterWrite at h
  split at h <;> cases h <;> exact ⟨rfl, rfl, rfl⟩

theorem contextReadDone_sound {id : Nat} {r : ReadResult} (hs : s.RunLaw) (h : execContextReadDone id r s = .next t) :
    Instr.RunsSound (.contextReadDone id r) s t := by
  cases h
  unfold finishRead
  split
  · next read _ =>
    split
    · next hreader =>
      unfold readEnded
      rw [hreader]
      exact contextEnded_sound (.inl ⟨id, r, rfl⟩) _ _ ⟨rfl, rfl, rfl⟩ hs
    · exact (State.SameRun.refl s).sound hs
  · exact (State.SameRun.refl s).sound hs

theorem hostReadTimeout_sound {id : Nat} (hs : s.RunLaw) (h : execHostReadTimeout id s = .next t) : Instr.RunsSound (.hostReadTimeout id) s t := by
  unfold execHostReadTimeout at h
  split at h
  · next read _ =>
    cases h
    cases hl : read.reader.line? with
    | some l =>
      exact (endRead_readEnded_steps (lic := ⟨True, fun _ => True, .bank0, True⟩) trivial hl id none s (.inr trivial)).touches.sameRun.sound hs
    | none =>
      rw [readEnded_of_context hl]
      exact contextEnded_sound (.inr ⟨id, rfl⟩) _ _ ⟨rfl, rfl, rfl⟩ hs
  · cases h
    exact (State.SameRun.refl s).sound hs

theorem stopLineWorkEnd_sound (hs : s.RunLaw) (h : execStopLineWorkEnd s = .next t) : Instr.RunsSound .stopLineWorkEnd s t := by
  unfold execStopLineWorkEnd at h
  split at h
  · next hstop =>
    cases h
    have hdown : s.SameRun (takeDown .line1 (takeDown .line0 s)) :=
      (takeDown_touches .line0 s).sameRun.trans (takeDown_touches .line1 _).sameRun
    refine finishDrain_sound (.inl rfl) hdown.run ⟨fun hsome => ?_, fun _ => hdown.run.trans hstop.1⟩
    exact (hdown.runLaw hs).1 hsome
  · cases h
    exact (State.SameRun.refl s).sound hs

theorem eventDrainExpiry_sound (hs : s.RunLaw) (h : execEventDrainExpiry s = .next t) : Instr.RunsSound .eventDrainExpiry s t := by
  unfold execEventDrainExpiry at h
  split at h
  · next hstop =>
    cases h
    exact ⟨State.runLaw_of_none rfl rfl, .inr (.inr (.inr (.inr (.inr ⟨hstop.1, rfl, .inr (.inl rfl)⟩))))⟩
  · cases h
    exact (State.SameRun.refl s).sound hs

/-- Every command keeps the law of run control, and moves the run state as its table says. -/
theorem exec_runsSound {c : Instr} (hs : s.RunLaw) (h : exec c s = .next t) : Instr.RunsSound c s t := by
  cases hl : c.lineOf with
  | some l =>
    obtain ⟨u, hu, hsteps⟩ := exec_steps hl s
    rw [h] at hu
    cases hu
    exact hsteps.touches.sameRun.sound hs
  | none =>
    have reset (keep : Bool) (c : Instr) (hc : c = .powerOn ∨ c = .nReset ∨ ∃ b, c = .dctlReset b) :
        Instr.RunsSound c s (deviceReset keep s) := ⟨State.runLaw_of_none rfl rfl, .inr (.inl ⟨rfl, hc⟩)⟩
    cases c
    case powerOn => cases h; exact reset _ _ (.inl rfl)
    case nReset => cases h; exact reset _ _ (.inr (.inl rfl))
    case dctlReset b => cases h; exact reset _ _ (.inr (.inr ⟨b, rfl⟩))
    case dctlEnableSet => exact dctlEnableSet_sound hs h
    case dctlEnableClear b1 b2 => exact dctlEnableClear_sound hs h
    case notifyEventConsumer v => exact notifyEventConsumer_sound hs h
    case notifyRingId7 v =>
      change execNotifyRingId7 v s = .next t at h
      unfold execNotifyRingId7 at h
      split at h
      · cases h
        exact (raiseEvent_reports _ s).sameRun.sound hs
      · cases h
        exact (State.SameRun.refl s).sound hs
    case irqpendAcknowledge v0 v1 v2 => cases h; exact (acknowledge_reports v0 v1 v2 s).sameRun.sound hs
    case registerWrite r v => exact (registerWrite_sameRun h).sound hs
    case contextReadDone id r => exact contextReadDone_sound hs h
    case hostReadTimeout id => exact hostReadTimeout_sound hs h
    case eventBacklogDrain =>
      cases h
      have hdrain := (drainEvents_reports s).sameRun
      exact finishDrain_sound (.inr (.inl rfl)) hdrain.run (hdrain.runLaw hs)
    case holdTimerExpiry v => cases h; exact (expireHold_reports v s).sameRun.sound hs
    case stopLineWorkEnd => exact stopLineWorkEnd_sound hs h
    case eventDrainExpiry => exact eventDrainExpiry_sound hs h
    all_goals cases hl

/-- Settles O4: the moves of the run state, command by command. -/
theorem runStateMovesByItsTable : Obligations.RunStateMovesByItsTable := by
  refine ⟨fun s t hs h => ?_, fun c s t hs h hne => ?_⟩
  · unfold step at h
    split at h
    · cases h
      exact hs
    · next c rest _ =>
      obtain ⟨hlaw, -⟩ := exec_runsSound (s := { s with pending := rest }) hs h
      exact hlaw
  · obtain ⟨-, hsame | hmove⟩ := exec_runsSound hs h
    · exact absurd hsame hne
    · exact hmove

end Sys2Proof.Machine
end

section
/-! PROOFS. The law of the line controllers (O9): what is in flight, the wake sequence, the receiver and the detector, command by command. -/

set_option Elab.async false

namespace Sys2Proof.Machine

variable {l : LineId} {s t u : State} {x y z : Line}

/-! ## The law and what keeps it -/

/-- The licence of operations that leave the line controller and the wake sequence alone. -/
def Licence.calm : Licence := ⟨False, fun _ => True, .bank0, True⟩

theorem State.Steps.sameControl (h : State.Steps .calm l s t) : (s.line l).SameControl (t.line l) :=
  h.steps.control.resolve_right id

theorem State.Works.sameControl {d : Nat} (h : State.Works .calm l d s t) : (s.line l).SameControl (t.line l) :=
  h.keeps.control.resolve_right id

theorem Licence.calm_onBank (g : Engine) : Licence.calm.OnBank g := .inr trivial

theorem Line.SameControl.transmitting (h : x.SameControl y) : y.transmitting = x.transmitting := by
  unfold Line.transmitting
  rw [h.job]

/-- The law reads the line controller and the wake sequence only. -/
theorem Line.SameControl.law (h : x.SameControl y) (hx : x.ControlLaw) : y.ControlLaw := by
  unfold Line.ControlLaw
  rw [h.transmitting, h.state, h.job, h.reception, h.detector, h.wake]
  exact hx

theorem Line.ControlLaw.fits (h : x.ControlLaw) : x.wake.phase.fits x.state := h.2.1

/-- With work in flight a line is ACTIVE, QUIESCING or WAKING (R142). -/
theorem Line.ControlLaw.state_of_job (h : x.ControlLaw) (hjob : x.job ≠ none) :
    ¬(x.state = .off ∨ x.state = .rest ∨ x.state = .faulted) := fun hstate => hjob (h.1 hstate)

/-- With work in flight no phase stands in which there is none (R144). -/
theorem Line.ControlLaw.phase_of_job (h : x.ControlLaw) (hjob : x.job ≠ none) :
    ¬(x.wake.phase = .quiesce ∨ x.wake.phase = .toneIn ∨ x.wake.phase = .listen) := fun hphase => hjob (h.2.2.1 hphase)

theorem Line.ControlLaw.waking_of_wakeWork (h : x.ControlLaw) {j : Job} (hjob : x.job = some j) (hk : j.kind.isWakeWork = true) :
    x.state = .waking := h.2.2.2.1 j hjob hk

/-- A frame is received for the window in phase LISTEN only (R153). -/
theorem Line.ControlLaw.no_window (h : x.ControlLaw) (hphase : x.wake.phase ≠ .listen) : x.reception.map (·.role) ≠ some .window :=
  fun hwindow => hphase (h.2.2.2.2.1 hwindow).1

theorem Line.ControlLaw.window (h : x.ControlLaw) (hwindow : x.reception.map (·.role) = some .window) :
    x.wake.phase = .listen ∧ x.wake.windowTimer = none := h.2.2.2.2.1 hwindow

theorem Line.ControlLaw.armed (h : x.ControlLaw) (harmed : x.detector = .armed) : x.state = .rest ∨ x.state = .quiescing :=
  h.2.2.2.2.2.1 harmed

theorem Line.ControlLaw.reception_of_transmitting (h : x.ControlLaw) (htransmit : x.transmitting = true) : x.reception = none :=
  h.2.2.2.2.2.2 htransmit

theorem Line.ControlLaw.waking_of_listen (h : x.ControlLaw) (hphase : x.wake.phase = .listen) : x.state = .waking := by
  simpa [hphase, WakePhase.fits] using h.fits

/-- The phase of an ACTIVE, OFF or FAULTED line is none, and with REST alike (R144). -/
theorem Line.ControlLaw.phase_none (h : x.ControlLaw) (hstate : x.state ≠ .quiescing) (hwaking : x.state ≠ .waking) :
    x.wake.phase = .none := by
  have hfits := h.fits
  cases hphase : x.wake.phase <;> simp [hphase, WakePhase.fits] at hfits
  case none => rfl
  case quiet1 | quiet2 | quiesce => exact absurd hfits hstate
  all_goals exact absurd hfits hwaking

/-- Work is handed over on a line that may have work in flight (R142, R144). -/
theorem Line.ControlLaw.give (h : x.ControlLaw) (k : JobKind) (g : Nat) (w : WakeSequence)
    (hstate : ¬(x.state = .off ∨ x.state = .rest ∨ x.state = .faulted)) (hfits : w.phase.fits x.state)
    (hphase : ¬(w.phase = .quiesce ∨ w.phase = .toneIn ∨ w.phase = .listen)) (hwork : k.isWakeWork = true → x.state = .waking)
    (hwindow : x.reception.map (·.role) ≠ some .window) :
    ({ x with job := some ⟨k, .gapWait g⟩, wake := w } : Line).ControlLaw :=
  ⟨fun h => absurd h hstate, hfits, fun h => absurd h hphase, fun j hj hk => by cases hj; exact hwork hk, fun h => absurd h hwindow, h.armed, nofun⟩

/-- With work in flight, more work of a kind that may be in flight is handed over. -/
theorem Line.ControlLaw.giveNext (h : x.ControlLaw) (hjob : x.job ≠ none) (k : JobKind) (g : Nat)
    (hwork : k.isWakeWork = true → x.state = .waking) : ({ x with job := some ⟨k, .gapWait g⟩ } : Line).ControlLaw := by
  have hphase := h.phase_of_job hjob
  exact h.give k g x.wake (h.state_of_job hjob) h.fits hphase hwork (h.no_window fun hl => hphase (.inr (.inr hl)))

/-- What is in flight may end. -/
theorem Line.ControlLaw.clear (h : x.ControlLaw) : ({ x with job := none } : Line).ControlLaw :=
  ⟨fun _ => rfl, h.fits, fun _ => rfl, nofun, h.window, h.armed, nofun⟩

/-- An episode may end outside the window. -/
theorem Line.ControlLaw.endEpisode (h : x.ControlLaw) (hwindow : x.reception.map (·.role) ≠ some .window) :
    ({ x with wake := WakeSequence.fresh } : Line).ControlLaw :=
  ⟨h.1, trivial, fun h => by simp [WakeSequence.fresh] at h, h.2.2.2.1, fun h => absurd h hwindow, h.armed, h.2.2.2.2.2.2⟩

/-- The stage of the work in flight changes, to one in which the master does not transmit unless nothing is being received. -/
theorem Line.ControlLaw.restage (h : x.ControlLaw) {k : JobKind} {st : JobStage} (hjob : x.job = some ⟨k, st⟩) {k' : JobKind} (st' : JobStage)
    (hk : k'.isWakeWork = k.isWakeWork)
    (htransmit : ({ x with job := some ⟨k', st'⟩ } : Line).transmitting = true → x.reception = none) :
    ({ x with job := some ⟨k', st'⟩ } : Line).ControlLaw := by
  have hsome : x.job ≠ none := by rw [hjob]; nofun
  exact ⟨fun hstate => absurd hstate (h.state_of_job hsome), h.fits, fun hphase => absurd hphase (h.phase_of_job hsome),
    fun j hj hwork => by cases hj; exact h.waking_of_wakeWork hjob (hk ▸ hwork), h.window, h.armed, htransmit⟩

/-- A frame being received for anything but the window stands in no clause but the last. -/
theorem Line.ControlLaw.receive (h : x.ControlLaw) (htransmit : x.transmitting = false) (r : Option Receiving)
    (hwindow : r.map (·.role) ≠ some .window) : ({ x with reception := r } : Line).ControlLaw :=
  ⟨h.1, h.fits, h.2.2.1, h.2.2.2.1, fun h => absurd h hwindow, h.armed, fun ht => by
    have hfalse : x.transmitting = true := ht
    rw [htransmit] at hfalse
    cases hfalse⟩

theorem Line.IsNew.controlLaw {n : Nat} (h : x.IsNew n) : x.ControlLaw := by
  obtain ⟨p, st, rfl, -, -⟩ := h
  exact ⟨fun _ => rfl, trivial, fun _ => rfl, nofun, nofun, nofun, nofun⟩

/-! ## Operations of the line controller and the wake sequence -/

/-- The roll call's next QUERY or the WACK: with work of a wake just ended on a WAKING line (R155, R156). -/
theorem rollNext_law (h : (s.line l).ControlLaw) (hwaking : (s.line l).state = .waking)
    (hphase : ¬((s.line l).wake.phase = .quiesce ∨ (s.line l).wake.phase = .toneIn ∨ (s.line l).wake.phase = .listen)) :
    ((rollNext l s).line l).ControlLaw := by
  have hwindow := h.no_window fun hl => hphase (.inr (.inr hl))
  have hstate : ¬((s.line l).state = .off ∨ (s.line l).state = .rest ∨ (s.line l).state = .faulted) := by simp [hwaking]
  have hclosing : ((enterClosing l 0 s).line l).ControlLaw := by
    rw [enterClosing_line]
    exact h.give _ _ _ hstate hwaking (by simp) (fun _ => hwaking) hwindow
  unfold rollNext
  split
  · exact hclosing
  · split
    · exact hclosing
    · rw [handExchange, giveJob_line, updWake_line]
      exact h.give _ _ _ hstate h.fits hphase (fun _ => hwaking) hwindow

theorem enterClosing_law (h : (s.line l).ControlLaw) (a : Nat) (hwaking : (s.line l).state = .waking)
    (hwindow : (s.line l).reception.map (·.role) ≠ some .window) : ((enterClosing l a s).line l).ControlLaw := by
  rw [enterClosing_line]
  exact h.give _ _ _ (by simp [hwaking]) hwaking (by simp) (fun _ => hwaking) hwindow

/-- An exchange ends on a line with work in flight: its outcome gives more work only in a roll call (R19, R155). -/
theorem endExchange_law (h : (s.line l).ControlLaw) (hjob : (s.line l).job ≠ none) (x : Exchange) (o : ExchangeEnd)
    (hwaking : x.claimant = .wakeSequence → (s.line l).state = .waking) : ((endExchange l x o s).line l).ControlLaw := by
  have hphase := h.phase_of_job hjob
  have hcleared : (clearJob l s).line l = { s.line l with job := none } := s.updLine_line_same l _
  have hcalm : ((clearJob l s).line l).SameControl ((checkStarved l (reportOutcome l x.station o (clearJob l s))).line l) :=
    ((reportOutcome_works (lic := .calm) l x.station o (clearJob l s) fun _ => trivial).trans (checkStarved_works .calm l _)).sameControl
  have hlaw : ((checkStarved l (reportOutcome l x.station o (clearJob l s))).line l).ControlLaw :=
    hcalm.law (hcleared ▸ h.clear)
  unfold endExchange deliverExchange
  split
  · exact (requestOutcome_works .calm l o _ _).sameControl.law hlaw
  · exact (pollOutcome_works (lic := .calm) l o _ (Licence.calm_onBank _)).sameControl.law hlaw
  · exact (fetchOutcome_works .calm l _ o _).sameControl.law hlaw
  · next hclaim =>
    refine rollNext_law hlaw ?_ ?_
    · rw [hcalm.state, hcleared]
      exact hwaking hclaim
    · rw [hcalm.wake, hcleared]
      exact hphase

theorem Exchange.afterAttempt_claimant (x : Exchange) (a : AttemptEnd) : (x.afterAttempt a).1.claimant = x.claimant := by
  unfold Exchange.afterAttempt
  cases a
  case nakSeq =>
    dsimp only
    split <;> rfl
  all_goals rfl

theorem endAttempt_law (h : (s.line l).ControlLaw) {x : Exchange} {st : JobStage} (hjob : (s.line l).job = some ⟨.exchange x, st⟩)
    (a : AttemptEnd) : ((endAttempt l x a s).line l).ControlLaw := by
  have hsome : (s.line l).job ≠ none := by rw [hjob]; nofun
  have hwaking (x' : Exchange) (hx : x'.claimant = x.claimant) (hc : x'.claimant = .wakeSequence) : (s.line l).state = .waking :=
    h.waking_of_wakeWork hjob (decide_eq_true (hx ▸ hc))
  have hclaimant := x.afterAttempt_claimant a
  unfold endAttempt
  split
  · next x' o hx =>
    rw [hx] at hclaimant
    exact endExchange_law h hsome x' o (hwaking x' hclaimant)
  · next x' hx =>
    rw [hx] at hclaimant
    rw [giveJob_line]
    exact h.giveNext hsome _ _ fun hwork => hwaking x' hclaimant (of_decide_eq_true hwork)

theorem endData_law (h : (s.line l).ControlLaw) (d : DataOrder) (sent : Bool) : ((endData l d sent s).line l).ControlLaw := by
  have hlaw : ((clearJob l s).line l).ControlLaw := by
    rw [clearJob, State.updLine_line_same]
    exact h.clear
  unfold endData
  dsimp only
  split
  · exact (endSlot_works (lic := .calm) l _ _ (Licence.calm_onBank _)).sameControl.law hlaw
  · exact (sendOutcome_works .calm l sent _).sameControl.law hlaw
  · exact hlaw

/-- The episode of a line with work in flight ends with that work (R157). -/
theorem endEpisode_clearJob_law (h : (s.line l).ControlLaw) (hjob : (s.line l).job ≠ none) :
    ((endEpisode l (clearJob l s)).line l).ControlLaw := by
  have hphase := h.phase_of_job hjob
  rw [endEpisode, updWake_line, clearJob, State.updLine_line_same]
  exact h.clear.endEpisode (h.no_window fun hl => hphase (.inr (.inr hl)))

theorem endCollided_law (h : (s.line l).ControlLaw) {k : JobKind} {st : JobStage} (hjob : (s.line l).job = some ⟨k, st⟩) :
    ((endCollided l k s).line l).ControlLaw := by
  have hsome : (s.line l).job ≠ none := by rw [hjob]; nofun
  unfold endCollided
  split
  · exact endAttempt_law h hjob _
  · exact endData_law h _ _
  · rw [giveJob_line]
    exact h.giveNext hsome _ _ fun _ => h.waking_of_wakeWork hjob rfl
  · split
    · exact (finishFirst_works .calm l _ _ _).sameControl.law (endEpisode_clearJob_law h hsome)
    · rw [giveJob_line]
      exact h.giveNext hsome _ _ nofun
  · exact h

/-- A line that enters FAULTED has nothing in flight, no episode and no window (R162). -/
theorem enterFaulted_law (l : LineId) (s : State) (r : LineReason) (cycleFirst : Bool) : ((enterFaulted l r cycleFirst s).line l).ControlLaw := by
  have hcut (k : Counters) : ({ (s.line l).cutForFault with state := .faulted, counters := k } : Line).ControlLaw := by
    refine ⟨fun _ => rfl, trivial, fun _ => rfl, nofun, fun hwindow => ?_, nofun, nofun⟩
    have hother : ((s.line l).reception.map (fun r => ({ r with role := .other } : Receiving))).map (·.role) = some .window := hwindow
    cases hrec : (s.line l).reception <;> rw [hrec] at hother <;> cases hother
  unfold enterFaulted
  dsimp only
  refine (faultCollector_works .calm l _ _).sameControl.law ?_
  split
  · refine ((haltEngine_works .calm l _).trans (faultRequests_works .calm l _ _)).sameControl.law ?_
    rw [(raiseEvent_reports _ _).line l, (writeCounters_reports l _).line l, State.updLine_line_same]
    exact hcut _
  · refine ((faultRequests_works .calm l _ _).trans (haltEngine_works .calm l _)).sameControl.law ?_
    rw [(raiseEvent_reports _ _).line l, (writeCounters_reports l _).line l, State.updLine_line_same]
    exact hcut _

/-- A master wake begins with the tone, on a line that receives nothing (R152). -/
theorem beginMasterWake_law (s : State) : ((beginMasterWake l s).line l).ControlLaw := by
  rw [beginMasterWake, State.updLine_line_same, moveLine_line]
  exact ⟨nofun, rfl, nofun, fun _ _ _ => rfl, nofun, nofun, fun _ => rfl⟩

/-- A station's wake begins with its tone heard, on a line that was in no window (R149, R150). -/
theorem beginStationWake_law (h : (s.line l).ControlLaw) (hstate : (s.line l).state ≠ .waking) :
    ((beginStationWake l s).line l).ControlLaw := by
  rw [beginStationWake, State.updLine_line_same, moveLine_line]
  have hwindow := h.no_window fun hl => hstate (h.waking_of_listen hl)
  exact ⟨nofun, rfl, fun _ => rfl, nofun, fun h => absurd h hwindow, nofun, nofun⟩

/-- The listen window opens on a WAKING line whose receiver is in no window (R153). -/
theorem openWindow_law (hwaking : (s.line l).state = .waking) (hwindow : (s.line l).reception.map (·.role) ≠ some .window)
    (harmed : (s.line l).detector ≠ .armed) : ((openWindow l s).line l).ControlLaw := by
  rw [openWindow, State.updLine_line_same]
  exact ⟨fun _ => rfl, hwaking, fun _ => rfl, nofun, fun h => absurd h hwindow, fun h => absurd h harmed, nofun⟩

/-- The frame that decides the window, with nothing more being received (R153, R154). -/
theorem decideWindow_law (h : (s.line l).ControlLaw) (hwaking : (s.line l).state = .waking) (hnone : (s.line l).reception = none)
    (c : RxCheck) : ((decideWindow l c s).line l).ControlLaw := by
  have hwindow : (s.line l).reception.map (·.role) ≠ some .window := by rw [hnone]; nofun
  have hupd (w : WakeSequence) (hw : w.phase.fits .waking) (hj : w.phase = .quiesce ∨ w.phase = .toneIn ∨ w.phase = .listen → (s.line l).job = none) :
      ({ s.line l with wake := w } : Line).ControlLaw :=
    ⟨h.1, by rwa [hwaking], hj, h.2.2.2.1, fun hw => absurd hw hwindow, h.armed, h.2.2.2.2.2.2⟩
  have hgarbage : ((garbageWindow l s).line l).ControlLaw := by
    refine rollNext_law ?_ ?_ ?_
    · rw [State.updLine_line_same]
      exact hupd _ rfl (by simp)
    · rwa [State.updLine_line_same]
    · rw [State.updLine_line_same]
      simp
  have hvalid (a : Nat) : ((validWake l a s).line l).ControlLaw := by
    have hcalm := (noteWake_works .calm l a (updWake l (fun w => { w with result := some .validWake, windowTimer := none }) s)).sameControl
    refine enterClosing_law (hcalm.law ?_) a ?_ ?_
    · rw [updWake_line]
      exact hupd _ (hwaking ▸ h.fits) h.2.2.1
    · rw [hcalm.state, updWake_line]
      exact hwaking
    · rw [hcalm.reception, updWake_line]
      exact hwindow
  unfold decideWindow
  split
  · split
    · exact hvalid _
    · exact hgarbage
  · exact hgarbage

/-- What a frame that begins does to the receiver and to what it stops (R8, R12, R153). -/
theorem beginReception_law (h : x.ControlLaw) (htransmit : x.transmitting = false) : x.beginReception.ControlLaw := by
  unfold Line.beginReception
  split
  · next hrole =>
    have hanswer : ∃ e st, x.job = some ⟨.exchange e, st⟩ := by
      unfold Line.receptionRole at hrole
      split at hrole
      · exact ⟨_, _, ‹_›⟩
      · exact ⟨_, _, ‹_›⟩
      · split at hrole <;> cases hrole
    obtain ⟨e, st, hjob⟩ := hanswer
    have hstaged : ({ x with job := some ⟨.exchange e, .answering⟩ } : Line).ControlLaw := h.restage hjob .answering rfl nofun
    rw [hjob]
    exact hstaged.receive rfl _ nofun
  · next hrole =>
    have hlisten : x.wake.phase = .listen := by
      unfold Line.receptionRole at hrole
      split at hrole
      · cases hrole
      · cases hrole
      · split at hrole
        · next hphase => exact hphase.1
        · cases hrole
    have hfalse (ht : x.transmitting = true) : False := by
      rw [htransmit] at ht
      cases ht
    exact ⟨h.1, h.fits, h.2.2.1, h.2.2.2.1, fun _ => ⟨hlisten, rfl⟩, h.armed, fun ht => (hfalse ht).elim⟩
  · exact h.receive htransmit _ nofun

theorem frameStart_law (h : (s.line l).ControlLaw) (htransmit : (s.line l).transmitting = false) : ((frameStart l s).line l).ControlLaw := by
  have hwatch := (endWatch_works .calm l s).sameControl
  rw [frameStart, State.updLine_line_same]
  exact beginReception_law (hwatch.law h) (by rw [hwatch.transmitting, htransmit])

theorem frameArrival_law (h : (s.line l).ControlLaw) (htransmit : (s.line l).transmitting = false) (rx : Reception) :
    ((frameArrival l rx s).line l).ControlLaw := by
  unfold frameArrival
  split
  · exact frameStart_law h htransmit
  · split
    · exact (endWatch_works .calm l s).sameControl.law h
    · exact h

theorem deliverFrame_law (h : (s.line l).ControlLaw) (hnone : (s.line l).reception = none) (role : RxRole)
    (hwaking : role = .window → (s.line l).state = .waking) (c : RxCheck) : ((deliverFrame l role c s).line l).ControlLaw := by
  unfold deliverFrame
  split
  · split
    · next hjob => exact endAttempt_law h hjob _
    · exact h
  · exact decideWindow_law h (hwaking rfl) hnone c
  · split
    · exact (countOnLine_works .calm l _ s).sameControl.law h
    · exact h

end Sys2Proof.Machine
end

section
/-! PROOFS. Every command keeps the law of the line controllers (O9). -/

set_option Elab.async false

namespace Sys2Proof.Machine

variable {l : LineId} {s t u : State} {x y z : Line}

/-- The outcome of a command at `s` leaves line `l` with its controller law. -/
def Result.ControlSound (l : LineId) (r : Result) : Prop := ∀ t, r = .next t → (t.line l).ControlLaw

theorem Result.ControlSound.next (h : (t.line l).ControlLaw) : Result.ControlSound l (.next t) := by
  intro u hu
  cases hu
  exact h

theorem Result.ControlSound.ite {p : Prop} [Decidable p] {r r' : Result} (ht : p → Result.ControlSound l r)
    (hf : ¬p → Result.ControlSound l r') : Result.ControlSound l (if p then r else r') := by
  split
  · exact ht ‹_›
  · exact hf ‹_›

/-- A command that leaves the line controller alone keeps its law. -/
theorem Result.Steps.controlSound {r : Result} (h : Result.Steps .calm l s r) (hs : (s.line l).ControlLaw) : Result.ControlSound l r := by
  obtain ⟨u, rfl, hsteps⟩ := h
  exact .next (hsteps.sameControl.law hs)

/-- Whether the master transmits goes with the stage of its work. -/
theorem Line.transmitting_of_stage (x : Line) {k : JobKind} {st : JobStage} (hjob : x.job = some ⟨k, st⟩) (k' : JobKind) :
    ({ x with job := some ⟨k', st⟩ } : Line).transmitting = x.transmitting := by
  unfold Line.transmitting
  rw [hjob]
  cases st <;> rfl

/-! ## Reads -/

theorem executeAbort_law (h : (s.line l).ControlLaw) (a : Entry) (sel : AbortSelector) : ((executeAbort l a sel s).line l).ControlLaw := by
  have hmark {x : Line} (hx : x.ControlLaw) : x.markRequestExchange.ControlLaw := by
    unfold Line.markRequestExchange
    split
    · next e st hjob =>
      split
      · exact hx.restage hjob st rfl fun ht => hx.reception_of_transmitting ((x.transmitting_of_stage hjob _).symm.trans ht)
      · exact hx
    · exact hx
  have hkeep (u : State) (g : Entry → Entry) (hu : (u.line l).ControlLaw) :
      ((u.updLine l (fun x => { x with entries := x.entries.map g })).line l).ControlLaw := by
    rw [State.updLine_line_same]
    exact hu
  have hfinish := (finishAll_works .calm l (fun e => sel.hits e && !e.isInFlight) (fun _ => ⟨.aborted, 0, false, false⟩) s).sameControl.law h
  unfold executeAbort
  dsimp only
  refine (completeEntry_works .calm l _ _ a).sameControl.law ?_
  split
  · rw [State.updLine_line_same]
    exact hmark (hkeep _ _ hfinish)
  · exact hkeep _ _ hfinish

theorem takeRecord_law (h : (s.line l).ControlLaw) (i : Half) (d : List Byte) : ((takeRecord l i d s).line l).ControlLaw := by
  unfold takeRecord
  split
  · exact (complete_works .calm l _ s).sameControl.law h
  · dsimp only
    split
    · exact executeAbort_law h _ _
    · split
      · exact (placeEntry_works (lic := .calm) l _ s (Licence.calm_onBank _)).sameControl.law h
      · rw [State.updLine_line_same]
        exact h

theorem endRequestRead_law (h : (s.line l).ControlLaw) (data : Option (List Byte)) : ((endRequestRead l data s).line l).ControlLaw := by
  have hkeep (k : Intake) (c : CompletionWriter) : ({ s.line l with intake := k, completion := c } : Line).ControlLaw := h
  unfold endRequestRead
  dsimp only
  split
  · rw [(raiseEvent_reports _ _).line l, State.updLine_line_same]
    exact hkeep _ _
  · split
    · refine (complete_works .calm l _ _).sameControl.law ?_
      rw [State.indexWrite, State.hostWrite_line, State.updLine_line_same]
      exact hkeep _ _
    · refine takeRecord_law ?_ _ _
      rw [State.indexWrite, State.hostWrite_line, State.updLine_line_same]
      exact hkeep _ _

/-- New values of LINK change at most the gap that work waits for (R33; log entry 16). -/
theorem setParams_law (h : x.ControlLaw) (link : Bool) (p : Params) : (x.setParams link p).ControlLaw := by
  unfold Line.setParams
  split
  · next hlink =>
    obtain ⟨-, hwaits⟩ := Bool.and_eq_true_iff.mp hlink
    unfold Line.slotWaitsGap at hwaits
    split at hwaits
    · next k g hjob =>
      rw [hjob]
      exact h.restage hjob (.gapWait p.gap) rfl nofun
    · cases hwaits
  · exact h

theorem installParams_law (h : (s.line l).ControlLaw) (m : GroupMask) (new : Params) : ((installParams l m new s).line l).ControlLaw := by
  have hset : ((s.updLine l (fun x => x.setParams m.link ((s.line l).params.install m new))).line l).ControlLaw := by
    rw [State.updLine_line_same]
    exact setParams_law h _ _
  unfold installParams
  dsimp only
  refine (checkStarved_works .calm l _).sameControl.law ?_
  split
  · obtain ⟨table, htable⟩ := foldl_changeStation_line l .threshold
      (Station.rethreshold (s.line l).params.offlineThreshold new.offlineThreshold) stationAddresses
      (s.updLine l (fun x => x.setParams m.link ((s.line l).params.install m new)))
    rw [reevaluate, htable]
    exact hset
  · exact hset

theorem finishConfig_law (h : (s.line l).ControlLaw) {i : Nat} (hi : i < (s.line l).entries.length) (e : Entry) (how : Ending) :
    ((finishConfig l i e how s).line l).ControlLaw :=
  (finishConfig_works .calm l e how s hi).sameControl.law h

theorem actConfig_law (h : (s.line l).ControlLaw) (h0 : 0 < (s.line l).entries.length) (e : Entry) (m : GroupMask) (defaults : Bool) (a : Addr) :
    ((actConfig l e m defaults a s).line l).ControlLaw := by
  unfold actConfig
  dsimp only
  split
  · exact finishConfig_law h h0 e _
  · split
    · exact finishConfig_law h h0 e _
    · split
      · exact ((putEntry_works .calm l 0 _ s).trans (State.issueRead_works .calm l _ _ _ _)).sameControl.law h
      · exact finishConfig_law (installParams_law h m _) (by rwa [installParams_entries]) e _

theorem endBlockRead_law (h : (s.line l).ControlLaw) {i : Nat} (hi : i < (s.line l).entries.length) (e : Entry) (m : GroupMask)
    (data : Option (List Byte)) : ((endBlockRead l i e m data s).line l).ControlLaw := by
  unfold endBlockRead
  split
  · exact finishConfig_law h hi e _
  · split
    · exact finishConfig_law h hi e _
    · split
      · exact finishConfig_law h hi e _
      · exact finishConfig_law (installParams_law h m _) (by rwa [installParams_entries]) e _

/-- The end of a read of one line keeps the law of its controller. -/
theorem readEnded_law (h : (s.line l).ControlLaw) {r : HostRead} (hr : r.reader.line? = some l) (data : Option (List Byte)) :
    ((readEnded r data s).line l).ControlLaw := by
  obtain ⟨id, reader, a, n⟩ := r
  unfold readEnded
  cases reader <;> cases hr
  case request =>
    change ((requestEnded l id data s).line l).ControlLaw
    unfold requestEnded
    split
    · exact endRequestRead_law h data
    · exact h
  case parameters =>
    change ((parametersEnded l id data s).line l).ControlLaw
    unfold parametersEnded
    split
    · next hfind =>
      split
      · exact (settle_works .calm l _).sameControl.law (endBlockRead_law h (Line.findEntry_lt hfind) _ _ data)
      · exact h
    · exact h
  case descriptor => exact (descriptorEnded_steps .calm l id data s).sameControl.law h
  case payload => exact (payloadEnded_steps .calm l id data s).sameControl.law h
  case slotTable => exact (slotTableEnded_steps .calm l id data s).sameControl.law h
  case slotOutput => exact (slotOutputEnded_steps (lic := .calm) l id data s (Licence.calm_onBank _)).sameControl.law h

theorem finishRead_law (h : (s.line l).ControlLaw) {reader : Reader} (hr : reader.line? = some l) (id : Nat) (result : ReadResult) :
    ((finishRead reader id result s).line l).ControlLaw := by
  unfold finishRead
  split
  · split
    · next hreader => exact readEnded_law (by rwa [State.endRead_line]) (hreader ▸ hr) _
    · exact h
  · exact h

/-! ## Selection, wakes and grants -/

theorem execTrafficSelect_law (h : (s.line l).ControlLaw) : Result.ControlSound l (execTrafficSelect l s) := by
  refine .ite (fun _ => ?_) fun _ => .next h
  split
  · split
    · next _ e he =>
      obtain ⟨hi, -⟩ := List.getElem?_eq_some_iff.mp he
      have finish (how : Ending) := (finishEntry_works .calm l e how s hi).sameControl.law h
      refine .next ?_
      unfold selectTraffic
      dsimp only
      split
      · exact finish _
      · split
        · split
          · exact beginMasterWake_law s
          · exact finish _
        · split
          · exact finish _
          · exact (prepareTraffic_works .calm l _ e s).sameControl.law h
    · exact .next h
  · exact .next h

theorem execLineConfig_law (h : (s.line l).ControlLaw) : Result.ControlSound l (execLineConfig l s) := by
  unfold execLineConfig
  split
  · next e hold =>
    split
    · exact .ite (fun _ => .next ((settle_works .calm l _).sameControl.law (actConfig_law h (State.oldestWaiting_pos hold) e _ _ _)))
        fun _ => .next h
    · exact .next h
  · exact .next h

theorem execWake_law (h : (s.line l).ControlLaw) : Result.ControlSound l (execWake l s) := by
  unfold execWake
  split
  · next e hold =>
    have finish (how : Ending) := (finishEntry_works .calm l e how s (State.oldestWaiting_pos hold)).sameControl.law h
    refine .ite (fun _ => ?_) fun _ => .next h
    split
    · exact .next (finish _)
    · exact .next (finish _)
    · exact .next (beginMasterWake_law _)
    · exact .next h
  · exact .next h

/-- On an ACTIVE line any work but that of a wake may be handed over (R142). -/
theorem Line.ControlLaw.giveActive (h : x.ControlLaw) (hactive : x.state = .active) (k : JobKind) (g : Nat) (hk : k.isWakeWork = false) :
    ({ x with job := some ⟨k, .gapWait g⟩ } : Line).ControlLaw := by
  have hphase := h.phase_none (by rw [hactive]; nofun) (by rw [hactive]; nofun)
  refine h.give k g x.wake (by simp [hactive]) h.fits (by simp [hphase]) (fun hwork => ?_) (h.no_window (by rw [hphase]; nofun))
  rw [hk] at hwork
  cases hwork

theorem giveJob_law (h : (s.line l).ControlLaw) (hactive : (s.line l).state = .active) (k : JobKind) (hk : k.isWakeWork = false) :
    ((giveJob l k s).line l).ControlLaw := by
  rw [giveJob_line]
  exact h.giveActive hactive k _ hk

theorem grantSlot_law (h : (s.line l).ControlLaw) (hactive : (s.line l).state = .active) : ((grantSlot l s).line l).ControlLaw := by
  unfold grantSlot
  dsimp only
  split
  · split
    · exact h
    · split
      · exact (endSlot_works (lic := .calm) l _ s (Licence.calm_onBank _)).sameControl.law h
      · split
        all_goals
          refine giveJob_law ?_ ?_ _ rfl
          · rw [updEngine_line]
            exact h
          · rw [updEngine_line]
            exact hactive
  · exact h

theorem grantTraffic_law (h : (s.line l).ControlLaw) (hactive : (s.line l).state = .active) {i : Nat} (hi : i < (s.line l).entries.length)
    (e : Entry) (p : List Byte) : ((grantTraffic l i e p s).line l).ControlLaw := by
  have finish (how : Ending) := (finishEntry_works .calm l e how s hi).sameControl.law h
  have hput := (putEntry_works .calm l i { e with state := .inFlight .onLine } s).sameControl
  unfold grantTraffic
  split
  · exact finish _
  · split
    · exact finish _
    · unfold handTraffic
      split
      · exact giveJob_law (hput.law h) (hput.state.trans hactive) _ rfl
      · exact giveJob_law (hput.law h) (hput.state.trans hactive) _ rfl
      · exact hput.law h

theorem grantRequest_law (h : (s.line l).ControlLaw) (hactive : (s.line l).state = .active) : ((grantRequest l s).line l).ControlLaw := by
  have hset := (setGrantee_works .calm l .requestEngine s).sameControl
  unfold grantRequest
  dsimp only
  split
  · next hfind =>
    split
    · exact grantTraffic_law (hset.law h) (hset.state.trans hactive) (Line.findEntry_lt hfind) _ _
    · exact hset.law h
  · exact hset.law h

theorem grantRest_law (h : (s.line l).ControlLaw) (hactive : (s.line l).state = .active) : ((grantRest l s).line l).ControlLaw := by
  have hset := (setGrantee_works .calm l .requestEngine s).sameControl
  unfold grantRest
  dsimp only
  split
  · exact hset.law h
  · next i e hfind =>
    split
    · exact (finishEntry_works .calm l e _ _ (Line.findEntry_lt hfind)).sameControl.law (hset.law h)
    · have hput := hset.trans (putEntry_works .calm l i { e with state := .inFlight .quiescing } (setGrantee l .requestEngine s)).sameControl
      have hlaw := hput.law h
      have hphase := hlaw.phase_none (by rw [hput.state, hactive]; nofun) (by rw [hput.state, hactive]; nofun)
      rw [giveJob_line, updWake_line, moveLine_line]
      exact ⟨fun hstate => by simp at hstate, rfl, fun hp => by simp at hp, (fun j hj hk => by cases hj; cases hk),
        fun hw => absurd hw (hlaw.no_window (by rw [hphase]; nofun)), fun _ => .inr rfl, nofun⟩

theorem grantFetch_law (h : (s.line l).ControlLaw) (hactive : (s.line l).state = .active) : ((grantFetch l s).line l).ControlLaw := by
  have hset := (setGrantee_works .calm l .collector s).sameControl
  have hclaimed : ((setGrantee l .collector s).updLine l (fun x => { x with collector := { x.collector with claim := false } })).line l =
      { (setGrantee l .collector s).line l with collector := { ((setGrantee l .collector s).line l).collector with claim := false } } :=
    State.updLine_line_same _ l _
  have hlaw : (((setGrantee l .collector s).updLine l (fun x => { x with collector := { x.collector with claim := false } })).line l).ControlLaw := by
    rw [hclaimed]
    exact hset.law h
  unfold grantFetch
  dsimp only
  split
  · split
    · refine giveJob_law hlaw ?_ _ rfl
      rw [hclaimed]
      exact hset.state.trans hactive
    · exact hlaw
  · exact hlaw

theorem execLineGrant_law (h : (s.line l).ControlLaw) : Result.ControlSound l (execLineGrant l s) := by
  refine .ite (fun hgrant => ?_) fun _ => .next h
  obtain ⟨-, hactive, -⟩ := hgrant
  split
  · next c _ =>
    refine .next ?_
    cases c
    case start => exact (takeStart_works (lic := .calm) l s trivial).sameControl.law h
    case slot => exact grantSlot_law h hactive
    case traffic => exact grantRequest_law h hactive
    case barrier => exact grantRest_law h hactive
    case fetch => exact grantFetch_law h hactive
  · exact .next h

/-! ## Transmissions and receptions -/

theorem execGapElapsed_law (h : (s.line l).ControlLaw) : Result.ControlSound l (execGapElapsed l s) := by
  unfold execGapElapsed
  split
  · next k g hjob hnone =>
    refine .ite (fun _ => .next h) fun _ => .next ?_
    rw [State.updLine_line_same]
    exact h.restage hjob _ (by cases k <;> rfl) fun _ => hnone
  · exact .next h

theorem counted_law (h : (s.line l).ControlLaw) (n : Nat) (f : Counters → Counters) :
    ((s.updLine l (fun x => { x with consecutiveCollisions := n, counters := f x.counters })).line l).ControlLaw := by
  rw [State.updLine_line_same]
  exact h

theorem execCollision_law (h : (s.line l).ControlLaw) (cycleFirst : Bool) : Result.ControlSound l (execCollision l cycleFirst s) := by
  unfold execCollision
  split
  · next k g b hjob =>
    refine .ite (fun _ => .next (enterFaulted_law l _ _ _)) fun _ => .next ((settle_works .calm l _).sameControl.law ?_)
    refine endCollided_law (st := .sending g b) ?_ ?_
    · rw [(writeCounters_reports l _).line l]
      exact counted_law h _ fun c => { c with collisions := c.collisions + 1 }
    · rw [(writeCounters_reports l _).line l, State.updLine_line_same]
      exact hjob
  · exact .next h

theorem clearConsecutive_sameControl (l : LineId) (s : State) : (s.line l).SameControl ((clearConsecutive l s).line l) :=
  (clearConsecutive_works .calm l s).sameControl

theorem execCmdSent_law (h : (s.line l).ControlLaw) : Result.ControlSound l (execCmdSent l s) := by
  have hclear := clearConsecutive_sameControl l s
  unfold execCmdSent
  split
  · next hjob =>
    refine .next ?_
    rw [State.updLine_line_same]
    exact (hclear.law h).restage (hclear.job.trans hjob) .awaiting rfl nofun
  · exact .next h

theorem execDatSent_law (h : (s.line l).ControlLaw) : Result.ControlSound l (execDatSent l s) := by
  unfold execDatSent
  split
  · exact .next (endData_law ((clearConsecutive_sameControl l s).law h) _ _)
  · exact .next h

theorem execQuietSent_law (h : (s.line l).ControlLaw) : Result.ControlSound l (execQuietSent l s) := by
  have hclear := clearConsecutive_sameControl l s
  unfold execQuietSent
  split
  · next g b hjob =>
    have hlaw := hclear.law h
    have hsome : ((clearConsecutive l s).line l).job ≠ none := by rw [hclear.job, hjob]; nofun
    have hstate := hlaw.state_of_job hsome
    have hwindow := hlaw.no_window fun hl => hlaw.phase_of_job hsome (.inr (.inr hl))
    refine .ite (fun _ => .next ((finishFirst_works .calm l _ _ _).sameControl.law (endEpisode_clearJob_law hlaw hsome))) fun _ => ?_
    split
    · next hphase =>
      have hquiescing : ((clearConsecutive l s).line l).state = .quiescing := by simpa [hphase, WakePhase.fits] using hlaw.fits
      refine .next ?_
      rw [giveJob_line, State.updLine_line_same]
      exact ⟨fun hs => absurd hs hstate, hquiescing, fun hp => by simp at hp, (fun j hj hk => by cases hj; cases hk),
        fun hw => absurd hw hwindow, fun _ => .inr hquiescing, nofun⟩
    · next hphase =>
      have hquiescing : ((clearConsecutive l s).line l).state = .quiescing := by simpa [hphase, WakePhase.fits] using hlaw.fits
      refine .next ?_
      rw [State.updLine_line_same]
      exact ⟨fun _ => rfl, hquiescing, fun _ => rfl, nofun, fun hw => absurd hw hwindow, hlaw.armed, nofun⟩
    · refine .next ?_
      rw [clearJob, State.updLine_line_same]
      exact hlaw.clear
  · exact .next h

/-- The wake ends with nothing in flight and nothing being received (R156). -/
theorem execWackSent_law (h : (s.line l).ControlLaw) : Result.ControlSound l (execWackSent l s) := by
  unfold execWackSent
  split
  · next a g b hjob =>
    have hwaking := h.waking_of_wakeWork hjob rfl
    have hnone : (s.line l).reception = none := h.reception_of_transmitting (by simp [Line.transmitting, hjob])
    have harmed : (s.line l).detector ≠ .armed := fun harmed => by simpa [hwaking] using h.armed harmed
    refine .next ((settle_works .calm l _).sameControl.law ((finishFirst_works .calm l _ _ _).sameControl.law
      ((checkStarved_works .calm l _).sameControl.law ?_)))
    rw [endEpisode, updWake_line, moveLine_line, (raiseEvent_reports _ _).line l, State.updLine_line_same]
    exact ⟨fun _ => rfl, trivial, fun _ => rfl, nofun, fun hw => by simp [hnone] at hw, fun hd => absurd hd harmed, nofun⟩
  · exact .next h

theorem execReceivedFrameStart_law (h : (s.line l).ControlLaw) : Result.ControlSound l (execReceivedFrameStart l s) :=
  .ite (fun hstart => .next (frameStart_law h hstart.2.1)) fun _ => .next h

theorem execResponseTimeout_law (h : (s.line l).ControlLaw) : Result.ControlSound l (execResponseTimeout l s) := by
  unfold execResponseTimeout
  split
  · next hjob =>
    have hcount := (countOnLine_works .calm l (fun k => { k with timeouts := k.timeouts + 1 }) s).sameControl
    exact .next ((settle_works .calm l _).sameControl.law (endAttempt_law (hcount.law h) (hcount.job.trans hjob) _))
  · exact .next h

/-- A frame that ends is received no more, and one received for the window finds the line WAKING (R7, R153). -/
theorem execFrameReceived_law (h : (s.line l).ControlLaw) (rx : Reception) : Result.ControlSound l (execFrameReceived l rx s) := by
  unfold execFrameReceived
  refine .ite (fun hreceive => ?_) fun _ => .next h
  have harrived := frameArrival_law h hreceive.2 rx
  dsimp only
  split
  · next r hr =>
    refine .next ((settle_works .calm l _).sameControl.law ?_)
    have hcount := (countCrc_works .calm l (checkReception rx) ((frameArrival l rx s).updLine l (fun x => { x with reception := none }))).sameControl
    have hline := State.updLine_line_same (frameArrival l rx s) l (fun x => { x with reception := none })
    refine deliverFrame_law (hcount.law ?_) ?_ r.role (fun hrole => ?_) _
    · rw [hline]
      exact ⟨harrived.1, harrived.fits, harrived.2.2.1, harrived.2.2.2.1, nofun, harrived.armed, fun _ => rfl⟩
    · rw [hcount.reception, hline]
    · rw [hcount.state, hline]
      exact harrived.waking_of_listen (harrived.window (by rw [hr, Option.map_some, hrole])).1
  · exact .next harrived

/-! ## Rest and wake -/

theorem execRecoveryWatchExpiry_law (h : (s.line l).ControlLaw) : Result.ControlSound l (execRecoveryWatchExpiry l s) := by
  unfold execRecoveryWatchExpiry
  split
  · next i e hfind =>
    refine .ite (fun hidle => .next ((settle_works .calm l _).sameControl.law ?_)) fun _ => .next h
    obtain ⟨hfaulted, hnone⟩ := hidle
    have hclear := clearConsecutive_sameControl l s
    have hphase := h.phase_none (by rw [hfaulted]; nofun) (by rw [hfaulted]; nofun)
    have hactive : ((moveLine l .active .recover (clearConsecutive l s)).line l).ControlLaw := by
      rw [moveLine_line]
      refine ⟨nofun, ?_, fun _ => ?_, fun j hj => ?_, fun hw => ?_, fun hd => ?_, fun _ => hclear.reception.trans hnone⟩
      · rw [hclear.wake, hphase]
        trivial
      · exact hclear.job.trans (h.1 (.inr (.inr hfaulted)))
      · have hidle : ((clearConsecutive l s).line l).job = none := hclear.job.trans (h.1 (.inr (.inr hfaulted)))
        rw [hidle] at hj
        cases hj
      · have hidle : ((clearConsecutive l s).line l).reception = none := hclear.reception.trans hnone
        rw [hidle] at hw
        cases hw
      · have harmed := h.armed (hclear.detector.symm.trans hd)
        rw [hfaulted] at harmed
        simp at harmed
    have hstarved := checkStarved_works .calm l (moveLine l .active .recover (clearConsecutive l s))
    refine (finishEntry_works .calm l e _ _ ?_).sameControl.law (hstarved.sameControl.law hactive)
    obtain ⟨starved, hline⟩ := checkStarved_line l (moveLine l .active .recover (clearConsecutive l s))
    rw [hline, moveLine_line, clearConsecutive, State.updLine_line_same]
    exact Line.findEntry_lt hfind
  · exact .next h

theorem execQuiesceTimerExpiry_law (h : (s.line l).ControlLaw) : Result.ControlSound l (execQuiesceTimerExpiry l s) := by
  refine .ite (fun hquiesce => .next ((finishFirst_works .calm l _ _ _).sameControl.law ?_)) fun _ => .next h
  obtain ⟨-, hphase, -⟩ := hquiesce
  have hjob := h.2.2.1 (.inl hphase)
  have hwindow := h.no_window (by rw [hphase]; nofun)
  rw [endEpisode, updWake_line, moveLine_line]
  exact ⟨fun _ => hjob, trivial, fun _ => hjob, (fun j hj _ => by rw [hjob] at hj; cases hj), fun hw => absurd hw hwindow,
    fun _ => .inl rfl, h.2.2.2.2.2.2⟩

theorem execToneRecognised_law (r : ToneRecognition) (h : (s.line r.line).ControlLaw) : Result.ControlSound r.line (execToneRecognised r s) := by
  refine .ite (fun _ => ?_) fun _ => .next h
  have hjoin : State.Works .calm r.line 0 s (if r.wakeAsked then joinStationWake r.line s else s) :=
    .ite (fun _ => joinStationWake_works .calm _ s) fun _ => .refl .calm _ s
  split
  · next hstate =>
    refine .next (beginStationWake_law (hjoin.sameControl.law h) ?_)
    rw [hjoin.sameControl.state, hstate]
    nofun
  · next hstate =>
    exact .next ((finishFirst_works .calm _ _ _ _).sameControl.law (beginStationWake_law h (by rw [hstate]; nofun)))
  · exact .next h

theorem execToneEnd_law (h : (s.line l).ControlLaw) : Result.ControlSound l (execToneEnd l s) := by
  refine .ite (fun htone => .next ?_) fun _ => .next h
  obtain ⟨-, hphase⟩ := htone
  have hwaking : (s.line l).state = .waking := by simpa [hphase, WakePhase.fits] using h.fits
  have hwindow := h.no_window (by rw [hphase]; nofun)
  exact openWindow_law (by rwa [State.updLine_line_same]) (by rwa [State.updLine_line_same]) (by rw [State.updLine_line_same]; nofun)

theorem execMasterToneEnd_law (h : (s.line l).ControlLaw) : Result.ControlSound l (execMasterToneEnd l s) := by
  unfold execMasterToneEnd
  split
  · next n hjob =>
    have hwaking := h.waking_of_wakeWork hjob rfl
    have hnone : (s.line l).reception = none := h.reception_of_transmitting (by simp [Line.transmitting, hjob])
    exact .next (openWindow_law hwaking (by rw [hnone]; nofun) fun harmed => by simpa [hwaking] using h.armed harmed)
  · exact .next h

theorem execListenWindowExpiry_law (h : (s.line l).ControlLaw) : Result.ControlSound l (execListenWindowExpiry l s) := by
  refine .ite (fun hsilent => .next ?_) fun _ => .next h
  obtain ⟨hphase, htimer⟩ := hsilent
  have hwaking := h.waking_of_listen hphase
  have hwindow : (s.line l).reception.map (·.role) ≠ some .window := fun hw => by
    rw [(h.window hw).2] at htimer
    cases htimer
  refine enterClosing_law ?_ 0 ?_ ?_
  · rw [updWake_line]
    exact ⟨h.1, h.fits, h.2.2.1, h.2.2.2.1, fun hw => absurd hw hwindow, h.armed, h.2.2.2.2.2.2⟩
  · rwa [updWake_line]
  · rwa [updWake_line]

/-! ## Any command -/

/-- A command of one line keeps the law of its controller. -/
theorem exec_controlSound {c : Instr} (hl : c.lineOf = some l) (h : (s.line l).ControlLaw) : Result.ControlSound l (exec c s) := by
  have hb (x : Line) : Licence.calm.OnBank x.engine := Licence.calm_onBank _
  cases c <;> cases hl
  case notifyRequestProducer v => exact (execNotifyRequestProducer_steps .calm l v s).controlSound h
  case notifyCompletionConsumer v => exact (execNotifyCompletionConsumer_steps .calm l v s).controlSound h
  case notifyBufferProducer v => exact (execNotifyBufferProducer_steps .calm l v s).controlSound h
  case requestFetchIssue => exact (execRequestFetchIssue_steps .calm l s).controlSound h
  case requestFetchDone id r => exact .next (finishRead_law h rfl id r)
  case stagedRecordAppend => exact (execStagedRecordAppend_steps l s (hb _)).controlSound h
  case slotTableReadDone id r => exact .next (finishRead_law h rfl id r)
  case trafficSelect => exact execTrafficSelect_law h
  case payloadReadDone id r => exact .next (finishRead_law h rfl id r)
  case holdoffExpiry i => exact (execHoldoffExpiry_steps .calm l i s).controlSound h
  case stationSet => exact (execStationSet_steps .calm l s).controlSound h
  case stationRead => exact (execStationRead_steps .calm l s).controlSound h
  case lineConfig => exact execLineConfig_law h
  case lineParameterBlockReadDone id r => exact .next (finishRead_law h rfl id r)
  case rest => exact (execRest_steps .calm l s).controlSound h
  case wake => exact execWake_law h
  case lineRecover => exact (execLineRecover_steps .calm l s).controlSound h
  case fence => exact (execFence_steps .calm l s).controlSound h
  case lineGrant => exact execLineGrant_law h
  case slotOutputReadDone id r => exact .next (finishRead_law h rfl id r)
  case gapElapsed => exact execGapElapsed_law h
  case collision b => exact execCollision_law h b
  case cmdSent => exact execCmdSent_law h
  case datSent => exact execDatSent_law h
  case quietSent => exact execQuietSent_law h
  case wackSent => exact execWackSent_law h
  case receivedFrameStart => exact execReceivedFrameStart_law h
  case responseTimeout => exact execResponseTimeout_law h
  case frameReceived rx => exact execFrameReceived_law h rx
  case descriptorFetchIssue => exact (execDescriptorFetchIssue_steps .calm l s).controlSound h
  case descriptorFetchDone id r => exact .next (finishRead_law h rfl id r)
  case cycleTimerExpiry => exact (execCycleTimerExpiry_steps .calm l s).controlSound h
  case syncRisingEdge => exact (execSyncRisingEdge_steps .calm l s).controlSound h
  case quiesceTimerExpiry => exact execQuiesceTimerExpiry_law h
  case toneRecognised r => exact execToneRecognised_law r h
  case toneEnd => exact execToneEnd_law h
  case overlongTone b => exact .ite (fun _ => .next (enterFaulted_law l s _ _)) fun _ => .next h
  case masterToneEnd => exact execMasterToneEnd_law h
  case listenWindowExpiry => exact execListenWindowExpiry_law h
  case stuckLine b => exact .ite (fun _ => .next (enterFaulted_law l s _ _)) fun _ => .next h
  case recoveryWatchExpiry => exact execRecoveryWatchExpiry_law h
  case recoveryWatchActivity => exact .next ((endWatch_works .calm l s).sameControl.law h)
  case bufferReturnAtStop => exact (execBufferReturnAtStop_steps .calm l s).controlSound h

/-! ## Run control -/

theorem Line.ControlLaw.disarm (h : x.ControlLaw) : ({ x with detector := .disarmed } : Line).ControlLaw :=
  ⟨h.1, h.fits, h.2.2.1, h.2.2.2.1, h.2.2.2.2.1, nofun, h.2.2.2.2.2.2⟩

/-- The wake sequence's action on the entry to STOPPING (R157). -/
theorem stopWake_law (h : x.ControlLaw) : x.stopWake.ControlLaw := by
  unfold Line.stopWake
  split
  · exact h.disarm
  · split
    · next hphase => exact (h.endEpisode (h.no_window (by rw [hphase]; nofun))).disarm
    · exact h.disarm
  · exact h

/-- A stop mark changes neither the stage nor the kind of work (R18). -/
theorem marked_law (h : x.ControlLaw) : ({ x with job := x.job.map Job.marked } : Line).ControlLaw := by
  have hsame (hj : x.job.map Job.marked = x.job) : ({ x with job := x.job.map Job.marked } : Line).ControlLaw := by
    rw [hj]
    exact h
  cases hjob : x.job with
  | none => exact hjob ▸ hsame (by rw [hjob]; rfl)
  | some j =>
    obtain ⟨k, st⟩ := j
    cases k
    case exchange e => exact h.restage hjob st rfl fun ht => h.reception_of_transmitting ((x.transmitting_of_stage hjob _).symm.trans ht)
    all_goals exact hjob ▸ hsame (by rw [hjob]; rfl)

theorem stopLine_law (h : (s.line l).ControlLaw) (cycleFirst : Bool) : ((stopLine cycleFirst l s).line l).ControlLaw := by
  have hmarked : ((s.updLine l (fun x =>
      { x.stopWake with job := x.job.map Job.marked, collector := { x.collector with claim := false } })).line l).ControlLaw := by
    rw [State.updLine_line_same]
    obtain ⟨det, w, hwake⟩ := (s.line l).stopWake_eq
    have hlaw := marked_law (stopWake_law h)
    rw [hwake] at hlaw ⊢
    exact hlaw
  unfold stopLine
  dsimp only
  split
  · exact ((stopEngine_works .calm l _).steps.trans (stopRequests_steps .calm l _)).sameControl.law hmarked
  · exact ((stopRequests_steps .calm l _).trans (stopEngine_works .calm l _).steps).sameControl.law hmarked

theorem stopLine_touches (cycleFirst : Bool) (l : LineId) (s : State) : State.Touches l s (stopLine cycleFirst l s) :=
  (stopLine_steps (lic := ⟨True, fun _ => True, .bank0, True⟩) trivial cycleFirst l s).touches

/-- An operation of line `k` that keeps the law of its controller keeps the laws of both. -/
theorem State.Touches.controlLaw (k : LineId) (htouch : State.Touches k s t) (h : ∀ l, (s.line l).ControlLaw) (hk : (t.line k).ControlLaw) :
    ∀ l, (t.line l).ControlLaw := by
  intro l
  obtain rfl | rfl := LineId.eq_or_other k l
  · exact hk
  · rw [htouch.other]
    exact h _

theorem controlLaw_of_lines (h : ∀ l, (s.line l).ControlLaw) (h0 : t.line0 = s.line0) (h1 : t.line1 = s.line1) : ∀ l, (t.line l).ControlLaw
  | .line0 => by
    have hlaw : s.line0.ControlLaw := h .line0
    rwa [← h0] at hlaw
  | .line1 => by
    have hlaw : s.line1.ControlLaw := h .line1
    rwa [← h1] at hlaw

theorem beginStop_law (b1 b2 : Bool) (h : ∀ l, (s.line l).ControlLaw) : ∀ l, ((beginStop b1 b2 s).line l).ControlLaw := by
  have hstop (l : LineId) (u : State) (hu : ∀ l, (u.line l).ControlLaw) : ∀ k, ((stopLine b2 l u).line k).ControlLaw :=
    (stopLine_touches b2 l u).controlLaw l hu (stopLine_law (hu l) b2)
  have hrun : ∀ l, (({ s with run := .stopping } : State).line l).ControlLaw := controlLaw_of_lines h rfl rfl
  unfold beginStop
  dsimp only
  split
  · exact hstop .line0 _ (hstop .line1 _ hrun)
  · exact hstop .line1 _ (hstop .line0 _ hrun)

theorem Line.workEnded_iff : x.workEnded = true ↔ x.entries = [] ∧ x.intake.staged = none ∧ x.intake.fetch = none ∧ x.buffers.fetch = none ∧
    x.job = none ∧ x.wake.phase = .none ∧ x.engine.state = .stopped ∧ x.buffers.held = [] := by
  simp [Line.workEnded, and_assoc]

theorem takeDown_law (h : (s.line l).ControlLaw) (hended : (s.line l).workEnded = true) : ((takeDown l s).line l).ControlLaw := by
  obtain ⟨-, -, -, -, hjob, hphase, -, -⟩ := Line.workEnded_iff.mp hended
  unfold takeDown
  split
  · exact h
  · rw [State.updLine_line_same, moveLine_line]
    refine ⟨fun _ => hjob, ?_, fun _ => hjob, fun j hj => ?_, fun hw => absurd hw (h.no_window (by rw [hphase]; nofun)), nofun,
      h.2.2.2.2.2.2⟩
    · simp only [hphase]
      trivial
    · simp only [hjob] at hj
      cases hj

theorem Result.Commands.controlLaw {r : Result} (hr : Result.Commands (fun _ => .calm) s r) (ht : r = .next t)
    (h : ∀ l, (s.line l).ControlLaw) : ∀ l, (t.line l).ControlLaw := by
  obtain ⟨u, hu, hkeep | hrenew⟩ := hr
  · rw [ht] at hu
    cases hu
    exact fun l => ((hkeep.steps l).control.resolve_right id).law (h l)
  · rw [ht] at hu
    cases hu
    exact fun l => (hrenew.isNew l).controlLaw

theorem finishDrain_law (h : ∀ l, (s.line l).ControlLaw) : ∀ l, ((finishDrain s).line l).ControlLaw := by
  unfold finishDrain
  split
  · exact fun l => ((endStop_renews s).isNew l).controlLaw
  · exact h

theorem execDctlEnableClear_law (b1 b2 : Bool) (h : ∀ l, (s.line l).ControlLaw) (ht : execDctlEnableClear b1 b2 s = .next t) :
    ∀ l, (t.line l).ControlLaw := by
  unfold execDctlEnableClear at ht
  split at ht <;> cases ht
  case h_2 => exact beginStop_law b1 b2 h
  all_goals exact controlLaw_of_lines h rfl rfl

theorem execHostReadTimeout_law (id : Nat) (h : ∀ l, (s.line l).ControlLaw) (ht : execHostReadTimeout id s = .next t) :
    ∀ l, (t.line l).ControlLaw := by
  unfold execHostReadTimeout at ht
  split at ht
  · next read _ =>
    cases ht
    cases hl : read.reader.line? with
    | some l =>
      have hsteps := endRead_readEnded_steps (lic := ⟨True, fun _ => True, .bank0, True⟩) trivial hl id none s (.inr trivial)
      exact hsteps.touches.controlLaw l h (readEnded_law (by rw [State.endRead_line]; exact h l) hl none)
    | none =>
      rw [readEnded_of_context hl]
      exact Result.Commands.controlLaw
        (((s.endRead_keepsLines _ id).trans_commands (contextEnded_commands (fun _ => .calm) _ _ _)).next) rfl h
  · cases ht
    exact h

theorem execStopLineWorkEnd_law (h : ∀ l, (s.line l).ControlLaw) (ht : execStopLineWorkEnd s = .next t) : ∀ l, (t.line l).ControlLaw := by
  unfold execStopLineWorkEnd at ht
  split at ht
  · next hend =>
    obtain ⟨-, -, h0, h1⟩ := hend
    cases ht
    have hline0 := (takeDown_touches .line0 s).controlLaw .line0 h (takeDown_law (h .line0) h0)
    have hother : (takeDown .line0 s).line .line1 = s.line .line1 := (takeDown_touches .line0 s).other
    have hline1 := (takeDown_touches .line1 (takeDown .line0 s)).controlLaw .line1 hline0
      (takeDown_law (hline0 .line1) (by rw [hother]; exact h1))
    exact finishDrain_law (controlLaw_of_lines hline1 rfl rfl)
  · cases ht
    exact h

/-- Every command keeps the law of both controllers. -/
theorem exec_controlLaw {c : Instr} (h : ∀ l, (s.line l).ControlLaw) (ht : exec c s = .next t) : ∀ l, (t.line l).ControlLaw := by
  cases hl : c.lineOf with
  | some l =>
    obtain ⟨u, hu, hsteps⟩ := exec_steps hl s
    rw [ht] at hu
    cases hu
    exact hsteps.touches.controlLaw l h (exec_controlSound hl (h l) _ ht)
  | none =>
    cases c
    case powerOn => exact Result.Commands.controlLaw (State.Commands.next (.inr (deviceReset_renews false s))) ht h
    case nReset => exact Result.Commands.controlLaw (State.Commands.next (.inr (deviceReset_renews false s))) ht h
    case dctlReset b => exact Result.Commands.controlLaw (State.Commands.next (.inr (deviceReset_renews true s))) ht h
    case dctlEnableSet => exact (execDctlEnableSet_commands _ s).controlLaw ht h
    case dctlEnableClear b1 b2 => exact execDctlEnableClear_law b1 b2 h ht
    case notifyEventConsumer v => exact (execNotifyEventConsumer_commands _ v s).controlLaw ht h
    case notifyRingId7 v => exact (execNotifyRingId7_commands _ v s).controlLaw ht h
    case irqpendAcknowledge v0 v1 v2 => exact ((acknowledge_reports v0 v1 v2 s).keepsLines_of_events _ (acknowledge_events v0 v1 v2 s)).next.controlLaw ht h
    case registerWrite r v => exact (execRegisterWrite_commands _ r v s).controlLaw ht h
    case contextReadDone id r => exact (execContextReadDone_commands _ id r s).controlLaw ht h
    case hostReadTimeout id => exact execHostReadTimeout_law id h ht
    case eventBacklogDrain => exact (((drainEvents_reports s).keepsLines _ drainEvents_eventLaw).finishDrain).next.controlLaw ht h
    case holdTimerExpiry v => exact ((expireHold_reports v s).keepsLines_of_events _ (expireHold_events v s)).next.controlLaw ht h
    case stopLineWorkEnd => exact execStopLineWorkEnd_law h ht
    case eventDrainExpiry => exact (execEventDrainExpiry_commands _ s).controlLaw ht h
    all_goals cases hl

/-- Settles O9: each command that moves the line controller keeps the clauses of its law, and the others leave it. -/
theorem stepKeepsTheControlLaw : Obligations.StepKeepsTheControlLaw := by
  intro s t h ht
  unfold step at ht
  split at ht
  · cases ht
    exact h
  · next c rest _ =>
    have hrest : ∀ l, (({ s with pending := rest } : State).line l).ControlLaw := controlLaw_of_lines h rfl rfl
    exact exec_controlLaw hrest ht

end Sys2Proof.Machine
end

section
/-! PROOFS. Reset, run control and the register window: what their commands do, command by command. -/

set_option Elab.async false

namespace Sys2Proof.Machine

/-! ## Device reset and the ENABLE position (R170, R179) -/

/-- Clearing the vectors resets them, and ends an active interrupt line (R178, R179). -/
theorem clearVectors_eq (s : State) :
    clearVectors s =
      { s with
        vector0 := VectorState.fresh, vector1 := VectorState.fresh, vector2 := VectorState.fresh
        port := s.port ++ if s.context.level && s.anyPending then [.level false] else [] } := by
  unfold clearVectors State.issueInactive
  have hafter : ({ s with vector0 := VectorState.fresh, vector1 := VectorState.fresh, vector2 := VectorState.fresh } : State).interruptLine =
      false := by simp [State.interruptLine, State.anyPending, VectorState.fresh]
  rw [hafter, State.interruptLine]
  cases s.context.level && s.anyPending <;> simp [State.issue]

/-- Settles O22: a device reset clears the vectors, and every other block with the reset state. -/
theorem deviceResetLeavesTheResetState : Obligations.DeviceResetLeavesTheResetState := by
  intro s
  have reset (keep : Bool) : deviceReset keep s =
      { State.reset with
        pending := s.pending
        ctxLo := if keep then s.ctxLo else 0
        ctxHi := if keep then s.ctxHi else 0
        reads := s.reads
        nextRead := s.nextRead
        port := s.port ++ if s.context.level && s.anyPending then [.level false] else [] } := by
    simp [deviceReset, clearVectors_eq, State.discard, State.reset]
  exact ⟨congrArg _ (reset false), congrArg _ (reset false), fun _ => congrArg _ (reset true)⟩

/-- Settles O23: by the run state, and in OFF by the alignment of the context address. -/
theorem enableWriteStartsOrAbandons : Obligations.EnableWriteStartsOrAbandons := by
  intro s
  have setOff (h : s.run = .off) : exec .dctlEnableSet s =
      if aligned64 s.contextAddress then
        .next (({ s with run := .starting, faultInfo := FaultInfo.clear, contextRead := some s.nextRead } : State).issueRead
          .context s.contextAddress 512)
      else .next (failStart ⟨.badContextAddress, s.contextAddress.toNat % 64, 0⟩ 0 s) := by
    change execDctlEnableSet s = _
    simp only [execDctlEnableSet, h]
  refine ⟨fun h ha => ?_, fun h ha => ?_, fun h => ?_, fun b1 b2 => ⟨fun h => ?_, fun h => ?_, fun h => ?_⟩⟩
  · have haligned : aligned64 s.contextAddress = true := decide_eq_true ha
    rw [setOff h, if_pos haligned]
    rfl
  · have haligned : ¬aligned64 s.contextAddress = true := fun hc => ha (of_decide_eq_true hc)
    rw [setOff h, if_neg haligned]
    simp [failStart, echoesFault, State.contextAddress]
  · change execDctlEnableSet s = _
    cases hr : s.run <;> simp_all [execDctlEnableSet]
  · change execDctlEnableClear b1 b2 s = _
    simp only [execDctlEnableClear, h]
  · change execDctlEnableClear b1 b2 s = _
    simp only [execDctlEnableClear, h]
  · change execDctlEnableClear b1 b2 s = _
    obtain h | h := h <;> simp only [execDctlEnableClear, h]

/-! ## Fetches (R58, R85) -/

/-- Settles O30: each fetch is guarded by its conditions, one by one. -/
theorem fetchIsIssuedWhenItsConditionsHold : Obligations.FetchIsIssuedWhenItsConditionsHold := by
  intro l s k b ring bring request descriptor
  have hrequest : s.mayFetchRequest l = true ↔ request := by
    simp [State.mayFetchRequest, request, k, and_assoc]
  have hdescriptor : s.mayFetchDescriptor l = true ↔ descriptor := by
    simp [State.mayFetchDescriptor, descriptor, b, and_assoc, Config.heldMax]
  refine ⟨fun h => ?_, fun h => ?_, fun h => ?_, fun h => ?_⟩
  · change execRequestFetchIssue l s = _
    rw [execRequestFetchIssue, if_pos (hrequest.mpr h)]
    rfl
  · change execRequestFetchIssue l s = _
    rw [execRequestFetchIssue, if_neg (mt hrequest.mp h)]
  · change execDescriptorFetchIssue l s = _
    rw [execDescriptorFetchIssue, if_pos (hdescriptor.mpr h)]
    rfl
  · change execDescriptorFetchIssue l s = _
    rw [execDescriptorFetchIssue, if_neg (mt hdescriptor.mp h)]

/-! ## The vectors (R96) -/

/-- Raising a vector, in one equation (R96, R98). -/
theorem raiseVector_eq (v : VectorId) (s : State) :
    raiseVector v s = { s.setVector v { s.vector v with pending := true, holdTimer := none } with
      port := s.port ++ if s.context.level then (if s.anyPending then [] else [.level true]) else [.message v] } := by
  unfold raiseVector State.issueInterrupt
  cases s.context.level <;> cases s.anyPending <;> cases v <;> simp [State.issue, State.setVector]

/-- Settles O14: by whether the vector is pending, and whether the count reaches the moderation count. -/
theorem countedRecordDrivesItsVector : Obligations.CountedRecordDrivesItsVector := by
  intro v s x set interrupt
  have hmin (h : x.unreported < 255) : min 255 (x.unreported + 1) = x.unreported + 1 := by omega
  refine ⟨fun hp => ?_, fun hp hlt hne => ?_, fun hp hlt heq => ?_, fun hp ht => ?_⟩
  · rw [countRecord]
    exact if_pos hp
  · rw [countRecord]
    dsimp only
    rw [if_neg (by simp [x, hp]), hmin hlt, if_neg hne]
    simp only [x] at hp
    rw [hp]
  · have hany (y : VectorState) (hy : y.pending = false) : (s.setVector v y).anyPending = s.anyPending := by
      simp only [x] at hp
      cases v <;> simp_all [State.anyPending, State.setVector, State.vector]
    rw [countRecord]
    dsimp only
    rw [if_neg (by simp [x, hp]), hmin hlt, if_pos heq, raiseVector_eq, hany]
    · simp only [State.setVector_vector_same, State.setVector_setVector, State.setVector_context, State.setVector_port]
      rfl
    · exact hp
  · change execHoldTimerExpiry v s = _
    rw [execHoldTimerExpiry, expireHold, if_pos ⟨ht, hp⟩, raiseVector_eq]

/-! ## The consumer NOTIFYs (R82, R92) -/

/-- The test of a consumer NOTIFY as the manual gives it (R82, R92). -/
theorem consumerOk_iff (value consumer producer : Half) :
    consumerOk value consumer producer = true ↔ (value - consumer).toNat ≤ (producer - consumer).toNat := decide_eq_true_iff

/-- A completion consumer NOTIFY of an enabled line, where it is acted on (R82, R93). -/
theorem notifyCompletion_of_enabled {l : LineId} {v : Half} {s : State} (h : (s.context.lineSection l).enable = true) :
    notifyCompletion l v s =
      if consumerOk v (s.line l).completion.consumer (s.line l).completion.producer = true then
        s.updLine l (fun x => { x with completion :=
          ⟨(s.line l).completion.producer, v, (s.line l).completion.credit + (v - (s.line l).completion.consumer).toNat⟩ })
      else raiseEvent (.notifyRejected (some l) (completionRingId l) v (s.line l).completion.consumer) s := by
  simp only [notifyCompletion, h, Bool.true_and, if_true]
  rfl

/-- A NOTIFY out of range is an event: it is backlogged, or lost, unless it is written at once, and in no case ends a drain (R90, R178). -/
theorem finishDrain_raiseEvent (e : Event) (s : State) (h : s.drain = none ∨ ¬(s.events.backlog = [] ∧ s.events.lossCount = 0)) :
    finishDrain (raiseEvent e s) = raiseEvent e s := by
  have hdrain : (raiseEvent e s).drain = s.drain := by rw [(raiseEvent_reports e s).rest]
  refine if_neg fun ⟨hd, hb, hl⟩ => ?_
  rw [hdrain] at hd
  obtain h | h := h
  · simp [h] at hd
  · revert hb hl
    unfold raiseEvent
    dsimp only
    split
    · next hat => exact absurd ⟨hat.1, hat.2.1⟩ h
    · split <;> simp

theorem drainEvents_of_empty (s : State) (hb : s.events.backlog = []) (hl : s.events.lossCount = 0) : drainEvents s = s := by
  have hdrain : drainBacklog s.events.backlog s = s := by
    rw [hb, drainBacklog, ← hb]
  rw [drainEvents, hdrain, writeLoss, if_neg (fun h => h.2.1 hl)]

/-- Settles O26: by the test of R82 and R92; an event consumer NOTIFY in range goes on as the drain does. -/
theorem consumerNotifyReleasesRecords : Obligations.ConsumerNotifyReleasesRecords := by
  have acted {s : State} (h : s.run = .running ∨ s.run = .stopping) (l : LineId) (v : Half) :
      exec (.notifyCompletionConsumer l v) s = .next (notifyCompletion l v s) ∧
        exec (.notifyEventConsumer v) s = .next (finishDrain (notifyEvent v s)) := by
    constructor
    · change execNotifyCompletionConsumer l v s = _
      obtain h | h := h <;> simp only [execNotifyCompletionConsumer, h]
    · change execNotifyEventConsumer v s = _
      obtain h | h := h <;> simp only [execNotifyEventConsumer, h]
  constructor
  · intro l v s hrun hen c
    refine ⟨fun hin => ?_, fun hout => ?_⟩
    · rw [(acted hrun l v).1, notifyCompletion_of_enabled hen, if_pos ((consumerOk_iff _ _ _).mpr hin)]
    · rw [(acted hrun l v).1, notifyCompletion_of_enabled hen, if_neg (fun hok => Nat.not_le.mpr hout ((consumerOk_iff _ _ _).mp hok))]
  · intro v s hrun u
    refine ⟨fun hin => ?_, fun hout hleft => ?_⟩
    · have hnotify : notifyEvent v s = drainEvents { s with events := { u with consumer := v } } :=
        if_pos ((consumerOk_iff _ _ _).mpr hin)
      rw [(acted hrun .line0 v).2, hnotify]
      refine ⟨rfl, fun hd hb hl => ?_⟩
      rw [drainEvents_of_empty { s with events := { u with consumer := v } } hb hl, finishDrain, if_neg (by simp [hd])]
    · have hnotify : notifyEvent v s = raiseEvent (.notifyRejected none 0 v u.consumer) s :=
        if_neg (fun hok => Nat.not_le.mpr hout ((consumerOk_iff _ _ _).mp hok))
      rw [(acted hrun .line0 v).2, hnotify, finishDrain_raiseEvent _ s hleft]

/-! ## The end of a host memory read (R180) -/

/-- A read outstanding for this reader ends with its data. -/
theorem finishRead_of_found {reader : Reader} {id : Nat} {s : State} {r : HostRead} (h : s.findRead id = some r)
    (hr : r.reader = reader) (result : ReadResult) :
    finishRead reader id result s = readEnded r (r.data result) (s.endRead id) := by
  rw [finishRead, h]
  exact if_pos hr

theorem HostRead.data_of_length {r : HostRead} {d : List Byte} (h : d.length = r.length) : r.data (.octets d) = some d := if_pos h

/-- Every command in which a read ends is the end of that read. -/
theorem exec_done (reader : Reader) (id : Nat) (result : ReadResult) (s : State) :
    exec (reader.done id result) s = .next (finishRead reader id result s) := by
  cases reader <;> rfl

/-- `t` has issued the reads of `s` and later ones only: no read number that `s` has used up comes back (R180). -/
def State.ReadsOn (s t : State) : Prop := s.nextRead ≤ t.nextRead ∧ ∀ r, r ∈ t.reads → r ∈ s.reads ∨ s.nextRead ≤ r.id

theorem State.ReadsOn.of_same {s t : State} (hreads : t.reads = s.reads) (hnext : t.nextRead = s.nextRead) : s.ReadsOn t :=
  ⟨hnext.ge, fun _ hr => .inl (hreads ▸ hr)⟩

theorem State.ReadsOn.refl (s : State) : s.ReadsOn s := .of_same rfl rfl

theorem State.ReadsOn.trans {s t u : State} (h : s.ReadsOn t) (k : t.ReadsOn u) : s.ReadsOn u :=
  ⟨h.1.trans k.1, fun r hr => (k.2 r hr).elim (h.2 r) (fun hn => .inr (h.1.trans hn))⟩

theorem State.Reports.readsOn {s t : State} (h : s.Reports t) : s.ReadsOn t :=
  .of_same (by rw [h.rest]) (by rw [h.rest])

theorem State.updLine_readsOn (s : State) (l : LineId) (f : Line → Line) : s.ReadsOn (s.updLine l f) := .of_same (by simp) (by simp)

theorem State.issueRead_readsOn (s : State) (reader : Reader) (a : Addr) (n : Nat) : s.ReadsOn (s.issueRead reader a n) := by
  refine ⟨Nat.le_succ _, fun r hr => ?_⟩
  simp only [State.issueRead_reads, List.mem_append, List.mem_singleton] at hr
  exact hr.imp id (fun h => by rw [h])

/-- A read number used up and not outstanding stays so. -/
theorem State.ReadsOn.findRead {s t : State} (h : s.ReadsOn t) {id : Nat} (hid : id < s.nextRead) (hn : s.findRead id = none) :
    t.findRead id = none := by
  simp only [State.findRead, List.find?_eq_none] at hn ⊢
  intro r hr
  obtain hold | hnew := h.2 r hr
  · exact hn r hold
  · simp only [beq_iff_eq]
    omega

theorem State.ReadsOn.ite {s t u : State} {c : Prop} [Decidable c] (ht : c → s.ReadsOn t) (hu : ¬c → s.ReadsOn u) :
    s.ReadsOn (if c then t else u) := by
  split
  · next h => exact ht h
  · next h => exact hu h

theorem complete_readsOn (l : LineId) (c : Completion) (s : State) : s.ReadsOn (complete l c s) :=
  (s.hostWrite_reports _ _).readsOn.trans ((State.updLine_readsOn _ l _).trans (countRecord_reports _ _).readsOn)

theorem finishEntry_readsOn (l : LineId) (i : Nat) (e : Entry) (how : Ending) (s : State) : s.ReadsOn (finishEntry l i e how s) :=
  (s.updLine_readsOn l _).trans (complete_readsOn l _ _)

theorem finishFirst_readsOn (l : LineId) (p : Entry → Bool) (how : Ending) (s : State) : s.ReadsOn (finishFirst l p how s) := by
  unfold finishFirst
  split
  · exact .refl s
  · exact finishEntry_readsOn l _ _ how s

theorem finishAll_readsOn (l : LineId) (p : Entry → Bool) (how : Entry → Ending) (s : State) : s.ReadsOn (finishAll l p how s) := by
  have hfold (es : List Entry) (u : State) : u.ReadsOn (es.foldl (fun s e => completeEntry l (how e) s e) u) := by
    induction es generalizing u with
    | nil => exact .refl u
    | cons e rest ih => exact (complete_readsOn l _ u).trans (ih _)
  exact (s.updLine_readsOn l _).trans (hfold _ _)

theorem finishConfig_readsOn (l : LineId) (i : Nat) (e : Entry) (how : Ending) (s : State) : s.ReadsOn (finishConfig l i e how s) := by
  unfold finishConfig writeParamsCopy
  split
  · split
    · exact finishEntry_readsOn l i e how s
    · exact (s.hostWrite_reports _ _).readsOn.trans (finishEntry_readsOn l i e how _)
  · exact finishEntry_readsOn l i e how s

theorem settle_readsOn (l : LineId) (s : State) : s.ReadsOn (settle l s) := by
  unfold settle checkClaim checkStarved
  dsimp only
  refine .trans (t := if _ then _ else _) ?_ (.ite (fun _ => State.updLine_readsOn _ l _) fun _ => .refl _)
  exact .ite (fun _ => s.updLine_readsOn l _) fun _ =>
    .ite (fun _ => (s.updLine_readsOn l _).trans (raiseEvent_reports _ _).readsOn) fun _ => .refl s

theorem recordSlot_readsOn (l : LineId) (result : SlotResult) (k : Option Nat) (s : State) (n : Nat) : s.ReadsOn (recordSlot l result k s n) := by
  unfold recordSlot
  dsimp only
  split
  · exact .refl s
  · exact (s.updLine_readsOn l _).trans (State.hostWrite_reports _ _ _).readsOn

theorem switchIfCommitted_readsOn (l : LineId) (s : State) : s.ReadsOn (switchIfCommitted l s) :=
  .ite (fun _ => (s.updLine_readsOn l _).trans ((raiseEvent_reports _ _).readsOn.trans
    ((writeCycleRecord_reports l _).readsOn.trans (finishFirst_readsOn l _ _ _)))) fun _ => .refl s

theorem becomeStopped_readsOn (l : LineId) (s : State) : s.ReadsOn (becomeStopped l s) :=
  (s.updLine_readsOn l _).trans ((switchIfCommitted_readsOn l _).trans
    ((writeCycleRecord_reports l _).readsOn.trans (finishAll_readsOn l _ _ _)))

theorem passSlot_readsOn (l : LineId) (s : State) : s.ReadsOn (passSlot l s) := s.updLine_readsOn l _

theorem endCycle_readsOn (l : LineId) (s : State) : s.ReadsOn (endCycle l s) :=
  (s.updLine_readsOn l _).trans (writeCycleRecord_reports l _).readsOn

theorem prepareSlot_readsOn (l : LineId) (c : SlotCell) (s : State) : s.ReadsOn (prepareSlot l c s) :=
  .ite (fun _ => s.updLine_readsOn l _) fun _ => (s.updLine_readsOn l _).trans (State.issueRead_readsOn _ _ _ _)

theorem reachSlots_readsOn (l : LineId) (ns : List Nat) (s : State) : s.ReadsOn (reachSlots l ns s) := by
  induction ns generalizing s with
  | nil => exact endCycle_readsOn l s
  | cons n rest ih =>
    unfold reachSlots
    split
    · exact (passSlot_readsOn l s).trans (ih _)
    · split
      · exact (recordSlot_readsOn l _ none s n).trans ((passSlot_readsOn l _).trans (ih _))
      · exact prepareSlot_readsOn l _ s

theorem afterSlot_readsOn (l : LineId) (s : State) : s.ReadsOn (afterSlot l s) :=
  .ite (fun _ => becomeStopped_readsOn l s) fun _ => .ite (fun _ => endCycle_readsOn l s) fun _ =>
    .ite (fun _ => .refl s) fun _ => reachSlots_readsOn l _ s

theorem endSlot_readsOn (l : LineId) (result : SlotResult) (s : State) : s.ReadsOn (endSlot l result s) := by
  unfold endSlot
  split
  · exact .refl s
  · exact (recordSlot_readsOn l _ none s _).trans ((passSlot_readsOn l _).trans (afterSlot_readsOn l _))

/-- A read that ended in an error brings no read number back. -/
theorem readEnded_none_readsOn (r : HostRead) (s : State) : s.ReadsOn (readEnded r none s) := by
  obtain ⟨id, reader, a, n⟩ := r
  cases reader with
  | context =>
    refine .ite (fun _ => .ite (fun _ => ?_) fun _ => ?_) fun _ => .refl s
    all_goals exact .of_same rfl rfl
  | request l => exact .ite (fun _ => (s.updLine_readsOn l _).trans (raiseEvent_reports _ _).readsOn) fun _ => .refl s
  | descriptor l =>
    exact .ite (fun _ => ((s.updLine_readsOn l _).trans (raiseEvent_reports _ _).readsOn).trans (settle_readsOn l _)) fun _ => .refl s
  | payload l =>
    unfold readEnded payloadEnded
    dsimp only
    split
    · exact .ite (fun _ => finishEntry_readsOn l _ _ _ s) fun _ => finishEntry_readsOn l _ _ _ s
    · exact .refl s
  | parameters l =>
    unfold readEnded parametersEnded
    dsimp only
    split
    · split
      · exact .trans (.ite (fun _ => finishConfig_readsOn l _ _ _ s) fun _ => finishConfig_readsOn l _ _ _ s) (settle_readsOn l _)
      · exact .refl s
    · exact .refl s
  | slotTable l =>
    unfold readEnded slotTableEnded
    dsimp only
    split
    · next i e _ =>
      have hend : endTableRead l i e none s = finishEntry l i e ⟨.badAddress, 0, false, false⟩ (setInactiveState l .empty s) := by
        cases he : e.body <;> simp [endTableRead, he]
      rw [hend]
      exact (s.updLine_readsOn l _).trans (finishEntry_readsOn l _ _ _ _)
    · exact .refl s
  | slotOutput l => exact .ite (fun _ => endSlot_readsOn l _ s) fun _ => .refl s

/-- Settles O29: a timeout and an error are the same end of the read, and the read has then ended for good. -/
theorem timedOutReadIsAReadError : Obligations.TimedOutReadIsAReadError := by
  intro id r s hr hid
  refine ⟨readEnded r none (s.endRead id), ?_, ?_, fun result => ?_⟩
  · change execHostReadTimeout id s = _
    rw [execHostReadTimeout, hr]
  · rw [exec_done, finishRead_of_found hr rfl]
    rfl
  · have hgone : (readEnded r none (s.endRead id)).findRead id = none :=
      (readEnded_none_readsOn r (s.endRead id)).findRead hid (s.findRead_endRead id)
    rw [exec_done, finishRead, hgone]

/-! ## Payload reads and holdoff (R65, R69, R76, R116) -/

/-- An out payload read that ends finds the entry it was issued for (R65). -/
theorem payloadEnded_of_first {l : LineId} {id i : Nat} {e : Entry} {s : State}
    (h : (s.line l).FirstEntry (fun e => e.isDoing (.payloadRead id)) i e) (data : Option (List Byte)) :
    payloadEnded l id data s = endPayloadRead l i e data s := by
  rw [payloadEnded, Line.findEntry_eq_some.mpr h]

/-- Settles O36: each read that ends finds what waited for it, and a holdoff expiry its entry. -/
theorem outDataReadAndHoldoffExpiry : Obligations.OutDataReadAndHoldoffExpiry := by
  refine ⟨fun l id i n e a d s hd => ⟨fun hr hfirst => ?_, fun hr hstage => ?_⟩, fun l i e timer s hfirst _ => ?_⟩
  · have ended (result : ReadResult) : exec (.payloadReadDone l id result) s =
        .next (endPayloadRead l i e (HostRead.data ⟨id, .payload l, a, n⟩ result) (s.endRead id)) := by
      rw [show Instr.payloadReadDone l id result = (Reader.payload l).done id result from rfl, exec_done, finishRead_of_found hr rfl]
      exact congrArg _ (payloadEnded_of_first (by simpa using hfirst) _)
    refine ⟨fun hm => ⟨?_, ?_⟩, fun hm result => ?_⟩
    · rw [ended, HostRead.data_of_length hd]
      simp [endPayloadRead, hm, putEntry]
    · rw [ended]
      simp [endPayloadRead, hm, HostRead.data]
    · rw [ended]
      simp [endPayloadRead, hm]
  · have ended (result : ReadResult) : exec (.slotOutputReadDone l id result) s =
        .next (slotOutputEnded l id (HostRead.data ⟨id, .slotOutput l, a, n⟩ result) (s.endRead id)) := by
      rw [show Instr.slotOutputReadDone l id result = (Reader.slotOutput l).done id result from rfl, exec_done, finishRead_of_found hr rfl]
      rfl
    constructor
    · rw [ended, HostRead.data_of_length hd]
      simp [slotOutputEnded, hstage, updEngine]
    · rw [ended]
      simp [slotOutputEnded, hstage, HostRead.data]
  · change execHoldoffExpiry l e.ringIndex s = _
    have hfound := Line.findEntry_eq_some.mpr hfirst
    unfold execHoldoffExpiry
    split
    · next heq =>
      cases hfound.symm.trans heq
      rfl
    · next heq => cases hfound.symm.trans heq

/-! ## The register window (R97, R169 to R171) -/

theorem runStateCode_lt (r : RunState) : runStateCode r < 5 := by cases r <;> decide

theorem faultCode_lt (c : FaultCode) : faultCode c < 10 := by cases c <;> decide

/-- What each register reads as (R169). -/
theorem readRegister_toNat (s : State) :
    (s.readRegister .ident).toNat = 0x02200001 ∧
      (s.readRegister .dctl).toNat = (if s.run = .starting ∨ s.run = .running ∨ s.run = .fault then 1 else 0) ∧
      (s.readRegister .dstat).toNat = runStateCode s.run + 256 * lineStateCode s.line0.state + 4096 * lineStateCode s.line1.state ∧
      (s.faultInfo.detail < 256 → s.faultInfo.line ≤ 1 →
        (s.readRegister .faultinfo).toNat = faultCode s.faultInfo.code + 256 * s.faultInfo.detail + 65536 * s.faultInfo.line) ∧
      (s.readRegister .irqpend).toNat =
        (if s.vector0.pending then 1 else 0) + (if s.vector1.pending then 2 else 0) + (if s.vector2.pending then 4 else 0) := by
  refine ⟨rfl, ?_, ?_, fun hd hl => ?_, ?_⟩
  · cases h : s.run <;> simp [State.readRegister, RunState.enableReads, bitNat, h]
  · have hrun := runStateCode_lt s.run
    have h0 := lineStateCode_lt s.line0.state
    have h1 := lineStateCode_lt s.line1.state
    simp only [State.readRegister, BitVec.toNat_ofNat]
    omega
  · have hcode := faultCode_lt s.faultInfo.code
    simp only [State.readRegister, BitVec.toNat_ofNat]
    omega
  · cases h0 : s.vector0.pending <;> cases h1 : s.vector1.pending <;> cases h2 : s.vector2.pending <;>
      simp [State.readRegister, bitNat, h0, h1, h2]

/-- The bits of IRQPEND are the pending flags (R97). -/
theorem readRegister_irqpend_bits (s : State) :
    (s.readRegister .irqpend).getLsbD 0 = s.vector0.pending ∧ (s.readRegister .irqpend).getLsbD 1 = s.vector1.pending ∧
      (s.readRegister .irqpend).getLsbD 2 = s.vector2.pending := by
  cases h0 : s.vector0.pending <;> cases h1 : s.vector1.pending <;> cases h2 : s.vector2.pending <;>
    simp [State.readRegister, bitNat, h0, h1, h2]

/-- An acknowledge, in one equation (R97, R98). -/
theorem acknowledge_eq (w0 w1 w2 : Bool) (s : State) :
    acknowledge w0 w1 w2 s = { s with
      vector0 := s.vector0.acknowledge w0
      vector1 := s.vector1.acknowledge w1
      vector2 := s.vector2.acknowledge w2
      port := s.port ++ if s.context.level && s.anyPending &&
        !((s.vector0.acknowledge w0).pending || (s.vector1.acknowledge w1).pending || (s.vector2.acknowledge w2).pending) then
          [.level false] else [] } := by
  unfold acknowledge State.issueInactive State.interruptLine
  cases hl : s.context.level
  · simp
  · simp only [Bool.true_and, State.anyPending]
    split <;> simp [State.issue]

/-- The ring a NOTIFY names (R171). -/
theorem decodeNotify_spec (value : Word) :
    let ring := value.toNat / 65536 % 8
    let index := BitVec.ofNat 16 value.toNat
    (ring = 0 → decodeNotify value = .notifyEventConsumer index) ∧ (ring = 1 → decodeNotify value = .notifyRequestProducer .line0 index) ∧
      (ring = 2 → decodeNotify value = .notifyCompletionConsumer .line0 index) ∧
      (ring = 3 → decodeNotify value = .notifyBufferProducer .line0 index) ∧
      (ring = 4 → decodeNotify value = .notifyRequestProducer .line1 index) ∧
      (ring = 5 → decodeNotify value = .notifyCompletionConsumer .line1 index) ∧
      (ring = 6 → decodeNotify value = .notifyBufferProducer .line1 index) ∧ (ring = 7 → decodeNotify value = .notifyRingId7 index) := by
  have hindex : (value.setWidth 16 : Half) = BitVec.ofNat 16 value.toNat := by
    apply BitVec.eq_of_toNat_eq
    simp
  refine ⟨?_, ?_, ?_, ?_, ?_, ?_, ?_, ?_⟩
  all_goals
    intro h
    simp only [decodeNotify, h, hindex]

/-- No register stands at an offset of 32 or more, nor at one that is not a multiple of 4 (spec/11, Registers). -/
theorem decodeRegisterWrite_eq_none {offset : Nat} (h : 0x20 ≤ offset ∨ offset % 4 ≠ 0) (value : Word) :
    decodeRegisterWrite offset value = none := by
  unfold decodeRegisterWrite
  split
  case h_9 => rfl
  all_goals exact absurd h (by decide)

/-- Settles O27: reads and acknowledges by the equations above, writes by their register and the run state, and the decoding by offset. -/
theorem registerWritesActByTheirRegister : Obligations.RegisterWritesActByTheirRegister := by
  refine ⟨?acknowledges, fun value s => ?writes, fun s => ?reads, fun value => ?decodes⟩
  case acknowledges =>
    intro w s cleared
    refine ⟨readRegister_irqpend_bits s, acknowledge (w .vector0) (w .vector1) (w .vector2) s, rfl, fun v => ?_, ?_⟩
    · rw [acknowledge_eq]
      cases v <;> rfl
    · rw [acknowledge_eq]
      rfl
  case writes =>
    refine ⟨fun h => ?_, fun h => ?_, fun r h => ?_⟩
    · obtain h | h := h <;> constructor <;> simp only [exec, execRegisterWrite, h]
    · obtain h | h | h := h <;> constructor <;> simp only [exec, execRegisterWrite, h]
    · change execRegisterWrite r value s = _
      obtain rfl | rfl | rfl := h <;> rfl
  case reads =>
    obtain ⟨hident, hdctl, hdstat, hfault, hirqpend⟩ := readRegister_toNat s
    exact ⟨hident, hdctl, hdstat, hfault, rfl, rfl, rfl, hirqpend, rfl, rfl⟩
  case decodes =>
    obtain ⟨h0, h1, h2, h3, h4, h5, h6, h7⟩ := decodeNotify_spec value
    refine ⟨fun h => congrArg some (h0 h), fun h => congrArg some (h1 h), fun h => congrArg some (h2 h), fun h => congrArg some (h3 h),
      fun h => congrArg some (h4 h), fun h => congrArg some (h5 h), fun h => congrArg some (h6 h), fun h => congrArg some (h7 h),
      fun h => ?_, fun h1 h0 => ?_, fun h1 h0 => ?_, rfl, rfl, rfl, rfl, rfl, rfl, fun offset h => decodeRegisterWrite_eq_none h value⟩
    · exact congrArg some (if_pos h)
    · exact congrArg some (by simp only [decodeDctl, h1, h0]; rfl)
    · exact congrArg some (by simp only [decodeDctl, h1, h0]; rfl)

end Sys2Proof.Machine
end

section
/-! PROOFS. What a command issues: the writes behind what stood, the events raised, and the completions written, composed step by step. -/

set_option Elab.async false

namespace Sys2Proof.Machine

/-! ## The writes behind what stood (R181) -/

/-- From `s` to `t` the host port issued these writes and, between them, interrupts only. -/
def State.Wrote (s t : State) (ws : List PortOp) : Prop := ∃ ops, t.port = s.port ++ ops ∧ ops.filter PortOp.isWrite = ws

theorem State.Wrote.newWrites {s t : State} {ws : List PortOp} (h : s.Wrote t ws) : s.newWrites t = ws := by
  obtain ⟨ops, hport, rfl⟩ := h
  rw [State.newWrites, hport, List.drop_left]

theorem State.Wrote.port {s t : State} {ws : List PortOp} (h : s.Wrote t ws) : s.port <+: t.port := by
  obtain ⟨ops, hport, -⟩ := h
  exact ⟨ops, hport.symm⟩

/-- Whatever was issued behind `s`, the writes among it are the new writes. -/
theorem State.Wrote.of_port {s t : State} (h : s.port <+: t.port) : s.Wrote t (s.newWrites t) := by
  obtain ⟨ops, hops⟩ := h
  exact ⟨ops, hops.symm, by rw [State.newWrites, ← hops, List.drop_left]⟩

theorem State.Wrote.of_port_eq {s t : State} (h : t.port = s.port) : s.Wrote t [] := ⟨[], by rw [h, List.append_nil], rfl⟩

theorem State.Wrote.refl (s : State) : s.Wrote s [] := .of_port_eq rfl

theorem State.Wrote.trans {s t u : State} {ws vs : List PortOp} (h : s.Wrote t ws) (k : t.Wrote u vs) : s.Wrote u (ws ++ vs) := by
  obtain ⟨ops, hops, rfl⟩ := h
  obtain ⟨more, hmore, rfl⟩ := k
  exact ⟨ops ++ more, by rw [hmore, hops, List.append_assoc], List.filter_append ..⟩

theorem State.newWrites_trans {s t u : State} (h : s.port <+: t.port) (k : t.port <+: u.port) :
    s.newWrites u = s.newWrites t ++ t.newWrites u := ((Wrote.of_port h).trans (.of_port k)).newWrites

theorem State.updLine_wrote (s : State) (l : LineId) (f : Line → Line) : s.Wrote (s.updLine l f) [] := .of_port_eq (by simp)

theorem State.hostWrite_wrote (s : State) (a : Addr) (d : List Byte) : s.Wrote (s.hostWrite a d) [.write a d] := ⟨_, rfl, rfl⟩

theorem State.issueRead_wrote (s : State) (reader : Reader) (a : Addr) (n : Nat) : s.Wrote (s.issueRead reader a n) [] := .of_port_eq rfl

/-- Raising a vector issues an interrupt, and no write (R98). -/
theorem raiseVector_wrote (v : VectorId) (s : State) : s.Wrote (raiseVector v s) [] := by
  refine ⟨_, by rw [raiseVector_eq], ?_⟩
  cases s.context.level <;> cases s.anyPending <;> rfl

theorem countRecord_wrote (v : VectorId) (s : State) : s.Wrote (countRecord v s) [] := by
  unfold countRecord
  dsimp only
  split
  · exact .of_port_eq (by simp)
  · split
    · exact State.Wrote.trans (ws := []) (.of_port_eq (by simp)) (raiseVector_wrote v _)
    · exact .of_port_eq (by simp)

theorem writeEvent_wrote (q : Half) (e : Event) (s : State) : s.Wrote (writeEvent q e s) [s.eventWrite e q] :=
  State.Wrote.trans (t := s.eventWritten q e) (vs := []) ⟨_, rfl, rfl⟩ (countRecord_wrote .vector0 _)

theorem complete_wrote (l : LineId) (c : Completion) (s : State) : s.Wrote (complete l c s) [s.completionWrite l c] := by
  rw [complete_eq_countRecord]
  exact State.Wrote.trans (vs := []) ⟨[s.completionWrite l c], by simp [State.completionWritten], rfl⟩ (countRecord_wrote _ _)

theorem finishEntry_wrote (l : LineId) (i : Nat) (e : Entry) (how : Ending) (s : State) :
    s.Wrote (finishEntry l i e how s) [s.completionWrite l (e.completion (s.line l) how)] := by
  rw [finishEntry_eq_complete]
  have h := complete_wrote l (e.completion (s.line l) how) (s.updLine l (fun x => { x with entries := x.entries.eraseIdx i }))
  rw [s.completionWrite_updLine_entries l (fun es => es.eraseIdx i)] at h
  exact (s.updLine_wrote l _).trans h

/-- The write of a line's cycle record, with the engine as it stands (R121). -/
def State.cycleRecordWrite (s : State) (l : LineId) (g : Engine) : PortOp :=
  .write (s.context.indexPage + BitVec.ofNat 64 (cycleRecordOffset l)) g.cycleRecord

theorem writeCycleRecord_wrote (l : LineId) (s : State) : s.Wrote (writeCycleRecord l s) [s.cycleRecordWrite l (s.line l).engine] :=
  s.hostWrite_wrote _ _

/-! ## The events raised (R90) -/

/-- What an event does to the event unit, and what it writes, is decided by the event unit and the context alone. -/
theorem raiseEvent_congr (e : Event) {s t : State} (hevents : t.events = s.events) (hcontext : t.context = s.context) :
    (raiseEvent e t).events = (raiseEvent e s).events ∧ t.newWrites (raiseEvent e t) = s.newWrites (raiseEvent e s) := by
  by_cases h : s.WritesAtOnce
  · have ht : t.WritesAtOnce := by rwa [State.WritesAtOnce, hevents, hcontext]
    have hwrote (u : State) : u.newWrites (writeEvent u.events.sequence e u.numberTaken) = [u.eventWrite e u.events.sequence] :=
      (State.Wrote.trans (.of_port_eq (t := u.numberTaken) rfl) (writeEvent_wrote _ e u.numberTaken)).newWrites
    rw [raiseEvent_of_writesAtOnce e h, raiseEvent_of_writesAtOnce e ht, hwrote, hwrote]
    simp [State.numberTaken, State.eventWrite, hevents, hcontext]
  · have ht : ¬t.WritesAtOnce := by rwa [State.WritesAtOnce, hevents, hcontext]
    have hno {u v : State} (hport : v.port = u.port) : u.newWrites v = [] := (State.Wrote.of_port_eq hport).newWrites
    by_cases hroom : s.events.backlog.length < 16
    · rw [raiseEvent_of_room e h hroom, raiseEvent_of_room e ht (by rwa [hevents])]
      exact ⟨by simp [hevents], (hno rfl).trans (hno rfl).symm⟩
    · rw [raiseEvent_of_full e h (Nat.not_lt.mp hroom), raiseEvent_of_full e ht (by rw [hevents]; exact Nat.not_lt.mp hroom)]
      exact ⟨by simp [hevents], (hno rfl).trans (hno rfl).symm⟩

theorem raiseAll_cons (e : Event) (es : List Event) (s : State) : raiseAll (e :: es) s = raiseAll es (raiseEvent e s) := rfl

theorem raiseAll_append (es fs : List Event) (s : State) : raiseAll (es ++ fs) s = raiseAll fs (raiseAll es s) := List.foldl_append ..

theorem raiseAll_reports (es : List Event) (s : State) : s.Reports (raiseAll es s) := by
  induction es generalizing s with
  | nil => exact .refl s
  | cons e es ih => exact (raiseEvent_reports e s).trans (ih _)

theorem raiseAll_congr (es : List Event) {s t : State} (hevents : t.events = s.events) (hcontext : t.context = s.context) :
    (raiseAll es t).events = (raiseAll es s).events ∧ t.newWrites (raiseAll es t) = s.newWrites (raiseAll es s) := by
  induction es generalizing s t with
  | nil =>
    have hself (u : State) : u.newWrites u = [] := (State.Wrote.refl u).newWrites
    exact ⟨hevents, by rw [raiseAll, raiseAll, List.foldl_nil, List.foldl_nil, hself, hself]⟩
  | cons e es ih =>
    obtain ⟨hfirst, hwrites⟩ := raiseEvent_congr e hevents hcontext
    have hctx : (raiseEvent e t).context = (raiseEvent e s).context := by
      rw [(raiseEvent_reports e t).context_eq, (raiseEvent_reports e s).context_eq, hcontext]
    obtain ⟨hlater, hmore⟩ := ih hfirst hctx
    refine ⟨hlater, ?_⟩
    rw [raiseAll_cons, raiseAll_cons, State.newWrites_trans (raiseEvent_reports e t).port (raiseAll_reports es _).port,
      State.newWrites_trans (raiseEvent_reports e s).port (raiseAll_reports es _).port, hwrites, hmore]

theorem State.Raises.of_events {s t : State} (h : t.events = s.events) : s.Raises t [] := by
  refine ⟨h, ?_⟩
  rw [raiseAll, List.foldl_nil, (State.Wrote.refl s).newWrites]
  exact List.nil_sublist _

theorem raiseAll_raises (es : List Event) (s : State) : s.Raises (raiseAll es s) es := ⟨rfl, List.Sublist.refl _⟩

theorem raiseEvent_raises (e : Event) (s : State) : s.Raises (raiseEvent e s) [e] := raiseAll_raises [e] s

theorem State.Raises.trans {s t u : State} {es fs : List Event} (h : s.Raises t es) (k : t.Raises u fs) (hcontext : t.context = s.context)
    (hst : s.port <+: t.port) (htu : t.port <+: u.port) : s.Raises u (es ++ fs) := by
  obtain ⟨hevents, hwrites⟩ := h
  obtain ⟨kevents, kwrites⟩ := k
  obtain ⟨hcevents, hcwrites⟩ := raiseAll_congr fs hevents (by rw [hcontext, (raiseAll_reports es s).context_eq])
  refine ⟨?_, ?_⟩
  · rw [kevents, raiseAll_append, hcevents]
  · rw [raiseAll_append, State.newWrites_trans (raiseAll_reports es s).port (raiseAll_reports fs _).port, ← hcwrites,
      State.newWrites_trans hst htu]
    exact hwrites.append kwrites

/-! ## The completions written (R80) -/

theorem State.completionWrites_congr {s t : State} (h : t.context = s.context) (l : LineId) (i : Half) (cs : List Completion) :
    t.completionWrites l i cs = s.completionWrites l i cs := by
  induction cs generalizing i with
  | nil => rfl
  | cons c cs ih => simp only [State.completionWrites, ih, h]

theorem State.completionWrites_append (s : State) (l : LineId) (i : Half) (cs ds : List Completion) :
    s.completionWrites l i (cs ++ ds) = s.completionWrites l i cs ++ s.completionWrites l (i + BitVec.ofNat 16 cs.length) ds := by
  induction cs generalizing i with
  | nil => simp [State.completionWrites]
  | cons c cs ih =>
    have hi : i + 1 + BitVec.ofNat 16 cs.length = i + BitVec.ofNat 16 (c :: cs).length := by
      rw [List.length_cons, BitVec.ofNat_add, BitVec.add_comm (BitVec.ofNat 16 cs.length), BitVec.add_assoc]
      rfl
    simp only [List.cons_append, State.completionWrites, ih, hi]

theorem State.completionWrites_singleton (s : State) (l : LineId) (c : Completion) :
    s.completionWrites l (s.line l).completion.producer [c] = [s.completionWrite l c] := rfl

theorem State.Completes.trans {s t u : State} {l : LineId} {cs ds : List Completion} (h : s.Completes t l cs) (k : t.Completes u l ds)
    (hcontext : t.context = s.context) (hst : s.port <+: t.port) (htu : t.port <+: u.port) : s.Completes u l (cs ++ ds) := by
  obtain ⟨hproducer, hwrites⟩ := h
  obtain ⟨kproducer, kwrites⟩ := k
  refine ⟨?_, ?_⟩
  · rw [kproducer, hproducer, List.length_append, BitVec.ofNat_add, BitVec.add_assoc]
  · rw [State.completionWrites_append, State.newWrites_trans hst htu, ← hproducer, ← State.completionWrites_congr hcontext l _ ds]
    exact hwrites.append kwrites

/-- The completion of an entry depends on the station records of its line alone (R77). -/
theorem Entry.completion_congr (e : Entry) {x y : Line} (h : y.stations = x.stations) (how : Ending) :
    e.completion y how = e.completion x how := by
  simp only [Entry.completion, Line.reportedState, Line.station, h]

/-! ## One command's part: a line touched, events raised, completions written -/

/-- From `s` to `t` only line `l` may have changed, these events were raised and these completions of the line written. -/
structure State.Acts (l : LineId) (s t : State) (es : List Event) (cs : List Completion) : Prop where
  touches : State.Touches l s t
  raises : s.Raises t es
  completes : s.Completes t l cs

section
variable {l : LineId} {s t u : State} {es fs : List Event} {cs ds : List Completion}

theorem State.Acts.trans (h : State.Acts l s t es cs) (k : State.Acts l t u fs ds) : State.Acts l s u (es ++ fs) (cs ++ ds) :=
  ⟨h.touches.trans k.touches, h.raises.trans k.raises h.touches.context_eq h.touches.port k.touches.port,
    h.completes.trans k.completes h.touches.context_eq h.touches.port k.touches.port⟩

/-- A part that raises nothing and completes nothing. -/
theorem State.Acts.of_touches (h : State.Touches l s t) (hevents : t.events = s.events)
    (hproducer : (t.line l).completion.producer = (s.line l).completion.producer) : State.Acts l s t [] [] :=
  ⟨h, .of_events hevents, by simpa [State.Completes, State.completionWrites] using hproducer⟩

theorem State.Acts.refl (l : LineId) (s : State) : State.Acts l s s [] [] := .of_touches (.refl l s) rfl rfl

theorem State.updLine_acts {f : Line → Line} (h : (f (s.line l)).completion.producer = (s.line l).completion.producer) :
    State.Acts l s (s.updLine l f) [] [] :=
  .of_touches (s.updLine_touches l f) (by simp) (by rw [State.updLine_line_same, h])

/-- A change of the line behind a part, with the completion writer as it was. -/
theorem State.Acts.updLine (h : State.Acts l s t es cs) {f : Line → Line}
    (hf : (f (t.line l)).completion.producer = (t.line l).completion.producer) : State.Acts l s (t.updLine l f) es cs := by
  simpa using h.trans (State.updLine_acts hf)

/-- A part that only reports, and raises nothing. -/
theorem State.Reports.acts (h : s.Reports t) (hevents : t.events = s.events) : State.Acts l s t [] [] :=
  .of_touches (h.touches l) hevents (by rw [h.line l])

theorem raiseEvent_acts (l : LineId) (e : Event) (s : State) : State.Acts l s (raiseEvent e s) [e] [] :=
  ⟨(raiseEvent_reports e s).touches l, raiseEvent_raises e s, by simp [State.Completes, State.completionWrites, (raiseEvent_reports e s).line l]⟩

theorem raiseAll_acts (l : LineId) (es : List Event) (s : State) : State.Acts l s (raiseAll es s) es [] :=
  ⟨(raiseAll_reports es s).touches l, raiseAll_raises es s, by simp [State.Completes, State.completionWrites, (raiseAll_reports es s).line l]⟩

theorem writeCycleRecord_acts (l : LineId) (s : State) : State.Acts l s (writeCycleRecord l s) [] [] :=
  (writeCycleRecord_reports l s).acts rfl

theorem complete_acts (l : LineId) (c : Completion) (s : State) : State.Acts l s (complete l c s) [] [c] :=
  ⟨complete_touches l c s, .of_events (complete_events l c s), complete_producer l c s,
    by rw [(complete_wrote l c s).newWrites]; exact List.Sublist.refl _⟩

theorem finishEntry_acts (l : LineId) (i : Nat) (e : Entry) (how : Ending) (s : State) :
    State.Acts l s (finishEntry l i e how s) [] [e.completion (s.line l) how] := by
  rw [finishEntry_eq_complete]
  exact (State.updLine_acts rfl).trans (complete_acts l _ _)

/-- Several entries completed in turn, each with the station state as the records stand. -/
theorem foldl_completeEntry_acts (l : LineId) (how : Entry → Ending) (es : List Entry) (s : State) :
    State.Acts l s (es.foldl (fun s e => completeEntry l (how e) s e) s) [] (es.map (fun e => e.completion (s.line l) (how e))) := by
  induction es generalizing s with
  | nil => exact .refl l s
  | cons e es ih =>
    have hrest : es.map (fun e' => e'.completion ((completeEntry l (how e) s e).line l) (how e')) =
        es.map (fun e' => e'.completion (s.line l) (how e')) :=
      List.map_congr_left fun e' _ => e'.completion_congr (complete_stations l _ s) (how e')
    exact (complete_acts l _ s).trans (hrest ▸ ih _)

theorem finishAll_acts (l : LineId) (p : Entry → Bool) (how : Entry → Ending) (s : State) :
    State.Acts l s (finishAll l p how s) [] (((s.line l).entries.filter p).map (fun e => e.completion (s.line l) (how e))) := by
  have h := foldl_completeEntry_acts l how ((s.line l).entries.filter p)
    (s.updLine l (fun x => { x with entries := x.entries.filter (fun e => !p e) }))
  rw [State.updLine_line_same] at h
  exact (State.updLine_acts rfl).trans h

end

/-! ## Reports and changes of a line commute -/

theorem State.updLine_setVector (s : State) (v : VectorId) (x : VectorState) (l : LineId) (f : Line → Line) :
    (s.updLine l f).setVector v x = (s.setVector v x).updLine l f := by cases v <;> cases l <;> rfl

theorem State.updLine_issue (s : State) (op : PortOp) (l : LineId) (f : Line → Line) :
    (s.updLine l f).issue op = (s.issue op).updLine l f := by cases l <;> rfl

theorem State.updLine_hostWrite (s : State) (a : Addr) (d : List Byte) (l : LineId) (f : Line → Line) :
    (s.updLine l f).hostWrite a d = (s.hostWrite a d).updLine l f := s.updLine_issue _ l f

theorem State.updLine_withEvents (s : State) (u : EventUnit) (l : LineId) (f : Line → Line) :
    { s.updLine l f with events := u } = ({ s with events := u } : State).updLine l f := by cases l <;> rfl

theorem raiseVector_updLine (v : VectorId) (s : State) (l : LineId) (f : Line → Line) :
    raiseVector v (s.updLine l f) = (raiseVector v s).updLine l f := by
  have hpending : (s.updLine l f).anyPending = s.anyPending := by cases l <;> rfl
  unfold raiseVector State.issueInterrupt
  rw [State.updLine_context, State.updLine_vector, hpending]
  split
  · split
    · exact s.updLine_setVector v _ l f
    · rw [State.updLine_issue, State.updLine_setVector]
  · rw [State.updLine_issue, State.updLine_setVector]

theorem countRecord_updLine (v : VectorId) (s : State) (l : LineId) (f : Line → Line) :
    countRecord v (s.updLine l f) = (countRecord v s).updLine l f := by
  unfold countRecord
  dsimp only
  rw [State.updLine_context, State.updLine_vector]
  split
  · exact s.updLine_setVector v _ l f
  · split
    · rw [State.updLine_setVector, raiseVector_updLine]
    · exact s.updLine_setVector v _ l f

theorem writeEvent_updLine (q : Half) (e : Event) (s : State) (l : LineId) (f : Line → Line) :
    writeEvent q e (s.updLine l f) = (writeEvent q e s).updLine l f := by
  rw [writeEvent_eq_countRecord, writeEvent_eq_countRecord, ← countRecord_updLine]
  refine congrArg _ ?_
  cases l <;> rfl

theorem raiseEvent_updLine (e : Event) (s : State) (l : LineId) (f : Line → Line) :
    raiseEvent e (s.updLine l f) = (raiseEvent e s).updLine l f := by
  have hroom : (s.updLine l f).eventRoom = s.eventRoom := by cases l <;> rfl
  unfold raiseEvent
  dsimp only
  rw [hroom, State.updLine_events]
  split
  · rw [State.updLine_withEvents, writeEvent_updLine]
  · split <;> rw [State.updLine_withEvents]

theorem raiseAll_updLine (es : List Event) (s : State) (l : LineId) (f : Line → Line) :
    raiseAll es (s.updLine l f) = (raiseAll es s).updLine l f := by
  induction es generalizing s with
  | nil => rfl
  | cons e es ih => rw [raiseAll_cons, raiseEvent_updLine, ih, raiseAll_cons]

/-! ## What a report adds is decided by what has been reported (R90, R96) -/

/-- `t` agrees with `s` in all that a report looks at: the event unit, the vectors, the context and what the port has issued. -/
structure State.SameOut (s t : State) : Prop where
  events : t.events = s.events
  context : t.context = s.context
  vector0 : t.vector0 = s.vector0
  vector1 : t.vector1 = s.vector1
  vector2 : t.vector2 = s.vector2
  port : t.port = s.port

theorem State.SameOut.vector {s t : State} (h : s.SameOut t) (v : VectorId) : t.vector v = s.vector v := by
  cases v
  · exact h.vector0
  · exact h.vector1
  · exact h.vector2

theorem State.SameOut.trans {s t u : State} (h : s.SameOut t) (k : t.SameOut u) : s.SameOut u :=
  ⟨k.events.trans h.events, k.context.trans h.context, k.vector0.trans h.vector0, k.vector1.trans h.vector1, k.vector2.trans h.vector2,
    k.port.trans h.port⟩

theorem State.sameOut_updLine (s : State) (l : LineId) (f : Line → Line) : s.SameOut (s.updLine l f) := by
  constructor <;> simp

theorem State.sameOut_endRead (s : State) (id : Nat) : s.SameOut (s.endRead id) := ⟨rfl, rfl, rfl, rfl, rfl, rfl⟩

theorem State.SameOut.setVector {s t : State} (h : s.SameOut t) (v : VectorId) (x : VectorState) : (s.setVector v x).SameOut (t.setVector v x) := by
  obtain ⟨hevents, hcontext, h0, h1, h2, hport⟩ := h
  cases v
  · exact ⟨hevents, hcontext, rfl, h1, h2, hport⟩
  · exact ⟨hevents, hcontext, h0, rfl, h2, hport⟩
  · exact ⟨hevents, hcontext, h0, h1, rfl, hport⟩

theorem State.SameOut.issue {s t : State} (h : s.SameOut t) (op : PortOp) : (s.issue op).SameOut (t.issue op) :=
  ⟨h.events, h.context, h.vector0, h.vector1, h.vector2, by rw [State.issue_port, State.issue_port, h.port]⟩

theorem State.SameOut.withEvents {s t : State} (h : s.SameOut t) (u : EventUnit) :
    ({ s with events := u } : State).SameOut { t with events := u } :=
  ⟨rfl, h.context, h.vector0, h.vector1, h.vector2, h.port⟩

theorem State.SameOut.raiseVector {s t : State} (h : s.SameOut t) (v : VectorId) : (raiseVector v s).SameOut (raiseVector v t) := by
  have hpending : t.anyPending = s.anyPending := by rw [State.anyPending, State.anyPending, h.vector0, h.vector1, h.vector2]
  unfold Machine.raiseVector State.issueInterrupt
  rw [h.context, hpending, h.vector]
  split
  · split
    · exact h.setVector v _
    · exact (h.issue _).setVector v _
  · exact (h.issue _).setVector v _

theorem State.SameOut.countRecord {s t : State} (h : s.SameOut t) (v : VectorId) : (countRecord v s).SameOut (countRecord v t) := by
  unfold Machine.countRecord
  dsimp only
  rw [h.context, h.vector]
  split
  · exact h.setVector v _
  · split
    · exact (h.setVector v _).raiseVector v
    · exact h.setVector v _

theorem State.SameOut.writeEvent {s t : State} (h : s.SameOut t) (q : Half) (e : Event) : (writeEvent q e s).SameOut (writeEvent q e t) := by
  have hwrite : t.eventWrite e q = s.eventWrite e q := by rw [State.eventWrite, State.eventWrite, h.events, h.context]
  rw [writeEvent_eq_countRecord, writeEvent_eq_countRecord, State.eventWritten, State.eventWritten, hwrite, h.events]
  exact ((h.issue _).withEvents _).countRecord .vector0

theorem State.SameOut.raiseEvent {s t : State} (h : s.SameOut t) (e : Event) : (raiseEvent e s).SameOut (raiseEvent e t) := by
  have hroom : t.eventRoom = s.eventRoom := by rw [State.eventRoom, State.eventRoom, h.events, h.context]
  unfold Machine.raiseEvent
  dsimp only
  rw [hroom, h.events]
  split
  · exact (h.withEvents _).writeEvent _ e
  · split <;> exact h.withEvents _

theorem State.SameOut.raiseAll {s t : State} (h : s.SameOut t) (es : List Event) : (raiseAll es s).SameOut (raiseAll es t) := by
  induction es generalizing s t with
  | nil => exact h
  | cons e es ih => exact ih (h.raiseEvent e)

end Sys2Proof.Machine
end

section
/-! PROOFS. The start of a run, the drain of the event backlog, and the end of a stop. -/

set_option Elab.async false

namespace Sys2Proof.Machine

/-! ## Events written in turn into free entries (R90, R91) -/

/-- Several events written in turn, each with the sequence number it took. -/
def writeRecords (ps : List (Half × Event)) (s : State) : State := ps.foldl (fun s p => writeEvent p.1 p.2 s) s

theorem writeRecords_reports (ps : List (Half × Event)) (s : State) : s.Reports (writeRecords ps s) := by
  induction ps generalizing s with
  | nil => exact .refl s
  | cons p ps ih => exact (writeEvent_reports p.1 p.2 s).trans (ih _)

/-- An index advanced once and then `n` times has advanced `n + 1` times. -/
theorem index_succ_add (i : Half) (n : Nat) : i + 1 + BitVec.ofNat 16 n = i + BitVec.ofNat 16 (n + 1) := by
  rw [BitVec.ofNat_add, BitVec.add_comm (BitVec.ofNat 16 n), BitVec.add_assoc]
  rfl

theorem writeRecords_events (ps : List (Half × Event)) (s : State) :
    (writeRecords ps s).events = { s.events with producer := s.events.producer + BitVec.ofNat 16 ps.length } := by
  induction ps generalizing s with
  | nil => simp [writeRecords]
  | cons p ps ih =>
    have h : (writeRecords (p :: ps) s).events = (writeRecords ps (writeEvent p.1 p.2 s)).events := rfl
    rw [h, ih, writeEvent_events, List.length_cons, ← index_succ_add]

theorem State.eventWrites_congr {s t : State} (h : t.context = s.context) (i : Half) (ps : List (Half × Event)) :
    t.eventWrites i ps = s.eventWrites i ps := by
  induction ps generalizing i with
  | nil => rfl
  | cons p ps ih => simp only [State.eventWrites, ih, h]

theorem State.eventWrites_append (s : State) (i : Half) (ps qs : List (Half × Event)) :
    s.eventWrites i (ps ++ qs) = s.eventWrites i ps ++ s.eventWrites (i + BitVec.ofNat 16 ps.length) qs := by
  induction ps generalizing i with
  | nil => simp [State.eventWrites]
  | cons p ps ih => simp only [List.cons_append, State.eventWrites, ih, List.length_cons, ← index_succ_add]

theorem writeRecords_wrote (ps : List (Half × Event)) (s : State) : s.Wrote (writeRecords ps s) (s.eventWrites s.events.producer ps) := by
  induction ps generalizing s with
  | nil => exact .refl s
  | cons p ps ih =>
    have hrest := ih (writeEvent p.1 p.2 s)
    rw [State.eventWrites_congr (writeEvent_reports p.1 p.2 s).context_eq, writeEvent_events] at hrest
    exact (writeEvent_wrote p.1 p.2 s).trans hrest

theorem writeRecords_unreported {ps : List (Half × Event)} (h : ps ≠ []) (s : State) :
    ((writeRecords ps s).vector .vector0).unreported = min 255 ((s.vector .vector0).unreported + ps.length) := by
  induction ps generalizing s with
  | nil => exact absurd rfl h
  | cons p ps ih =>
    have hstep : writeRecords (p :: ps) s = writeRecords ps (writeEvent p.1 p.2 s) := rfl
    have hone := writeEvent_unreported p.1 p.2 s
    by_cases hps : ps = []
    · rw [hstep, hps]
      exact hone
    · rw [hstep, ih hps, hone, List.length_cons]
      omega

theorem writeRecords_vector_ne (ps : List (Half × Event)) (s : State) {v : VectorId} (h : v ≠ .vector0) :
    (writeRecords ps s).vector v = s.vector v := by
  induction ps generalizing s with
  | nil => rfl
  | cons p ps ih =>
    have hstep : writeRecords (p :: ps) s = writeRecords ps (writeEvent p.1 p.2 s) := rfl
    rw [hstep, ih, writeEvent_vector_ne _ _ _ h]

/-! ## The drain of the backlog (R91) -/

/-- The entries of the event ring that are free (R89). -/
def State.freeEntries (s : State) : Nat := s.context.eventRing.size - 1 - (s.events.producer - s.events.consumer).toNat

theorem State.eventRoom_iff_freeEntries (s : State) : s.eventRoom = true ↔ 0 < s.freeEntries := by
  rw [State.eventRoom_iff, State.freeEntries]
  omega

/-- Each record written takes one free entry. -/
theorem writeRecords_freeEntries (ps : List (Half × Event)) {s : State} (hsize : s.context.eventRing.size ≤ 1024)
    (hroom : ps.length ≤ s.freeEntries) : (writeRecords ps s).freeEntries = s.freeEntries - ps.length := by
  have hunreleased : (s.events.producer + BitVec.ofNat 16 ps.length - s.events.consumer).toNat =
      if ps.length = 0 then (s.events.producer - s.events.consumer).toNat
      else (s.events.producer - s.events.consumer).toNat + ps.length := by
    have hswap : s.events.producer + BitVec.ofNat 16 ps.length - s.events.consumer =
        s.events.producer - s.events.consumer + BitVec.ofNat 16 ps.length := by
      rw [BitVec.sub_eq_add_neg, BitVec.sub_eq_add_neg, BitVec.add_assoc, BitVec.add_comm (BitVec.ofNat 16 _), BitVec.add_assoc]
    rw [State.freeEntries] at hroom
    rw [hswap, BitVec.toNat_add, BitVec.toNat_ofNat]
    split <;> omega
  rw [State.freeEntries, State.freeEntries, writeRecords_events, (writeRecords_reports ps s).context_eq, hunreleased]
  split <;> omega

/-- The backlog drains as far as there are free entries, oldest first. -/
theorem drainBacklog_eq (b : List (Half × Event)) {s : State} (hsize : s.context.eventRing.size ≤ 1024) :
    drainBacklog b s = { writeRecords (b.take s.freeEntries) s with
      events := { (writeRecords (b.take s.freeEntries) s).events with backlog := b.drop s.freeEntries } } := by
  induction b generalizing s with
  | nil => simp [drainBacklog, writeRecords]
  | cons p rest ih =>
    rw [drainBacklog]
    by_cases hroom : s.eventRoom = true
    · have hpos := s.eventRoom_iff_freeEntries.mp hroom
      have hfree : (writeEvent p.1 p.2 s).freeEntries = s.freeEntries - 1 := writeRecords_freeEntries [p] hsize hpos
      have hsize' : (writeEvent p.1 p.2 s).context.eventRing.size ≤ 1024 := by rwa [(writeEvent_reports p.1 p.2 s).context_eq]
      obtain ⟨k, hk⟩ := Nat.exists_eq_succ_of_ne_zero hpos.ne'
      rw [if_pos hroom, ih hsize', hfree, hk]
      rfl
    · have hzero : s.freeEntries = 0 := Nat.eq_zero_of_not_pos (mt s.eventRoom_iff_freeEntries.mpr hroom)
      rw [if_neg hroom, hzero]
      rfl

/-- Everything that the end of a drain discards and what it leaves (R178). -/
theorem endStop_fields (s : State) :
    (endStop s).run = .off ∧ (endStop s).line0 = Line.absent ∧ (endStop s).line1 = Line.absent ∧ (endStop s).events = EventUnit.fresh ∧
      (endStop s).vector0 = VectorState.fresh ∧ (endStop s).vector1 = VectorState.fresh ∧ (endStop s).vector2 = VectorState.fresh ∧
      (endStop s).drain = none ∧ (endStop s).faultInfo = s.faultInfo ∧ (endStop s).ctxLo = s.ctxLo ∧ (endStop s).ctxHi = s.ctxHi := by
  let u : State := { s with events := { s.events with backlog := [], lossCount := 0, firstLost := none } }
  let v := raiseUnreported .vector2 (raiseUnreported .vector1 (raiseUnreported .vector0 u))
  have h : s.Reports (clearVectors v) :=
    (s.reports_of_events _).trans ((raiseUnreported_reports .vector0 u).trans ((raiseUnreported_reports .vector1 _).trans
      ((raiseUnreported_reports .vector2 _).trans (clearVectors_reports v))))
  have hend : endStop s = (clearVectors v).discard := rfl
  have hfault : (clearVectors v).faultInfo = s.faultInfo := by rw [h.rest]
  have hlo : (clearVectors v).ctxLo = s.ctxLo := by rw [h.rest]
  have hhi : (clearVectors v).ctxHi = s.ctxHi := by rw [h.rest]
  rw [hend]
  exact ⟨rfl, rfl, rfl, rfl, rfl, rfl, rfl, rfl, hfault, hlo, hhi⟩

theorem raiseUnreported_wrote (v : VectorId) (s : State) : s.Wrote (raiseUnreported v s) [] := by
  unfold raiseUnreported
  split
  · exact raiseVector_wrote v s
  · exact .refl s

theorem clearVectors_wrote (s : State) : s.Wrote (clearVectors s) [] := by
  refine ⟨_, by rw [clearVectors_eq], ?_⟩
  split <;> rfl

/-- The end of a stop writes nothing (R178). -/
theorem endStop_wrote (s : State) : s.Wrote (endStop s) [] := by
  let u : State := { s with events := { s.events with backlog := [], lossCount := 0, firstLost := none } }
  let v := raiseUnreported .vector2 (raiseUnreported .vector1 (raiseUnreported .vector0 u))
  have h : u.Wrote (clearVectors v) [] := (raiseUnreported_wrote .vector0 u).trans ((raiseUnreported_wrote .vector1 _).trans
    ((raiseUnreported_wrote .vector2 _).trans (clearVectors_wrote v)))
  obtain ⟨ops, hops, hwrites⟩ := h
  exact ⟨ops, hops, hwrites⟩

/-- Whether the end of a stop raises a vector: it has unreported records and is not pending (R178). -/
def VectorState.isOwed (x : VectorState) : Bool := decide (x.unreported ≠ 0) && !x.pending

theorem raiseUnreported_port {v : VectorId} {s : State} (h : s.context.level = false) :
    (raiseUnreported v s).port = s.port ++ if (s.vector v).isOwed then [.message v] else [] := by
  have hiff : ((s.vector v).unreported ≠ 0 ∧ (s.vector v).pending = false) ↔ (s.vector v).isOwed = true := by simp [VectorState.isOwed]
  rw [raiseUnreported, apply_ite State.port, raiseVector_eq]
  simp only [h, Bool.false_eq_true, if_false, hiff]
  split <;> simp

theorem raiseUnreported_vector_ne {v w : VectorId} (s : State) (h : w ≠ v) : (raiseUnreported v s).vector w = s.vector w := by
  unfold raiseUnreported
  split
  · exact raiseVector_vector_ne s h
  · rfl

/-- In mode MESSAGE the end of a stop issues one message for each vector that it raises, in their order (R178; log entry 27). -/
theorem endStop_port {s : State} (h : s.context.level = false) :
    (endStop s).port = s.port ++ (([VectorId.vector0, .vector1, .vector2].filter (fun v => (s.vector v).isOwed)).map PortOp.message) := by
  let u : State := { s with events := { s.events with backlog := [], lossCount := 0, firstLost := none } }
  let u0 := raiseUnreported .vector0 u
  let u1 := raiseUnreported .vector1 u0
  let u2 := raiseUnreported .vector2 u1
  have hc0 : u0.context = s.context := (raiseUnreported_reports .vector0 u).context_eq
  have hc1 : u1.context = s.context := ((raiseUnreported_reports .vector1 u0).context_eq).trans hc0
  have hc2 : u2.context = s.context := ((raiseUnreported_reports .vector2 u1).context_eq).trans hc1
  have hv1 : u0.vector .vector1 = s.vector .vector1 := raiseUnreported_vector_ne u (by decide)
  have hv2 : u1.vector .vector2 = s.vector .vector2 :=
    (raiseUnreported_vector_ne u0 (by decide)).trans (raiseUnreported_vector_ne u (by decide))
  have hend : (endStop s).port = (clearVectors u2).port := rfl
  have hp2 : u2.port = u1.port ++ _ := raiseUnreported_port (by rw [hc1, h])
  have hp1 : u1.port = u0.port ++ _ := raiseUnreported_port (by rw [hc0, h])
  have hp0 : u0.port = u.port ++ _ := raiseUnreported_port h
  have hv0 : u.vector .vector0 = s.vector .vector0 := rfl
  rw [hend, clearVectors_eq]
  simp only [hc2, h, Bool.false_and, Bool.false_eq_true, if_false, List.append_nil, hp2, hp1, hp0, hv0, hv1, hv2, List.append_assoc]
  refine congrArg (s.port ++ ·) ?_
  simp only [List.filter_cons, List.filter_nil]
  split <;> split <;> split <;> rfl

/-! ## The drain as a whole (R91) -/

/-- How many backlogged events the drain writes. -/
def State.drainCount (s : State) : Nat := min s.freeEntries s.events.backlog.length

/-- Whether an EVENT_LOSS record follows the drained events: the backlog is then empty, events were lost, and an entry is still free. -/
def State.LossFollows (s : State) : Prop :=
  s.drainCount = s.events.backlog.length ∧ s.events.lossCount ≠ 0 ∧ s.drainCount < s.freeEntries

/-- The state in which the backlog has been drained and no EVENT_LOSS yet written. -/
def State.backlogDrained (s : State) : State :=
  { writeRecords (s.events.backlog.take s.drainCount) s with
    events := { s.events with
      producer := s.events.producer + BitVec.ofNat 16 s.drainCount, backlog := s.events.backlog.drop s.drainCount } }

theorem State.length_take_drainCount (s : State) : (s.events.backlog.take s.drainCount).length = s.drainCount := by
  rw [List.length_take, State.drainCount]
  omega

theorem drainBacklog_backlog (s : State) (hsize : s.context.eventRing.size ≤ 1024) :
    drainBacklog s.events.backlog s = s.backlogDrained := by
  have htake : s.events.backlog.take s.freeEntries = s.events.backlog.take s.drainCount := by
    rw [List.take_eq_take_iff, State.drainCount]
    omega
  have hdrop : s.events.backlog.drop s.freeEntries = s.events.backlog.drop s.drainCount := by
    rw [List.drop_eq_drop_iff, State.drainCount]
    omega
  rw [drainBacklog_eq _ hsize, htake, hdrop, writeRecords_events, s.length_take_drainCount]
  rfl

theorem State.backlogDrained_wrote (s : State) :
    s.Wrote s.backlogDrained (s.eventWrites s.events.producer (s.events.backlog.take s.drainCount)) := by
  obtain ⟨ops, hops, hwrites⟩ := writeRecords_wrote (s.events.backlog.take s.drainCount) s
  exact ⟨ops, hops, hwrites⟩

/-- After the drain an EVENT_LOSS is due exactly when the backlog is empty, events were lost and an entry is free. -/
theorem State.lossFollows_iff (s : State) (hsize : s.context.eventRing.size ≤ 1024) :
    (s.backlogDrained.events.backlog = [] ∧ s.backlogDrained.events.lossCount ≠ 0 ∧ s.backlogDrained.eventRoom = true) ↔ s.LossFollows := by
  have hlen := s.length_take_drainCount
  have hroom : (writeRecords (s.events.backlog.take s.drainCount) s).freeEntries = s.freeEntries - s.drainCount := by
    rw [writeRecords_freeEntries _ hsize (by rw [hlen, State.drainCount]; omega), hlen]
  have hfree : s.backlogDrained.freeEntries = s.freeEntries - s.drainCount := by
    rw [← hroom, State.freeEntries, State.freeEntries, writeRecords_events, hlen]
    rfl
  have hempty : s.backlogDrained.events.backlog = [] ↔ s.drainCount = s.events.backlog.length := by
    change s.events.backlog.drop s.drainCount = [] ↔ _
    rw [List.drop_eq_nil_iff, State.drainCount]
    omega
  rw [State.eventRoom_iff_freeEntries, hfree, hempty, State.LossFollows]
  exact and_congr_right fun _ => and_congr_right fun _ => Nat.sub_pos_iff_lt

/-- The drain writes no EVENT_LOSS when none is due. -/
theorem drainEvents_of_not_lossFollows {s : State} (hsize : s.context.eventRing.size ≤ 1024) (h : ¬s.LossFollows) :
    drainEvents s = s.backlogDrained := by
  rw [drainEvents, drainBacklog_backlog s hsize]
  exact if_neg (mt (s.lossFollows_iff hsize).mp h)

/-- The number and the EVENT_LOSS record that follow the drained events (R91). -/
def State.lossRecord (s : State) : Half × Event :=
  (s.events.sequence, .eventLoss s.events.lossCount (s.events.firstLost.getD 0))

/-- The state in which the EVENT_LOSS has taken its number and cleared the loss count. -/
def State.lossTaken (s : State) : State :=
  { s.backlogDrained with events :=
    { s.backlogDrained.events with sequence := s.events.sequence + 1, lossCount := 0, firstLost := none } }

theorem drainEvents_of_lossFollows {s : State} (hsize : s.context.eventRing.size ≤ 1024) (h : s.LossFollows) :
    drainEvents s = writeEvent s.lossRecord.1 s.lossRecord.2 s.lossTaken := by
  rw [drainEvents, drainBacklog_backlog s hsize]
  exact if_pos ((s.lossFollows_iff hsize).mpr h)

theorem State.lossTaken_vector (s : State) (v : VectorId) :
    s.lossTaken.vector v = (writeRecords (s.events.backlog.take s.drainCount) s).vector v := by cases v <;> rfl

/-- What the drain issues and counts: the drained events, and behind them the EVENT_LOSS when one is due. -/
structure State.Drained (s t : State) (records : List (Half × Event)) : Prop where
  wrote : s.Wrote t (s.eventWrites s.events.producer records)
  unreported : records ≠ [] → (t.vector .vector0).unreported = min 255 ((s.vector .vector0).unreported + records.length)
  vector_ne : ∀ v, v ≠ .vector0 → t.vector v = s.vector v

theorem State.backlogDrained_drained (s : State) : s.Drained s.backlogDrained (s.events.backlog.take s.drainCount) :=
  ⟨s.backlogDrained_wrote, fun h => writeRecords_unreported h s, fun _ h => writeRecords_vector_ne _ s h⟩

/-- One record more behind `n` that were counted (R96). -/
theorem unreported_add_one (x n : Nat) : min 255 (min 255 (x + n) + 1) = min 255 (x + (n + 1)) := by omega

theorem drainEvents_drained_of_lossFollows {s : State} (hsize : s.context.eventRing.size ≤ 1024) (h : s.LossFollows) :
    s.Drained (drainEvents s) (s.events.backlog.take s.drainCount ++ [s.lossRecord]) := by
  have hcontext : s.lossTaken.context = s.context := (writeRecords_reports _ s).context_eq
  rw [drainEvents_of_lossFollows hsize h]
  refine ⟨?_, fun _ => ?_, fun v hv => ?_⟩
  · rw [State.eventWrites_append, s.length_take_drainCount]
    obtain ⟨ops, hops, hwrites⟩ := s.backlogDrained_wrote
    refine State.Wrote.trans (t := s.lossTaken) ⟨ops, hops, hwrites⟩ ?_
    have hloss := writeEvent_wrote s.lossRecord.1 s.lossRecord.2 s.lossTaken
    rw [State.eventWrite, hcontext] at hloss
    exact hloss
  · rw [writeEvent_unreported, List.length_append, List.length_singleton]
    by_cases hnil : s.events.backlog.take s.drainCount = []
    · rw [s.lossTaken_vector, hnil, List.length_nil, Nat.zero_add, writeRecords, List.foldl_nil]
    · rw [s.lossTaken_vector, writeRecords_unreported hnil]
      exact unreported_add_one _ _
  · rw [writeEvent_vector_ne _ _ _ hv, s.lossTaken_vector, writeRecords_vector_ne _ s hv]

/-- The drain of the event unit, or in a stop the end of it: which of the two, by what is left (R91, R178). -/
theorem exec_eventBacklogDrain (s : State) :
    exec .eventBacklogDrain s = .next (finishDrain (drainEvents s)) := rfl

/-- Settles O16: the drain writes what it drains, with or without an EVENT_LOSS behind; then it goes on or ends the stop. -/
theorem backlogDrainsIntoFreeEntries : Obligations.BacklogDrainsIntoFreeEntries := by
  intro s hlaw hsize u free n loss records drained after nothingLeft
  have hboth : s.Drained (drainEvents s) records ∧ (drainEvents s).events = after := by
    by_cases hloss : loss
    · have hrecords : records = s.events.backlog.take s.drainCount ++ [s.lossRecord] := by
        simp only [records, if_pos hloss]
        rfl
      have hafter : after = (writeEvent s.lossRecord.1 s.lossRecord.2 s.lossTaken).events := by
        rw [writeEvent_events]
        simp only [after, if_pos hloss]
        rfl
      rw [hrecords, hafter]
      exact ⟨drainEvents_drained_of_lossFollows hsize hloss, by rw [drainEvents_of_lossFollows hsize hloss]⟩
    · have hrecords : records = s.events.backlog.take s.drainCount := by
        simp only [records, if_neg hloss, List.append_nil]
        rfl
      have hafter : after = s.backlogDrained.events := by
        simp only [after, if_neg hloss]
        rfl
      rw [hrecords, hafter, drainEvents_of_not_lossFollows hsize hloss]
      exact ⟨s.backlogDrained_drained, rfl⟩
  obtain ⟨⟨hwrote, hunreported, hvectors⟩, hevents⟩ := hboth
  have hreports := drainEvents_reports s
  have hdrain : (drainEvents s).drain = s.drain := by rw [hreports.rest]
  refine ⟨fun hstay => ⟨drainEvents s, ?_, hevents, hwrote.newWrites, hunreported, hreports.line .line0, hreports.line .line1,
    hvectors .vector1 (by decide), hvectors .vector2 (by decide), hreports.run_eq, hdrain⟩, fun hsome hnothing => ?_⟩
  · rw [exec_eventBacklogDrain, finishDrain, if_neg]
    rintro ⟨hd, hb⟩
    rw [hevents] at hb
    rw [hdrain] at hd
    obtain hnone | hleft := hstay
    · simp [hnone] at hd
    · exact hleft hb
  · have hends : finishDrain (drainEvents s) = endStop (drainEvents s) := if_pos (by rw [hdrain, hevents]; exact ⟨hsome, hnothing⟩)
    obtain ⟨hrun, -, -, hfresh, -, -, -, hnone, -⟩ := endStop_fields (drainEvents s)
    refine ⟨endStop (drainEvents s), by rw [exec_eventBacklogDrain, hends], ?_, hrun, hnone, hfresh⟩
    rw [(hwrote.trans (endStop_wrote _)).newWrites, List.append_nil]

/-! ## The end of a stop (R88, R178) -/

theorem writeBack_wrote (l : LineId) (d : List Byte) (s : State) :
    s.Wrote (writeBack l d s) [.write ((s.context.lineSection l).bufferRing.position (s.line l).buffers.writeBack 16) d] :=
  (s.hostWrite_wrote _ d).trans ((State.updLine_wrote _ l _).trans (countRecord_wrote _ _))

theorem State.writeBacks_congr {s t : State} (h : t.context = s.context) (l : LineId) (i : Half) (ds : List (List Byte)) :
    t.writeBacks l i ds = s.writeBacks l i ds := by
  induction ds generalizing i with
  | nil => rfl
  | cons d ds ih => simp only [State.writeBacks, ih, h]

/-- Each held descriptor is written back in its turn, an invalid one INVALID and the others STOPPED (R88). -/
theorem returnHeld_wrote (l : LineId) (ds : List Descriptor) (s : State) :
    s.Wrote (returnHeld l ds s)
      (s.writeBacks l (s.line l).buffers.writeBack (ds.map (fun d => returnedOctets d (if d.usable then 2 else 1)))) := by
  induction ds generalizing s with
  | nil => exact s.updLine_wrote l _
  | cons d rest ih =>
    have hrest := ih (writeBack l (returnedOctets d (if d.usable then 2 else 1)) s)
    rw [State.writeBacks_congr (writeBack_touches l _ s).context_eq, writeBack_line] at hrest
    exact (writeBack_wrote l _ s).trans hrest

/-- A command's part on one line leaves the registers. -/
theorem State.Touches.registers {l : LineId} {s t : State} (h : State.Touches l s t) :
    t.faultInfo = s.faultInfo ∧ t.ctxLo = s.ctxLo ∧ t.ctxHi = s.ctxHi := by
  rw [h.rest]
  cases l <;> exact ⟨rfl, rfl, rfl⟩

/-- A line that goes to OFF at the end of a stop's line work, with its event raised first of all (R178). -/
theorem takeDown_eq (l : LineId) (s : State) :
    takeDown l s = if (s.line l).state = .off then s else
      raiseEvent (.lineState l (s.line l).state .off .deviceStop) (s.updLine l (fun x => { x with state := .off, detector := .disarmed })) := by
  refine ite_congr rfl (fun _ => rfl) fun _ => ?_
  rw [moveLine, ← raiseEvent_updLine, State.updLine_updLine]

/-- Settles O31: the descriptors go back one by one; the line work ends in the event drain, and the drain in the end of the stop. -/
theorem stopReturnsBuffersAndEnds : Obligations.StopReturnsBuffersAndEnds := by
  constructor
  · intro l s hrun hfetching hfetch b
    refine ⟨returnHeld l b.held s, ?_, returnHeld_line l b.held s, returnHeld_events l b.held s, (returnHeld_wrote l b.held s).newWrites⟩
    exact if_pos ⟨hrun, hfetching, hfetch⟩
  · intro s hrun ended down off
    have hoff : takeDown .line1 (takeDown .line0 s) = off := by rw [takeDown_eq, takeDown_eq]
    have ends (u t : State) (ht : t = endStop u) (hfault : u.faultInfo = s.faultInfo) (hlo : u.ctxLo = s.ctxLo) (hhi : u.ctxHi = s.ctxHi)
        (hcontext : u.context = s.context) (hport : s.port <+: u.port) : ended u t := by
      subst ht
      obtain ⟨h1, h2, h3, h4, h5, h6, h7, h8, h9, h10, h11⟩ := endStop_fields u
      refine ⟨h1, h2, h3, h4, h5, h6, h7, h8, h9.trans hfault, h10.trans hlo, h11.trans hhi, ?_, fun hlevel => ?_⟩
      · rw [((State.Wrote.of_port hport).trans (endStop_wrote u)).newWrites, List.append_nil]
      · exact endStop_port (by rw [hcontext, hlevel])
    refine ⟨fun hdrain h0 h1 => ?_, fun hdrain => ?_⟩
    · have hexec : exec .stopLineWorkEnd s = .next (finishDrain { off with drain := some 10 }) := by
        rw [← hoff]
        exact if_pos ⟨hrun, hdrain, h0, h1⟩
      refine ⟨fun hb hl => ?_, fun hleft => ?_⟩
      · refine ⟨endStop { off with drain := some 10 }, ?_, ?_⟩
        · rw [hexec, finishDrain, if_pos ⟨rfl, hb, hl⟩]
        · have first := takeDown_touches .line0 s
          have second := takeDown_touches .line1 (takeDown .line0 s)
          rw [hoff] at second
          obtain ⟨hfault, hlo, hhi⟩ := first.registers
          obtain ⟨kfault, klo, khi⟩ := second.registers
          exact ends { off with drain := some 10 } _ rfl (kfault.trans hfault) (klo.trans hlo) (khi.trans hhi)
            (second.context_eq.trans first.context_eq) (first.port.trans second.port)
      · rw [hexec, finishDrain, if_neg (fun h => hleft h.2)]
    · exact ⟨endStop s, if_pos ⟨hrun, hdrain⟩, ends s _ rfl rfl rfl rfl rfl (List.prefix_refl _)⟩

/-! ## The start of a run (R173, R174) -/

/-- The event unit after the first `n` events of a run, all written and none released. -/
def EventUnit.started (n : Nat) : EventUnit := ⟨BitVec.ofNat 16 n, 0, BitVec.ofNat 16 n, [], 0, none⟩

/-- With free entries the first events of a run are written at once. -/
theorem raiseEvent_of_started {s : State} {n : Nat} (h : s.events = EventUnit.started n) (hn : n < 65536)
    (hroom : n < s.context.eventRing.size - 1) (e : Event) :
    (raiseEvent e s).events = EventUnit.started (n + 1) ∧
      s.Wrote (raiseEvent e s) (s.eventWrites (BitVec.ofNat 16 n) [(BitVec.ofNat 16 n, e)]) := by
  have hat : s.WritesAtOnce := by
    rw [State.WritesAtOnce, h]
    refine ⟨rfl, rfl, ?_⟩
    have hcount : ((EventUnit.started n).producer - (EventUnit.started n).consumer).toNat = n := by
      simp only [EventUnit.started, BitVec.ofNat_eq_ofNat, BitVec.sub_zero, BitVec.toNat_ofNat]
      exact Nat.mod_eq_of_lt hn
    rwa [hcount]
  have hwrote : s.Wrote (writeEvent s.events.sequence e s.numberTaken) [s.eventWrite e s.events.sequence] :=
    State.Wrote.trans (.of_port_eq (t := s.numberTaken) rfl) (writeEvent_wrote _ e s.numberTaken)
  rw [raiseEvent_of_writesAtOnce e hat]
  refine ⟨?_, ?_⟩
  · rw [writeEvent_events, State.numberTaken, h]
    simp [EventUnit.started, BitVec.ofNat_add]
  · have hsame : [s.eventWrite e s.events.sequence] = s.eventWrites (BitVec.ofNat 16 n) [(BitVec.ofNat 16 n, e)] := by
      rw [State.eventWrite, h]
      rfl
    rwa [hsame] at hwrote

/-- A line brought up raises its LINE_STATE when it is enabled (R174 step 6). -/
theorem bringUp_of_started {l : LineId} {s : State} {n : Nat} (h : s.events = EventUnit.started n) (hn : n < 65535)
    (hroom : n < s.context.eventRing.size - 1) (hoff : (s.line l).state = .off) :
    (bringUp l s).events = EventUnit.started (n + bitNat (s.context.lineSection l).enable) ∧
      s.Wrote (bringUp l s) (s.eventWrites (BitVec.ofNat 16 n)
        (if (s.context.lineSection l).enable then [(BitVec.ofNat 16 n, .lineState l .off .active .start)] else [])) := by
  unfold bringUp
  cases (s.context.lineSection l).enable
  · exact ⟨h, .refl s⟩
  · obtain ⟨hevents, hwrote⟩ := raiseEvent_of_started (s := s.updLine l (fun x => { x with state := .active }))
      (by rw [State.updLine_events, h]) (by omega) (by rwa [State.updLine_context]) (.lineState l .off .active .start)
    rw [if_pos rfl, if_pos rfl, moveLine, hoff]
    refine ⟨hevents, ?_⟩
    rw [State.eventWrites_congr (State.updLine_context s l _)] at hwrote
    exact (s.updLine_wrote l _).trans hwrote

/-- The event ring of a block that passes its checks has 16 entries at least (R172). -/
theorem eventRing_size_of_contextFault {d : List Byte} (h : contextFault d = none) : 16 ≤ (parseContext d).eventRing.size := by
  have hring := (contextFault_eq_none h).1 ((parseContext d).eventRing, 16, 1024) List.mem_cons_self
  simp only [ringSizeOk, Bool.and_eq_true, decide_eq_true_eq] at hring
  exact hring.1.1

/-- Settles O28: the block's checks decide; a start that passes is initialised and its lines are brought up in turn. -/
theorem contextReadEndsTheStart : Obligations.ContextReadEndsTheStart := by
  intro id a d s hrun hread hfound hlen c
  have ended (result : ReadResult) : exec (.contextReadDone id result) s =
      .next (endContextRead (HostRead.data ⟨id, .context, a, 512⟩ result) (s.endRead id)) := by
    rw [show Instr.contextReadDone id result = Reader.context.done id result from rfl, exec_done, finishRead_of_found hfound rfl]
    exact congrArg _ (if_pos hread)
  have octets : exec (.contextReadDone id (.octets d)) s = .next (endContextRead (some d) (s.endRead id)) := by
    rw [ended, HostRead.data_of_length hlen]
  refine ⟨fun hok => ?_, fun f hf => ?_, ?_⟩
  · have hexec : exec (.contextReadDone id (.octets d)) s = .next (initialise c (s.endRead id)) := by
      rw [octets, endContextRead, hok]
    let p := (s.endRead id).prepared c
    have hsize : 16 ≤ c.eventRing.size := eventRing_size_of_contextFault hok
    have hle : bitNat c.section0.enable ≤ 1 := by cases c.section0.enable <;> decide
    obtain ⟨hevents0, hwrote0⟩ := bringUp_of_started (l := .line0) (s := p) (n := 0) rfl (by omega)
      (by change 0 < c.eventRing.size - 1; omega) rfl
    have hcontext0 : (bringUp .line0 p).context = c := (bringUp_touches .line0 p).context_eq
    have hline1 : (bringUp .line0 p).line .line1 = c.section1.startLine := (bringUp_touches .line0 p).other
    have hevents0' : (bringUp .line0 p).events = EventUnit.started (bitNat c.section0.enable) := by
      rw [hevents0, Nat.zero_add]
      rfl
    obtain ⟨hevents1, hwrote1⟩ := bringUp_of_started (l := .line1) hevents0' (by omega) (by rw [hcontext0]; omega) (by rw [hline1]; rfl)
    rw [hcontext0] at hevents1 hwrote1
    have hevents : (initialise c (s.endRead id)).events = EventUnit.started (bitNat c.section0.enable + bitNat c.section1.enable) := hevents1
    obtain ⟨hrun, hnone, hdrain⟩ := initialise_fields c (s.endRead id)
    have hfault : (initialise c (s.endRead id)).faultInfo = s.faultInfo :=
      (bringUp_touches .line1 _).registers.1.trans (bringUp_touches .line0 p).registers.1
    have hprepared : s.Wrote p [.write c.indexPage (zeros 256)] := ⟨_, rfl, rfl⟩
    have hport : p.port = s.port ++ [.write c.indexPage (zeros 256)] := rfl
    refine ⟨initialise c (s.endRead id), hexec, hrun, initialise_context c _, hnone, hdrain, hfault, initialise_line c _, ?_, ?_, ?_, ?_, ?_, ?_, ?_⟩
    case refine_6 => exact hport ▸ hwrote0.port.trans hwrote1.port
    case refine_7 =>
      have hfirst : BitVec.ofNat 16 (bitNat c.section0.enable) = 0 + BitVec.ofNat 16
          (if c.section0.enable then [((0 : Half), Event.lineState .line0 .off .active .start)] else []).length := by
        cases c.section0.enable <;> rfl
      have hall := (hprepared.trans (hwrote0.trans hwrote1)).newWrites
      rw [← State.eventWrites_congr (s := p) (t := initialise c (s.endRead id)) (initialise_context c _),
        ← State.eventWrites_congr (s := bringUp .line0 p) (t := initialise c (s.endRead id))
          ((initialise_context c _).trans hcontext0.symm)] at hall
      rw [State.eventWrites_append, ← hfirst]
      exact hall
    all_goals rw [hevents]; rfl
  · rw [octets, endContextRead, hf]
    dsimp only
    rw [failStart]
    split <;> simp [State.hostWrite, State.issue, addrPlus, startFaultOffset, c]
  · rw [ended]
    rfl

end Sys2Proof.Machine
end

section
/-! PROOFS. Outcome reports on the station records, and the barrier requests that act on them. -/

set_option Elab.async false

namespace Sys2Proof.Machine

/-! ## Outcome reports (R39 to R44) -/

theorem State.updLine_self (s : State) (l : LineId) (f : Line → Line) (h : f (s.line l) = s.line l) : s.updLine l f = s := by
  cases l <;> simp_all [State.updLine, State.setLine, State.line]

theorem Station.applyReport_of_disabled {r : Station} (h : r.state = .disabled) (n : Nat) (o : ExchangeEnd) : r.applyReport n o = r :=
  if_pos h

theorem Station.applyReport_of_ne_disabled {r : Station} (h : r.state ≠ .disabled) (n : Nat) (o : ExchangeEnd) :
    r.applyReport n o =
      if o.attn then { (r.count o).applyHealth n o with attention := true } else (r.count o).applyHealth n o := if_neg h

/-- A record after a report, for the reports of class FAILED (R41, R42). -/
theorem Station.applyReport_of_failed {r : Station} (h : r.state ≠ .disabled) (n : Nat) {o : ExchangeEnd}
    (hclass : o = .noResponse ∨ o = .badFrame ∨ o = .stopped .timeout ∨ o = .stopped .badFrame ∨ o = .stopped .collision) :
    r.applyReport n o = ({ r with failed := saturate r.failed } : Station).fail n := by
  rw [applyReport_of_ne_disabled h]
  obtain rfl | rfl | rfl | rfl | rfl := hclass <;> rfl

/-- The record of the station reported on is the one the report makes (R39). -/
theorem reportOutcome_station {a : Nat} (ha : 1 ≤ a ∧ a ≤ 62) (l : LineId) (o : ExchangeEnd) (s : State) :
    ((reportOutcome l a o s).line l).station a = ((s.line l).station a).applyReport (s.line l).params.offlineThreshold o := by
  rw [reportOutcome_line, Line.station_setStation_same _ _ ha]

/-- A change of one record, with its event when the state changes (R43). -/
theorem changeStation_eq (l : LineId) (cause : HealthCause) (f : Station → Station) (s : State) (a : Nat) :
    changeStation l cause f s a =
      if (f ((s.line l).station a)).state = ((s.line l).station a).state then s.updLine l (fun x => x.setStation a (f ((s.line l).station a)))
      else raiseEvent (.stationState l a ((s.line l).station a).state (f ((s.line l).station a)).state (f ((s.line l).station a)).failures cause)
        (s.updLine l (fun x => x.setStation a (f ((s.line l).station a)))) := by
  rw [changeStation, raiseIf]
  by_cases h : (f ((s.line l).station a)).state = ((s.line l).station a).state
  · rw [if_pos h, if_neg (by simpa using h)]
  · rw [if_neg h, if_pos (by simpa using h)]

/-- Settles O17: by the class of the outcome, and for a failed report by the state and the count of the record. -/
theorem outcomeReportUpdatesTheRecord : Obligations.OutcomeReportUpdatesTheRecord := by
  intro l a s h1 h62 r n after answered
  have hafter (o : ExchangeEnd) : after o = r.applyReport n o := reportOutcome_station ⟨h1, h62⟩ l o s
  refine ⟨fun hdis o => ?_, fun hen => ⟨fun attn f p => ?_, ?_, fun reason => ?_, ?_, ?_, fun o ho => ?_⟩, fun o b hb => ?_, fun o => ?_⟩
  · have hsame : r.applyReport n o = r := Station.applyReport_of_disabled hdis n o
    have hchange : changeStation l .exchange (fun r => r.applyReport (s.line l).params.offlineThreshold o) s a = s := by
      rw [changeStation_eq, if_pos (congrArg Station.state hsame)]
      refine s.updLine_self l _ ?_
      rw [hsame]
      exact (s.line l).setStation_self a
    rw [reportOutcome, hchange, raiseIf, if_neg]
    rw [hsame]
    simp [r]
  · rw [hafter, Station.applyReport_of_ne_disabled hen]
    cases attn <;> simp [ExchangeEnd.attn, Station.applyHealth, ExchangeEnd.healthClass, Station.answer, ExchangeEnd.advances, Station.count,
      saturate, answered]
  · rw [hafter, Station.applyReport_of_ne_disabled hen]
    rfl
  · rw [hafter, Station.applyReport_of_ne_disabled hen]
    rfl
  · rw [hafter, Station.applyReport_of_ne_disabled hen]
    rfl
  · rw [hafter, Station.applyReport_of_ne_disabled hen]
    rfl
  · rw [hafter, Station.applyReport_of_failed hen n ho]
    refine ⟨fun hoff => if_pos hoff, fun hon hlt => ?_, fun hon heq => ?_⟩
    · exact (if_neg hon).trans (if_pos hlt)
    · rw [Station.fail, if_neg hon, if_neg (by change ¬r.failures + 1 < n; omega)]
      rw [← heq]
      rfl
  · rw [reportOutcome_line, Line.station_setStation_ne _ _ hb]
  · rw [hafter]
    intro r' noted moved
    rw [reportOutcome, raiseIf]
    have hmoved : changeStation l .exchange (fun r => r.applyReport (s.line l).params.offlineThreshold o) s a = moved := changeStation_eq ..
    rw [hmoved]
    refine ite_congr (by simp [r', n, r]) (fun _ => rfl) fun _ => rfl

end Sys2Proof.Machine
end

section
/-! PROOFS. Grants of the line: traffic, slots, REST and FETCH, and the arbiter's choice. -/

set_option Elab.async false

namespace Sys2Proof.Machine

/-! ## Grants (R128 to R132) -/

/-- The grant of the claim that the arbiter chooses (R129, R130). -/
theorem exec_lineGrant {l : LineId} {s : State} {c : Claim} (hrun : s.run = .running) (hstate : (s.line l).state = .active)
    (hjob : (s.line l).job = none) (hchoose : (s.line l).choose = some c) : exec (.lineGrant l) s = .next (grant l c s) := by
  change execLineGrant l s = _
  rw [execLineGrant, if_pos ⟨hrun, hstate, hjob⟩, hchoose]

theorem exec_lineGrant_of_none {l : LineId} {s : State} (hchoose : (s.line l).choose = none) : exec (.lineGrant l) s = .next s := by
  change execLineGrant l s = _
  rw [execLineGrant, hchoose, ite_self]

/-- The grant of a traffic claim finds the entry that waits for it (R65, R131). -/
theorem grantRequest_of_first {l : LineId} {s : State} {i : Nat} {e : Entry} {payload : List Byte}
    (h : (s.line l).FirstEntry Entry.awaitsGrant i e) (he : e.state = .inFlight (.awaitGrant payload)) :
    grantRequest l s = grantTraffic l i e payload (setGrantee l .requestEngine s) := by
  have hfind : ((setGrantee l .requestEngine s).line l).findEntry Entry.awaitsGrant = some (i, e) := by
    rw [setGrantee, State.updLine_line_same]
    exact Line.findEntry_eq_some.mpr h
  rw [grantRequest, hfind]
  simp only [he]

/-- Settles O52: the entry is judged once more; an entry that passes hands its order by its kind. -/
theorem trafficGrantHandsTheOrder : Obligations.TrafficGrantHandsTheOrder := by
  intro l i e payload s hrun hstate hjob hchoose hfirst he x r handed
  have hexec : exec (.lineGrant l) s = .next (grantTraffic l i e payload (setGrantee l .requestEngine s)) := by
    rw [exec_lineGrant hrun hstate hjob hchoose, grant, grantRequest_of_first hfirst he]
  have hjudge : ((setGrantee l .requestEngine s).line l).judgeTraffic e.body = x.judgeTraffic e.body := by
    rw [setGrantee, State.updLine_line_same]
    cases e.body <;> rfl
  refine ⟨fun hmark => ?_, fun hmark status hstatus => ?_, fun hmark hpass => ?_⟩
  · rw [hexec, grantTraffic, if_pos hmark]
    rfl
  · rw [hexec, grantTraffic, hmark, hjudge, hstatus]
    rfl
  · have hhand : exec (.lineGrant l) s = .next (handTraffic l e.body payload
        (putEntry l i { e with state := .inFlight .onLine } (setGrantee l .requestEngine s))) := by
      rw [hexec, grantTraffic, hmark, hjudge, hpass]
      rfl
    refine ⟨fun probe noRetry a f n out cap inn hbody => ?_, fun a f n out hbody => ?_⟩
    · change exec (.lineGrant l) s = _
      rw [hhand, hbody]
      simp only [handTraffic, handExchange, giveJob, putEntry, setGrantee, State.updLine_updLine, State.updLine_line_same]
      rfl
    · change exec (.lineGrant l) s = _
      rw [hhand, hbody]
      simp only [handTraffic, giveJob, putEntry, setGrantee, State.updLine_updLine]

/-! ## The grant of a slot (R115, R116) -/

/-- Whether a slot runs: its station is not DISABLED, and is not OFFLINE or is probed in this cycle (R115). -/
theorem Line.judgeSlot_eq (x : Line) (slot : Slot) :
    (slot.station ≠ 0 → (x.station slot.station).state = .disabled → x.judgeSlot slot = some .skippedDisabled) ∧
      (¬(slot.station = 0 ∨ (x.station slot.station).state ≠ .disabled ∧ ((x.station slot.station).state ≠ .offline ∨
        x.params.rejoinInterval ≠ 0 ∧ x.engine.cycle.toNat % x.params.rejoinInterval = 0)) →
        (x.station slot.station).state ≠ .disabled → x.judgeSlot slot = some .skippedOffline) ∧
      (slot.station = 0 ∨ (x.station slot.station).state ≠ .disabled ∧ ((x.station slot.station).state ≠ .offline ∨
        x.params.rejoinInterval ≠ 0 ∧ x.engine.cycle.toNat % x.params.rejoinInterval = 0) → x.judgeSlot slot = none) := by
  unfold Line.judgeSlot
  refine ⟨fun ha hdis => ?_, fun hskip hen => ?_, fun hruns => ?_⟩
  · rw [if_neg ha, hdis]
  · obtain ⟨ha, hskip⟩ := not_or.mp hskip
    have hoff : (x.station slot.station).state = .offline := by
      by_contra hon
      exact hskip ⟨hen, .inl hon⟩
    rw [if_neg ha, hoff]
    by_cases hzero : x.params.rejoinInterval = 0
    · simp [hzero]
    · simp only [hzero, if_false]
      exact if_neg fun hprobe => hskip ⟨hen, .inr ⟨hzero, hprobe⟩⟩
  · obtain ha | ⟨hen, hon⟩ := hruns
    · rw [if_pos ha]
    · split
      · rfl
      · cases hstate : (x.station slot.station).state with
        | disabled => exact absurd hstate hen
        | offline =>
          obtain hne | ⟨hzero, hprobe⟩ := hon
          · exact absurd hstate hne
          · simp [hzero, hprobe]
        | unknown => rfl
        | online => rfl
        | suspect => rfl

/-- Settles O56: the slot is judged, and one that runs hands its order by its kind. -/
theorem slotGrantHandsTheOrder : Obligations.SlotGrantHandsTheOrder := by
  intro l n more c payload s hrun hstate hjob hchoose hstage hremaining hcell x a r skipped handed runs
  obtain ⟨hdisabled, hoffline, hpass⟩ := x.judgeSlot_eq c.slot
  have hexec : exec (.lineGrant l) s = .next (grantSlot l s) := by
    rw [exec_lineGrant hrun hstate hjob hchoose]
    rfl
  have skips (result : SlotResult) (h : x.judgeSlot c.slot = some result) : skipped result := by
    change exec (.lineGrant l) s = _
    rw [hexec, grantSlot]
    simp only [hstage, hremaining, hcell]
    rw [h]
  refine ⟨fun ha hdis => skips _ (hdisabled ha hdis), fun hskip hen => skips _ (hoffline hskip hen), fun hruns hkind => ?_, fun hruns hkind => ?_⟩
  all_goals
    change exec (.lineGrant l) s = _
    rw [hexec, grantSlot]
    simp only [hstage, hremaining, hcell]
    rw [hpass hruns]
    simp only [hkind, handExchange, giveJob, updEngine, State.updLine_updLine, State.updLine_line_same]
    rfl

/-! ## REST (R145, R146) -/

/-- Two changes that agree on the line as it stands are one (R62). -/
theorem State.updLine_congr {s : State} {l : LineId} {f g : Line → Line} (h : f (s.line l) = g (s.line l)) : s.updLine l f = s.updLine l g :=
  congrArg (s.setLine l) h

/-- The oldest entry that is WAITING may act while the device runs and no order is in flight (R71). -/
theorem State.oldestWaiting_eq {s : State} {l : LineId} {e : Entry} {rest : List Entry} (hrun : s.run = .running)
    (hjob : (s.line l).job = none) (hentries : (s.line l).entries = e :: rest) (hwait : e.state = .waiting) :
    s.oldestWaiting l = some e := by
  rw [State.oldestWaiting, if_pos ⟨hrun, hjob⟩, hentries]
  exact if_pos hwait

/-- The oldest entry replaced. -/
theorem putEntry_zero {l : LineId} {s : State} {e : Entry} {rest : List Entry} (h : (s.line l).entries = e :: rest) (e' : Entry) :
    putEntry l 0 e' s = s.updLine l (fun x => { x with entries := e' :: rest }) :=
  State.updLine_congr (by rw [h]; rfl)

theorem Line.restRefusal_eq (x : Line) :
    (x.engine.runs = true → x.restRefusal = some .busySchedule) ∧
      (x.engine.runs = false → x.params.attentionCollection = true ∧ x.attentionSet ≠ [] → x.restRefusal = some .attentionPending) ∧
      (x.engine.runs = false → ¬(x.params.attentionCollection = true ∧ x.attentionSet ≠ []) → x.restRefusal = none) := by
  have hpending : (x.params.attentionCollection && !x.attentionSet.isEmpty) = true ↔
      x.params.attentionCollection = true ∧ x.attentionSet ≠ [] := by simp
  unfold Line.restRefusal
  refine ⟨fun h => if_pos h, fun h hp => ?_, fun h hp => ?_⟩
  · rw [if_neg (by simp [h]), if_pos (hpending.mpr hp)]
  · rw [if_neg (by simp [h]), if_neg (mt hpending.mp hp)]

theorem moveLine_acts (l : LineId) (new : LineState) (r : LineReason) (s : State) :
    State.Acts l s (moveLine l new r s) [.lineState l (s.line l).state new r] [] :=
  (State.updLine_acts rfl).trans (raiseEvent_acts l _ _)

theorem putEntry_acts (l : LineId) (i : Nat) (e : Entry) (s : State) : State.Acts l s (putEntry l i e s) [] [] := State.updLine_acts rfl

theorem giveJob_acts (l : LineId) (k : JobKind) (s : State) : State.Acts l s (giveJob l k s) [] [] := State.updLine_acts rfl

theorem updWake_acts (l : LineId) (f : WakeSequence → WakeSequence) (s : State) : State.Acts l s (updWake l f s) [] [] :=
  State.updLine_acts rfl

/-- Each event raised takes one sequence number (R90). -/
theorem State.Raises.sequence {s t : State} {es : List Event} (h : s.Raises t es) :
    t.events.sequence = s.events.sequence + BitVec.ofNat 16 es.length := by
  rw [h.1]
  clear h
  induction es generalizing s with
  | nil => simp [raiseAll]
  | cons e es ih => rw [raiseAll_cons, ih, raiseEvent_sequence, index_succ_add, List.length_cons]

/-- The REST's grant with its checks passed: QUIESCING, LINE_STATE, and the first QUIET (R146). -/
def restGranted (l : LineId) (i : Nat) (e : Entry) (s : State) : State :=
  giveJob l .quiet (updWake l (fun w => { w with phase := .quiet1 })
    (moveLine l .quiescing .restRequest (putEntry l i { e with state := .inFlight .quiescing } (setGrantee l .requestEngine s))))

theorem restGranted_acts (l : LineId) (i : Nat) (e : Entry) (s : State) :
    State.Acts l s (restGranted l i e s) [.lineState l (s.line l).state .quiescing .restRequest] [] := by
  have hgrantee : State.Acts l s (setGrantee l .requestEngine s) [] [] := State.updLine_acts rfl
  have hmove := moveLine_acts l .quiescing .restRequest (putEntry l i { e with state := .inFlight .quiescing } (setGrantee l .requestEngine s))
  have hold : ((putEntry l i { e with state := .inFlight .quiescing } (setGrantee l .requestEngine s)).line l).state = (s.line l).state := by
    simp [putEntry, setGrantee]
  rw [hold] at hmove
  exact hgrantee.trans ((putEntry_acts l i _ _).trans (hmove.trans ((updWake_acts l _ _).trans (giveJob_acts l _ _))))

/-- The grant of a REST's claim (R146). -/
theorem grantRest_of_first {l : LineId} {i : Nat} {e : Entry} {s : State} (h : (s.line l).FirstEntry (fun e => e.isDoing .restClaim) i e) :
    grantRest l s = match (s.line l).restRefusal with
      | some status => finishEntry l i e ⟨status, 0, false, false⟩ (setGrantee l .requestEngine s)
      | none => restGranted l i e s := by
  have hline : (setGrantee l .requestEngine s).line l = { s.line l with lastGrantee := .requestEngine } := State.updLine_line_same ..
  have hfind : ((setGrantee l .requestEngine s).line l).findEntry (fun e => e.isDoing .restClaim) = some (i, e) := by
    rw [hline]
    exact Line.findEntry_eq_some.mpr h
  have hrefusal : ((setGrantee l .requestEngine s).line l).restRefusal = (s.line l).restRefusal := by
    rw [hline]
    rfl
  rw [grantRest, hfind]
  dsimp only
  rw [hrefusal]
  rfl

/-- Settles O41: by the line state, and in ACTIVE by the refusal of a REST, which its grant asks for once more. -/
theorem restMakesItsChecksTwice : Obligations.RestMakesItsChecksTwice := by
  constructor
  · intro l e rest s hrun hjob hentries hwait hbody x pending ends
    obtain ⟨hruns, hpending, hnone⟩ := x.restRefusal_eq
    have hexec : exec (.rest l) s = match x.state with
        | .faulted => .next (finishEntry l 0 e ⟨.lineFault, 0, false, false⟩ s)
        | .rest => .next (finishEntry l 0 e ⟨.ok, 0, false, false⟩ s)
        | .active =>
          match x.restRefusal with
          | some status => .next (finishEntry l 0 e ⟨status, 0, false, false⟩ s)
          | none => .next (putEntry l 0 { e with state := .inFlight .restClaim } s)
        | _ => .next s := by
      change execRest l s = _
      rw [execRest, State.oldestWaiting_eq hrun hjob hentries hwait]
      simp only [hbody, if_true]
      rfl
    refine ⟨fun h => ?_, fun h => ?_, fun h hr => ?_, fun h hr hp => ?_, fun h hr hp => ?_, fun h => ?_⟩
    · simp only [ends, hexec, h]
    · simp only [ends, hexec, h]
    · simp only [ends, hexec, h, hruns hr]
    · simp only [ends, hexec, h, hpending hr hp]
    · simp only [hexec, h, hnone hr hp, putEntry_zero hentries]
    · obtain h | h := h <;> simp only [hexec, h]
  · intro l i e s hrun hstate hjob hchoose hfirst x turn
    have hexec : exec (.lineGrant l) s = .next (grantRest l s) := exec_lineGrant hrun hstate hjob hchoose
    rw [grantRest_of_first hfirst] at hexec
    refine ⟨fun status hstatus => ?_, fun hnone => ?_⟩
    · simp only [hexec, hstatus, x]
      rfl
    · have hacts := restGranted_acts l i e s
      rw [hstate] at hacts
      refine ⟨restGranted l i e s, by rw [hexec, hnone], hacts.raises.sequence, hacts.raises, ?_⟩
      simp [restGranted, putEntry, setGrantee, x]

end Sys2Proof.Machine
end

section
/-! PROOFS. The layouts of the records that the part writes besides completions and events: each field at its offset. -/

set_option Elab.async false

namespace Sys2Proof.Machine

/-! ## Records as layouts (R183) -/

/-- Every field of a record that is a layout is read back at its offset. -/
theorem field_of_eq_layout {d : List Byte} {fs : List (Nat × Nat)} (h : d = layout fs) :
    ∀ w, w ∈ wordsAt 0 fs → field d w.1 w.2.1 = w.2.2 := by
  have hread := field_of_mem_wordsAt [] fs
  rwa [List.nil_append, ← h] at hread

theorem Counters.octets_eq_layout (k : Counters) :
    k.octets = layout [(4, k.collisions.toNat), (4, k.crcErrors.toNat), (4, k.timeouts.toNat), (4, k.strayFrames.toNat),
      (4, k.faultsEntered.toNat)] := by
  simp [octets, layout]

/-- The counter block of a line (R168). -/
theorem Counters.fields (k : Counters) :
    k.octets.length = 20 ∧ field k.octets 0 4 = k.collisions.toNat ∧ field k.octets 4 4 = k.crcErrors.toNat ∧
      field k.octets 8 4 = k.timeouts.toNat ∧ field k.octets 12 4 = k.strayFrames.toNat ∧ field k.octets 16 4 = k.faultsEntered.toNat := by
  have hread := field_of_eq_layout k.octets_eq_layout
  simp only [wordsAt, List.forall_mem_cons] at hread
  obtain ⟨hcollisions, hcrc, htimeouts, hstray, hfaults, -⟩ := hread
  exact ⟨rfl, hcollisions.trans (Nat.mod_eq_of_lt k.collisions.isLt), hcrc.trans (Nat.mod_eq_of_lt k.crcErrors.isLt),
    htimeouts.trans (Nat.mod_eq_of_lt k.timeouts.isLt), hstray.trans (Nat.mod_eq_of_lt k.strayFrames.isLt),
    hfaults.trans (Nat.mod_eq_of_lt k.faultsEntered.isLt)⟩

theorem engineStateCode_lt (st : EngineState) : engineStateCode st < 256 := by cases st <;> decide

theorem slotResultCode_lt (r : SlotResult) : slotResultCode r < 256 := by cases r <;> decide

theorem Engine.cycleRecord_eq_layout (e : Engine) :
    e.cycleRecord = layout [(4, e.cycle.toNat), (4, e.lastCompleted.toNat), (4, e.overruns.toNat), (4, e.mergedStarts.toNat),
      (4, e.lateStarts.toNat), (1, bankCode e.active), (1, engineStateCode e.state)] := by
  simp [cycleRecord, layout, leBytes, byteOf]

/-- The cycle record of a line (R121). -/
theorem Engine.cycleRecord_fields (e : Engine) :
    e.cycleRecord.length = 22 ∧ field e.cycleRecord 0 4 = e.cycle.toNat ∧ field e.cycleRecord 4 4 = e.lastCompleted.toNat ∧
      field e.cycleRecord 8 4 = e.overruns.toNat ∧ field e.cycleRecord 12 4 = e.mergedStarts.toNat ∧
      field e.cycleRecord 16 4 = e.lateStarts.toNat ∧ field e.cycleRecord 20 1 = (if e.active = .bank0 then 0 else 1) ∧
      field e.cycleRecord 21 1 = engineStateCode e.state := by
  have hread := field_of_eq_layout e.cycleRecord_eq_layout
  simp only [wordsAt, List.forall_mem_cons] at hread
  obtain ⟨hcycle, hlast, hoverruns, hmerged, hlate, hbank, hstate, -⟩ := hread
  refine ⟨rfl, hcycle.trans (Nat.mod_eq_of_lt e.cycle.isLt), hlast.trans (Nat.mod_eq_of_lt e.lastCompleted.isLt),
    hoverruns.trans (Nat.mod_eq_of_lt e.overruns.isLt), hmerged.trans (Nat.mod_eq_of_lt e.mergedStarts.isLt),
    hlate.trans (Nat.mod_eq_of_lt e.lateStarts.isLt), hbank.trans ?_, hstate.trans (Nat.mod_eq_of_lt (engineStateCode_lt _))⟩
  cases e.active <;> rfl

theorem SlotStatus.octets_eq_layout (st : SlotStatus) :
    st.octets = layout [(4, st.lastAttempt.toNat), (4, st.lastSuccess.toNat), (1, slotResultCode st.result), (1, st.newestHalf),
      (1, st.newestLength), (1, st.misses), (2, st.updates.toNat), (2, 0)] := by
  simp [octets, layout, leBytes, byteOf, zeros]

/-- A slot status record (R120). -/
theorem SlotStatus.fields (st : SlotStatus) :
    st.octets.length = 16 ∧ field st.octets 0 4 = st.lastAttempt.toNat ∧ field st.octets 4 4 = st.lastSuccess.toNat ∧
      field st.octets 8 1 = slotResultCode st.result ∧ field st.octets 9 1 = st.newestHalf % 256 ∧
      field st.octets 10 1 = st.newestLength % 256 ∧ field st.octets 11 1 = st.misses % 256 ∧
      field st.octets 12 2 = st.updates.toNat ∧ field st.octets 14 2 = 0 := by
  have hread := field_of_eq_layout st.octets_eq_layout
  simp only [wordsAt, List.forall_mem_cons] at hread
  obtain ⟨hattempt, hsuccess, hresult, hhalf, hlength, hmisses, hupdates, hzero, -⟩ := hread
  exact ⟨rfl, hattempt.trans (Nat.mod_eq_of_lt st.lastAttempt.isLt), hsuccess.trans (Nat.mod_eq_of_lt st.lastSuccess.isLt),
    hresult.trans (Nat.mod_eq_of_lt (slotResultCode_lt _)), hhalf, hlength, hmisses, hupdates.trans (Nat.mod_eq_of_lt st.updates.isLt), hzero⟩

/-! ## Buffer descriptors (R87, R88) -/

theorem filledOctets_eq_layout (d : Descriptor) (a : Nat) (f : Byte) (stored full : Nat) (more : Bool) :
    filledOctets d a f stored full more = layout [(8, d.address.toNat), (2, d.length), (1, 1),
      (1, bitNat (decide (d.length < full)) + 2 * bitNat more), (1, a), (1, f.toNat), (1, stored), (1, full)] := by
  simp [filledOctets, layout, leBytes, byteOf]

/-- A descriptor written back FILLED (R87). -/
theorem filledOctets_fields (d : Descriptor) (a : Nat) (f : Byte) (stored full : Nat) (more : Bool) :
    let r := filledOctets d a f stored full more
    r.length = 16 ∧ field r 0 8 = d.address.toNat ∧ field r 8 2 = d.length % 65536 ∧ field r 10 1 = 1 ∧
      bitAt r 11 0 = decide (d.length < full) ∧ bitAt r 11 1 = more ∧ field r 11 1 < 4 ∧ field r 12 1 = a % 256 ∧
      octetAt r 13 = f ∧ field r 14 1 = stored % 256 ∧ field r 15 1 = full % 256 := by
  intro r
  have hread := field_of_eq_layout (filledOctets_eq_layout d a f stored full more)
  simp only [wordsAt, List.forall_mem_cons] at hread
  obtain ⟨haddress, hlength, hstate, hflags, hstation, -, hstored, hfull, -⟩ := hread
  have hoctet : octetAt r 11 = byteOf (bitNat (decide (d.length < full)) + 2 * bitNat more) := rfl
  have hbits : bitAt r 11 0 = decide (d.length < full) ∧ bitAt r 11 1 = more := by
    rw [bitAt, bitAt, hoctet]
    cases decide (d.length < full) <;> cases more <;> decide
  exact ⟨rfl, haddress.trans (Nat.mod_eq_of_lt d.address.isLt), hlength, hstate, hbits.1, hbits.2,
    hflags.trans_lt ((Nat.mod_le _ _).trans_lt (bitNat_pair_lt _ _)), hstation, rfl, hstored, hfull⟩

theorem returnedOctets_eq_layout (d : Descriptor) (reason : Nat) :
    returnedOctets d reason = layout [(8, d.address.toNat), (2, d.length), (1, 2), (1, 16 * reason), (4, 0)] := by
  simp [returnedOctets, layout, leBytes, byteOf]

/-- A descriptor written back RETURNED (R88). -/
theorem returnedOctets_fields (d : Descriptor) (reason : Nat) :
    let r := returnedOctets d reason
    r.length = 16 ∧ field r 0 8 = d.address.toNat ∧ field r 8 2 = d.length % 65536 ∧ field r 10 1 = 2 ∧
      field r 11 1 = 16 * reason % 256 ∧ field r 12 4 = 0 := by
  intro r
  have hread := field_of_eq_layout (returnedOctets_eq_layout d reason)
  simp only [wordsAt, List.forall_mem_cons] at hread
  obtain ⟨haddress, hlength, hstate, hreason, hzero, -⟩ := hread
  exact ⟨rfl, haddress.trans (Nat.mod_eq_of_lt d.address.isLt), hlength, hstate, hreason, hzero⟩

/-! ## Station record images (R55) -/

theorem Station.image_eq_layout (r : Station) (a : Nat) :
    r.image a = layout [(1, a), (1, healthCode (some r.state)), (1, r.failures),
      (1, bitNat r.seq + 2 * bitNat r.resync + 4 * bitNat r.attention + 8 * bitNat r.wakeCapable), (2, r.timeoutOverride), (2, r.good),
      (2, r.failed), (2, r.busy), (4, 0)] := by
  simp [image, layout, leBytes, byteOf, zeros]

/-- Four flags in one octet: each is its bit. -/
theorem flag_octet (a b c e : Bool) :
    let o := byteOf (bitNat a + 2 * bitNat b + 4 * bitNat c + 8 * bitNat e)
    o.getLsbD 0 = a ∧ o.getLsbD 1 = b ∧ o.getLsbD 2 = c ∧ o.getLsbD 3 = e ∧
      (bitNat a + 2 * bitNat b + 4 * bitNat c + 8 * bitNat e) % 256 < 16 := by
  revert a b c e
  decide

/-- The image of a station record (R55). -/
theorem Station.image_fields (r : Station) (a : Nat) :
    let d := r.image a
    d.length = 16 ∧ field d 0 1 = a % 256 ∧ field d 1 1 = healthCode (some r.state) ∧ field d 2 1 = r.failures % 256 ∧ bitAt d 3 0 = r.seq ∧
      bitAt d 3 1 = r.resync ∧ bitAt d 3 2 = r.attention ∧ bitAt d 3 3 = r.wakeCapable ∧ field d 3 1 < 16 ∧
      field d 4 2 = r.timeoutOverride % 65536 ∧ field d 6 2 = r.good % 65536 ∧ field d 8 2 = r.failed % 65536 ∧ field d 10 2 = r.busy % 65536 ∧
      field d 12 4 = 0 := by
  intro d
  have hread := field_of_eq_layout (r.image_eq_layout a)
  simp only [wordsAt, List.forall_mem_cons] at hread
  obtain ⟨haddress, hstate, hfailures, hflags, htimeout, hgood, hfailed, hbusy, hzero, -⟩ := hread
  obtain ⟨h0, h1, h2, h3, hlt⟩ := flag_octet r.seq r.resync r.attention r.wakeCapable
  exact ⟨rfl, haddress, hstate.trans (Nat.mod_eq_of_lt (healthCode_lt _)), hfailures, h0, h1, h2, h3, hflags.trans_lt hlt, htimeout, hgood,
    hfailed, hbusy, hzero⟩

/-! ## Line Parameter Blocks (R24, R35) -/

/-- The code of a coding in a Line Parameter Block (spec/11). -/
def Coding.code : Coding → Nat
  | .nrz => 0
  | .manchester => 1

theorem Params.toBlock_eq_layout (p : Params) :
    p.toBlock = layout [(1, p.rate), (1, p.coding.code), (1, p.gap), (1, p.retryLimit), (2, p.responseTimeout), (1, p.slotRetryLimit),
      (1, p.busyLimit), (2, p.busyHoldoff), (1, p.offlineThreshold), (1, p.rejoinInterval), (1, p.collisionLimit), (1, p.wakeToneLength),
      (2, p.listenWindow), (2, p.quiesceTime), (1, bitNat p.autoWake), (1, bitNat p.attentionCollection), (4, 0)] := by
  cases hcoding : p.coding <;> simp [toBlock, layout, leBytes, byteOf, zeros, hcoding, Coding.code]

/-- A parameter set in range, read back from its block (R35). -/
theorem Params.toBlock_fields {p : Params} (h : p.InRange) :
    let d := p.toBlock
    field d 0 1 = p.rate ∧ field d 1 1 = p.coding.code ∧ field d 2 1 = p.gap ∧ field d 3 1 = p.retryLimit ∧
      field d 4 2 = p.responseTimeout ∧ field d 6 1 = p.slotRetryLimit ∧ field d 7 1 = p.busyLimit ∧ field d 8 2 = p.busyHoldoff ∧
      field d 10 1 = p.offlineThreshold ∧ field d 11 1 = p.rejoinInterval ∧ field d 12 1 = p.collisionLimit ∧ field d 13 1 = p.wakeToneLength ∧
      field d 14 2 = p.listenWindow ∧ field d 16 2 = p.quiesceTime ∧ field d 18 1 = bitNat p.autoWake ∧
      field d 19 1 = bitNat p.attentionCollection ∧ field d 20 4 = 0 := by
  intro d
  have hread := field_of_eq_layout p.toBlock_eq_layout
  simp only [wordsAt, List.forall_mem_cons] at hread
  obtain ⟨r1, r2, r3, r4, r5, r6, r7, r8, r9, r10, r11, r12, r13, r14, r15, r16, r17, -⟩ := hread
  obtain ⟨hrate, hgap, htimeout, hretry, hslot, hholdoff, hbusy, hoffline, hrejoin, hcollision, htone, hwindow, hquiesce⟩ := h
  have hcode : p.coding.code < 256 := by cases p.coding <;> decide
  have hbit (b : Bool) : bitNat b < 256 := by cases b <;> decide
  have fits {n k : Nat} (hn : n < 256 ^ k) : n % 256 ^ k = n := Nat.mod_eq_of_lt hn
  refine ⟨r1.trans (fits ?_), r2.trans (fits hcode), r3.trans (fits ?_), r4.trans (fits ?_), r5.trans (fits ?_), r6.trans (fits ?_),
    r7.trans (fits ?_), r8.trans (fits ?_), r9.trans (fits ?_), r10.trans (fits ?_), r11.trans (fits ?_), r12.trans (fits ?_),
    r13.trans (fits ?_), r14.trans (fits ?_), r15.trans (fits (hbit _)), r16.trans (fits (hbit _)), r17⟩
  all_goals
    norm_num
    omega

/-- The block of a parameter set in range reads back as the set (R35). -/
theorem Params.ofBlock_toBlock {p : Params} (h : p.InRange) : Params.ofBlock p.toBlock = p := by
  obtain ⟨r1, r2, r3, r4, r5, r6, r7, r8, r9, r10, r11, r12, r13, r14, r15, r16, -⟩ := toBlock_fields h
  have hcoding : (if p.coding.code = 0 then Coding.nrz else Coding.manchester) = p.coding := by cases p.coding <;> rfl
  have hflag (b : Bool) : decide (bitNat b ≠ 0) = b := by cases b <;> rfl
  simp only [ofBlock, r1, r2, r3, r4, r5, r6, r7, r8, r9, r10, r11, r12, r13, r14, r15, r16, hcoding, hflag]

/-- The block of a parameter set in range passes the check of its values (R34). -/
theorem badParameter_toBlock {p : Params} (h : p.InRange) : badParameter GroupMask.all p.toBlock = none := by
  obtain ⟨r1, r2, r3, r4, r5, r6, r7, r8, r9, r10, r11, r12, r13, r14, r15, r16, -⟩ := Params.toBlock_fields h
  obtain ⟨hrate, ⟨hgap, hgap'⟩, ⟨htimeout, htimeout'⟩, hretry, hslot, ⟨hholdoff, hholdoff'⟩, ⟨hbusy, hbusy'⟩, ⟨hoffline, hoffline'⟩, hrejoin,
    ⟨hcollision, hcollision'⟩, ⟨htone, htone'⟩, ⟨hwindow, hwindow'⟩, hquiesce, hquiesce'⟩ := h
  have hcode : p.coding.code ≤ 1 := by cases p.coding <;> decide
  have hbit (b : Bool) : bitNat b ≤ 1 := by cases b <;> decide
  simp [badParameter, GroupMask.members, GroupMask.all, parameterRanges, parameterValues, firstOutOfRange, *]

end Sys2Proof.Machine
end

section
/-! PROOFS. The buffer unit and the collector: starvation, descriptor reads, messages and the arbiter's turns. -/

set_option Elab.async false

namespace Sys2Proof.Machine

/-! ## Starvation (R140) -/

/-- What makes a line starved, before it is asked whether an episode is in progress (R140). -/
def State.Starved (s : State) (l : LineId) : Prop :=
  s.run = .running ∧ (s.line l).state = .active ∧ (s.line l).params.attentionCollection = true ∧ (s.line l).attentionSet ≠ [] ∧
    (s.line l).buffers.held = [] ∧ (s.line l).buffers.fetch = none ∧
    ((s.line l).buffers.errored = true ∨ (s.line l).buffers.producer = (s.line l).buffers.consumer)

theorem State.wantsFetch_iff (s : State) (l : LineId) :
    s.wantsFetch l = true ↔ s.run = .running ∧ (s.line l).state = .active ∧ (s.line l).params.attentionCollection = true ∧
      (s.line l).attentionSet ≠ [] := by
  simp [State.wantsFetch, and_assoc]

theorem BufferUnit.dry_iff (b : BufferUnit) :
    b.dry = true ↔ b.held = [] ∧ b.fetch = none ∧ (b.errored = true ∨ b.producer = b.consumer) := by
  simp [BufferUnit.dry, and_assoc]

theorem State.starved_iff (s : State) (l : LineId) : s.Starved l ↔ s.wantsFetch l = true ∧ (s.line l).buffers.dry = true := by
  rw [State.wantsFetch_iff, BufferUnit.dry_iff, State.Starved]
  exact ⟨fun ⟨h1, h2, h3, h4, h5⟩ => ⟨⟨h1, h2, h3, h4⟩, h5⟩, fun ⟨⟨h1, h2, h3, h4⟩, h5⟩ => ⟨h1, h2, h3, h4, h5⟩⟩

/-- The three answers of the check for starvation (R140). -/
theorem checkStarved_of_held {l : LineId} {s : State} (h : (s.line l).buffers.held ≠ []) :
    checkStarved l s = s.updLine l (fun x => { x with collector := { x.collector with starved := false } }) :=
  if_pos (by simpa using h)

theorem checkStarved_of_starved {l : LineId} {s : State} (h : s.Starved l) (hnew : (s.line l).collector.starved = false) :
    checkStarved l s = raiseEvent (.bufferStarved l (s.line l).attentionSet.length)
      (s.updLine l (fun x => { x with collector := { x.collector with starved := true } })) := by
  obtain ⟨hwants, hdry⟩ := (s.starved_iff l).mp h
  have hheld : (s.line l).buffers.held = [] := ((s.line l).buffers.dry_iff.mp hdry).1
  rw [checkStarved]
  dsimp only
  rw [if_neg (by simp [hheld]), if_pos (by rw [hwants, hdry, hnew]; rfl)]

theorem checkStarved_of_neither {l : LineId} {s : State} (hheld : (s.line l).buffers.held = [])
    (h : ¬(s.Starved l ∧ (s.line l).collector.starved = false)) : checkStarved l s = s := by
  rw [checkStarved]
  dsimp only
  rw [if_neg (by simp [hheld]), if_neg]
  intro hc
  simp only [Bool.and_eq_true, Bool.not_eq_true'] at hc
  exact h ⟨(s.starved_iff l).mpr ⟨hc.1.1, hc.1.2⟩, hc.2⟩

/-- A check for starvation raises what a starvation raises, and sets the starved flag: nothing else (R140). -/
theorem checkStarved_eq (l : LineId) (s : State) : ∃ starved, checkStarved l s =
    (raiseAll (s.starvation l (s.line l)) s).updLine l (fun x => { x with collector := { x.collector with starved := starved } }) := by
  by_cases hheld : (s.line l).buffers.held = []
  · by_cases hstarved : s.Starved l ∧ (s.line l).collector.starved = false
    · obtain ⟨hs, hnew⟩ := hstarved
      refine ⟨true, ?_⟩
      obtain ⟨h1, h2, h3, h4, h5, h6, h7⟩ := hs
      rw [checkStarved_of_starved ⟨h1, h2, h3, h4, h5, h6, h7⟩ hnew, State.starvation, if_pos ⟨h1, h2, h3, h4, h5, h6, h7, hnew⟩,
        raiseEvent_updLine]
      rfl
    · refine ⟨(s.line l).collector.starved, ?_⟩
      rw [checkStarved_of_neither hheld hstarved, State.starvation, if_neg]
      · exact (s.updLine_self l _ rfl).symm
      · exact fun ⟨h1, h2, h3, h4, h5, h6, h7, hnew⟩ => hstarved ⟨⟨h1, h2, h3, h4, h5, h6, h7⟩, hnew⟩
  · refine ⟨false, ?_⟩
    rw [checkStarved_of_held hheld, State.starvation, if_neg (fun h => hheld h.2.2.2.2.1)]
    rfl

/-- At the end of a step the collector raises what a starvation raises, and sets its own flags: nothing else (R134, R140). -/
theorem settle_eq (l : LineId) (s : State) : ∃ claim starved, settle l s =
    (raiseAll (s.starvation l (s.line l)) s).updLine l
      (fun x => { x with collector := { x.collector with claim := claim, starved := starved } }) := by
  obtain ⟨starved, h⟩ := checkStarved_eq l s
  unfold settle checkClaim
  rw [h]
  split
  · exact ⟨true, starved, by rw [State.updLine_updLine]⟩
  · refine ⟨(s.line l).collector.claim, starved, State.updLine_congr ?_⟩
    rw [(raiseAll_reports _ s).line l]

theorem checkStarved_acts (l : LineId) (s : State) : State.Acts l s (checkStarved l s) (s.starvation l (s.line l)) [] := by
  obtain ⟨starved, h⟩ := checkStarved_eq l s
  rw [h]
  exact (raiseAll_acts l _ s).updLine rfl

/-! ## Descriptor reads (R85, R86) -/

/-- A descriptor that stays behind a usable head, or is a usable head itself, is held; an unusable head goes back (R85). -/
theorem endDescriptorRead_of_data (l : LineId) (d : List Byte) (s : State) :
    endDescriptorRead l (some d) s =
      flushInvalid l ((s.line l).buffers.held ++ [parseDescriptor d])
        ((s.updLine l (fun x => { x with buffers := { (s.line l).buffers with
            consumer := (s.line l).buffers.consumer + 1, fetch := none, held := (s.line l).buffers.held ++ [parseDescriptor d] } })).indexWrite
          (bufferConsumerOffset l) (leBytes 2 ((s.line l).buffers.consumer + 1).toNat)) := rfl

theorem endDescriptorRead_of_error (l : LineId) (s : State) :
    endDescriptorRead l none s = raiseEvent (.ringError l (bufferRingId l) (s.line l).buffers.consumer)
      (s.updLine l (fun x => { x with buffers := { (s.line l).buffers with errored := true, fetch := none } })) := rfl

/-- With a buffer held no line is starved, and the collector claims as soon as it wants to fetch and does not (R134, R140). -/
theorem settle_of_held {l : LineId} {s : State} (h : (s.line l).buffers.held ≠ []) :
    settle l s = s.updLine l (fun x => { x with collector := { x.collector with
      starved := false, claim := (s.wantsFetch l && !(s.line l).fetching) || x.collector.claim } }) := by
  have hwants : (s.updLine l (fun x => { x with collector := { x.collector with starved := false } })).wantsFetch l = s.wantsFetch l := by
    rw [State.wantsFetch, State.updLine_line_same, State.updLine_run]
    rfl
  have hheld : (s.line l).buffers.held.isEmpty = false := by simpa using h
  rw [settle, checkStarved_of_held h, checkClaim, hwants, State.updLine_line_same, State.updLine_updLine]
  dsimp only
  rw [hheld]
  have hfetching : ({ s.line l with collector := { (s.line l).collector with starved := false } } : Line).fetching = (s.line l).fetching := rfl
  rw [hfetching]
  split
  · next hc =>
    refine State.updLine_congr ?_
    simp only [Bool.and_eq_true, Bool.not_eq_true'] at hc
    simp [hc.1.1, hc.2]
  · next hc =>
    refine State.updLine_congr ?_
    have hno : (s.wantsFetch l && !(s.line l).fetching) = false := by simpa using hc
    rw [hno, Bool.false_or]

theorem flushInvalid_of_usable (l : LineId) {d : Descriptor} (rest : List Descriptor) (s : State) (h : d.usable = true) :
    flushInvalid l (d :: rest) s = setHeld l (d :: rest) s := if_pos h

theorem flushInvalid_singleton (l : LineId) {d : Descriptor} (s : State) (h : d.usable = false) :
    flushInvalid l [d] s = setHeld l [] (writeBack l (returnedOctets d 1) s) := by
  rw [flushInvalid, h]
  rfl

theorem writeBack_port (l : LineId) (d : List Byte) (s : State) :
    (s.port ++ [.write ((s.context.lineSection l).bufferRing.position (s.line l).buffers.writeBack 16) d]) <+: (writeBack l d s).port := by
  refine .trans ?_ (countRecord_reports _ _).port
  simp

/-- Settles O58: by the outcome of the read and what is held; the check for starvation by its three answers. -/
theorem descriptorReadHoldsTheDescriptor : Obligations.DescriptorReadHoldsTheDescriptor := by
  constructor
  · intro l id a d s hfound hlen hfetch b desc page
    have ended (result : ReadResult) : exec (.descriptorFetchDone l id result) s =
        .next (settle l (endDescriptorRead l (HostRead.data ⟨id, .descriptor l, a, 16⟩ result) (s.endRead id))) := by
      rw [show Instr.descriptorFetchDone l id result = (Reader.descriptor l).done id result from rfl, exec_done, finishRead_of_found hfound rfl]
      exact congrArg _ (if_pos (by rw [State.endRead_line]; exact hfetch))
    have held : exec (.descriptorFetchDone l id (.octets d)) s = .next (settle l (endDescriptorRead l (some d) (s.endRead id))) := by
      rw [ended, HostRead.data_of_length hlen]
    have settled (u : State) : ((settle l u).line l).buffers = (u.line l).buffers := by
      obtain ⟨claim, starved, h⟩ := settle_line l u
      rw [h]
    refine ⟨?_, ⟨_, ended _, ?_, ?_⟩, fun hnone hun => ⟨_, held, ?_, ?_⟩, fun head hhead hus => ⟨_, held, ?_, ?_⟩,
      fun hnone hus => ⟨_, held, ?_, ?_, ?_, ?_⟩⟩
    · exact decide_eq_true_iff
    · rw [settled]
      change ((endDescriptorRead l none (s.endRead id)).line l).buffers = _
      rw [endDescriptorRead_of_error, (raiseEvent_reports _ _).line l, State.updLine_line_same, State.endRead_line]
    · have hsame := ((s.sameOut_endRead id).trans (State.sameOut_updLine _ l
        (fun x => { x with buffers := { b with errored := true, fetch := none } }))).raiseEvent (.ringError l (bufferRingId l) b.consumer)
      have hread : endDescriptorRead l none (s.endRead id) = raiseEvent (.ringError l (bufferRingId l) b.consumer)
          ((s.endRead id).updLine l (fun x => { x with buffers := { b with errored := true, fetch := none } })) := by
        rw [endDescriptorRead_of_error, State.endRead_line]
      rw [← hsame.port, ← hread]
      exact (settle_touches l _).port
    · rw [settled, endDescriptorRead_of_data, State.endRead_line, hnone, List.nil_append, flushInvalid_singleton l _ hun]
      simp [setHeld, writeBack_line, State.indexWrite, b]
    · refine .trans ?_ (settle_touches l _).port
      rw [endDescriptorRead_of_data, State.endRead_line, hnone, List.nil_append, flushInvalid_singleton l _ hun, setHeld, State.updLine_port]
      have hback := writeBack_port l (returnedOctets desc 1) (((s.endRead id).updLine l (fun x => { x with buffers := { b with
        consumer := b.consumer + 1, fetch := none, held := [desc] } })).indexWrite (bufferConsumerOffset l) (leBytes 2 (b.consumer + 1).toNat))
      simpa [State.indexWrite, addrPlus, page] using hback
    · rw [settled, endDescriptorRead_of_data, State.endRead_line, hhead, List.singleton_append, flushInvalid_of_usable l _ _ hus]
      simp [setHeld, State.indexWrite, b, desc]
    · refine .trans ?_ (settle_touches l _).port
      rw [endDescriptorRead_of_data, State.endRead_line, hhead, List.singleton_append, flushInvalid_of_usable l _ _ hus]
      simp [setHeld, State.indexWrite, addrPlus, page, b]
    · rw [settled, endDescriptorRead_of_data, State.endRead_line, hnone, List.nil_append, flushInvalid_of_usable l _ _ hus]
      simp [setHeld, State.indexWrite, b, desc]
    all_goals
      have hread : endDescriptorRead l (some d) (s.endRead id) = setHeld l [desc] (((s.endRead id).updLine l (fun x => { x with buffers :=
          { b with consumer := b.consumer + 1, fetch := none, held := [desc] } })).indexWrite (bufferConsumerOffset l)
            (leBytes 2 (b.consumer + 1).toNat)) := by
        rw [endDescriptorRead_of_data, State.endRead_line, hnone, List.nil_append, flushInvalid_of_usable l _ _ hus]
      rw [hread, settle_of_held (by simp [setHeld])]
    · simp [setHeld, State.indexWrite]
    · simp
    · have hline : (setHeld l [desc] (((s.endRead id).updLine l (fun x => { x with buffers :=
          { b with consumer := b.consumer + 1, fetch := none, held := [desc] } })).indexWrite (bufferConsumerOffset l)
            (leBytes 2 (b.consumer + 1).toNat))).line l =
          { s.line l with buffers := { b with consumer := b.consumer + 1, fetch := none, held := [desc] } } := by
        simp [setHeld, State.indexWrite]
      have hrun : (setHeld l [desc] (((s.endRead id).updLine l (fun x => { x with buffers :=
          { b with consumer := b.consumer + 1, fetch := none, held := [desc] } })).indexWrite (bufferConsumerOffset l)
            (leBytes 2 (b.consumer + 1).toNat))).run = s.run := by
        simp [setHeld, State.indexWrite]
      have hattention : ({ s.line l with buffers := { b with consumer := b.consumer + 1, fetch := none, held := [desc] } } : Line).attentionSet =
          (s.line l).attentionSet := rfl
      have hfetching : ({ s.line l with buffers := { b with consumer := b.consumer + 1, fetch := none, held := [desc] } } : Line).fetching =
          (s.line l).fetching := rfl
      rw [State.updLine_line_same, hline, Bool.or_eq_true, Bool.and_eq_true, State.wantsFetch_iff, hline, hattention, hfetching, Bool.not_eq_true',
        hrun, and_assoc, and_assoc, and_assoc, or_comm]
  · intro l s x starved flagged
    exact ⟨checkStarved_of_held, checkStarved_of_starved, checkStarved_of_neither⟩

/-! ## The collector's choice and the arbiter's turns (R130, R135) -/

/-- The attention set stands in ascending address (R45). -/
theorem Line.attentionSet_ascending (x : Line) : x.attentionSet.Pairwise (· < ·) :=
  List.Pairwise.filter _ (List.pairwise_lt_range' 1)

/-- The collector chooses the first member at or above the rotation pointer, or the lowest (R135). -/
theorem Line.fetchChoice_spec {x : Line} (h : x.attentionSet ≠ []) :
    ∃ a, x.fetchChoice = some a ∧ a ∈ x.attentionSet ∧
      ∀ b, b ∈ x.attentionSet → (x.collector.rotation ≤ b → x.collector.rotation ≤ a ∧ a ≤ b) ∧ (a < x.collector.rotation → a ≤ b) := by
  have hsorted := x.attentionSet_ascending
  cases hfind : x.attentionSet.find? (fun a => decide (x.collector.rotation ≤ a)) with
  | some a =>
    obtain ⟨hrot, before, behind, hset, hbefore⟩ := List.find?_eq_some_iff_append.mp hfind
    have hrot : x.collector.rotation ≤ a := of_decide_eq_true hrot
    refine ⟨a, by rw [Line.fetchChoice, hfind], List.mem_of_find?_eq_some hfind, fun b hb => ⟨fun hb' => ⟨hrot, ?_⟩, fun hlt => by omega⟩⟩
    rw [hset, List.mem_append, List.mem_cons] at hb
    rw [hset] at hsorted
    obtain hb | rfl | hb := hb
    · have := hbefore b hb
      simp only [Bool.not_eq_true', decide_eq_false_iff_not] at this
      omega
    · exact le_refl b
    · exact (List.rel_of_pairwise_cons (List.pairwise_append.mp hsorted).2.1 hb).le
  | none =>
    obtain ⟨a, rest, hset⟩ := List.exists_cons_of_ne_nil h
    have hbelow (b : Nat) (hb : b ∈ x.attentionSet) : b < x.collector.rotation := by
      have := List.find?_eq_none.mp hfind b hb
      simpa using this
    refine ⟨a, by rw [Line.fetchChoice, hfind, hset, List.head?_cons], hset ▸ List.mem_cons_self, fun b hb => ⟨fun hb' => ?_, fun _ => ?_⟩⟩
    · exact absurd (hbelow b hb) (Nat.not_lt.mpr hb')
    · rw [hset] at hb hsorted
      obtain rfl | hb := List.mem_cons.mp hb
      · exact le_refl b
      · exact (List.rel_of_pairwise_cons hsorted hb).le

/-- The arbiter's choice: a pending start, then the slot of a cycle, then the two acyclic claimants in turn (R112, R130). -/
theorem Line.choose_spec (x : Line) :
    (x.engine.pendingStart = true → x.choose = some .start) ∧
      (x.engine.pendingStart = false → x.engine.state = .inCycle → x.choose = x.engine.slotClaim) ∧
      (x.engine.pendingStart = false → x.engine.state ≠ .inCycle →
        (x.collector.claim = false → x.choose = x.requestClaim) ∧
        (x.requestClaim = none → x.collector.claim = true → x.choose = some .fetch) ∧
        ∀ r, x.requestClaim = some r → x.collector.claim = true →
          (x.lastGrantee = .requestEngine → x.choose = some .fetch) ∧ (x.lastGrantee = .collector → x.choose = some r)) := by
  refine ⟨fun h => ?_, fun h hc => ?_, fun h hc => ⟨fun hclaim => ?_, fun hnone hclaim => ?_, fun r hr hclaim => ⟨fun hg => ?_, fun hg => ?_⟩⟩⟩
  · rw [choose, if_pos h]
  · rw [choose, h, if_pos hc]
    rfl
  · rw [choose, h, if_neg hc, hclaim]
    cases x.requestClaim <;> rfl
  · rw [choose, h, if_neg hc, hnone, hclaim]
    rfl
  · rw [choose, h, if_neg hc, hr, hclaim, hg]
    rfl
  · rw [choose, h, if_neg hc, hr, hclaim, hg]
    rfl

/-! ## A FETCH's message (R87, R137) -/

/-- A vector with one record more counted (R96). -/
def VectorState.counted (x : VectorState) (set : VectorSetting) : VectorState :=
  let n := min 255 (x.unreported + 1)
  if x.pending then { x with unreported := n }
  else if n = set.moderation then ⟨n, none, true⟩
  else ⟨n, if x.unreported = 0 ∧ set.holdTime ≠ 0 then some set.holdTime else x.holdTimer, false⟩

theorem countRecord_vector_same (v : VectorId) (s : State) : (countRecord v s).vector v = (s.vector v).counted (s.context.setting v) := by
  unfold countRecord VectorState.counted
  dsimp only
  split
  · exact State.setVector_vector_same ..
  · next hp =>
    split
    · rw [raiseVector_eq]
      cases v <;> rfl
    · rw [State.setVector_vector_same]
      simp only [Bool.not_eq_true] at hp
      rw [hp]

/-- `t` agrees with `s` in the context and in every vector. -/
structure State.SameVectors (s t : State) : Prop where
  context : t.context = s.context
  vector : ∀ v, t.vector v = s.vector v

theorem State.SameVectors.refl (s : State) : s.SameVectors s := ⟨rfl, fun _ => rfl⟩

theorem State.SameVectors.trans {s t u : State} (h : s.SameVectors t) (k : t.SameVectors u) : s.SameVectors u :=
  ⟨k.context.trans h.context, fun v => (k.vector v).trans (h.vector v)⟩

/-- What a record counted makes of the vectors is decided by the vectors and their settings (R96). -/
theorem State.SameVectors.countRecord {s t : State} (h : s.SameVectors t) (v : VectorId) : (countRecord v s).SameVectors (countRecord v t) := by
  refine ⟨by rw [(countRecord_reports v t).context_eq, (countRecord_reports v s).context_eq, h.context], fun w => ?_⟩
  by_cases hw : w = v
  · rw [hw, countRecord_vector_same, countRecord_vector_same, h.vector, h.context]
  · rw [countRecord_vector_ne _ hw, countRecord_vector_ne _ hw, h.vector]

theorem State.SameVectors.countRecords {s t : State} (h : s.SameVectors t) (v : VectorId) (n : Nat) :
    ((Machine.countRecord v)^[n] s).SameVectors ((Machine.countRecord v)^[n] t) := by
  induction n generalizing s t with
  | zero => exact h
  | succ n ih => exact ih (h.countRecord v)

theorem State.sameVectors_updLine (s : State) (l : LineId) (f : Line → Line) : s.SameVectors (s.updLine l f) :=
  ⟨by simp, fun v => by simp⟩

theorem State.sameVectors_hostWrite (s : State) (a : Addr) (d : List Byte) : s.SameVectors (s.hostWrite a d) := ⟨rfl, fun v => by simp⟩

theorem writeBack_sameVectors (l : LineId) (d : List Byte) (s : State) : (countRecord (lineVector l) s).SameVectors (writeBack l d s) :=
  ((s.sameVectors_hostWrite _ d).trans (State.sameVectors_updLine _ l _)).countRecord (lineVector l)

theorem setHeld_wrote (l : LineId) (ds : List Descriptor) (s : State) : s.Wrote (setHeld l ds s) [] := s.updLine_wrote l _

theorem setHeld_sameVectors (l : LineId) (ds : List Descriptor) (s : State) : s.SameVectors (setHeld l ds s) := s.sameVectors_updLine l _

/-- The descriptors that the flush writes back: the unusable ones ahead of the first usable. -/
theorem flushInvalid_spec (l : LineId) (ds : List Descriptor) (s : State) :
    (flushInvalid l ds s).line l = { s.line l with buffers := { (s.line l).buffers with
        held := ds.dropWhile (fun d => !d.usable)
        writeBack := (s.line l).buffers.writeBack + BitVec.ofNat 16 (ds.takeWhile (fun d => !d.usable)).length } } ∧
      s.Wrote (flushInvalid l ds s)
        (s.writeBacks l (s.line l).buffers.writeBack ((ds.takeWhile (fun d => !d.usable)).map (fun d => returnedOctets d 1))) ∧
      ((countRecord (lineVector l))^[(ds.takeWhile (fun d => !d.usable)).length] s).SameVectors (flushInvalid l ds s) := by
  induction ds generalizing s with
  | nil => exact ⟨by simp [flushInvalid, setHeld], setHeld_wrote l [] s, setHeld_sameVectors l [] s⟩
  | cons d rest ih =>
    rw [flushInvalid]
    cases hd : d.usable
    · obtain ⟨hline, hwrote, hvectors⟩ := ih (writeBack l (returnedOctets d 1) s)
      rw [writeBack_line, State.writeBacks_congr (writeBack_touches l _ s).context_eq] at hwrote
      simp only [hd, Bool.not_false, List.dropWhile_cons_of_pos, List.takeWhile_cons_of_pos, List.length_cons, Bool.false_eq_true, if_false]
      refine ⟨?_, (writeBack_wrote l _ s).trans hwrote, ?_⟩
      · rw [hline, writeBack_line, ← index_succ_add]
      · exact ((writeBack_sameVectors l _ s).countRecords _ _).trans hvectors
    · rw [if_pos rfl]
      exact ⟨by simp [setHeld, hd], by simpa [hd, State.writeBacks] using setHeld_wrote l (d :: rest) s,
        by simpa [hd] using setHeld_sameVectors l (d :: rest) s⟩

/-- The head that a message fills: the payload that fits, the FILLED write-back, and the flush behind it (R87, R85). -/
theorem fillHead_spec {l : LineId} {s : State} {d : Descriptor} {rest : List Descriptor} (h : (s.line l).buffers.held = d :: rest) (a : Nat)
    (function : Byte) (payload : List Byte) (more : Bool) :
    let k := min payload.length d.length
    let invalid := rest.takeWhile (fun d => !d.usable)
    let t := fillHead l a function payload more s
    t.line l = { s.line l with buffers := { (s.line l).buffers with
        held := rest.dropWhile (fun d => !d.usable)
        writeBack := (s.line l).buffers.writeBack + BitVec.ofNat 16 (1 + invalid.length) } } ∧
      s.Wrote t ((if k = 0 then [] else [PortOp.write d.address (payload.take k)]) ++ s.writeBacks l (s.line l).buffers.writeBack
        (filledOctets d a function k payload.length more :: invalid.map (fun d => returnedOctets d 1))) ∧
      ((countRecord (lineVector l))^[1 + invalid.length] s).SameVectors t := by
  intro k invalid t
  let u := if k = 0 then s else s.hostWrite d.address (payload.take k)
  let v := writeBack l (filledOctets d a function k payload.length more) u
  have ht : t = flushInvalid l rest v := by
    simp only [t, fillHead, h]
    rfl
  have hpayload : s.Wrote u (if k = 0 then [] else [PortOp.write d.address (payload.take k)]) := by
    simp only [u]
    split
    · exact .refl s
    · exact s.hostWrite_wrote _ _
  have hline : u.line l = s.line l := by
    simp only [u]
    split <;> simp
  have hsame : s.SameVectors u := by
    simp only [u]
    split
    · exact .refl s
    · exact s.sameVectors_hostWrite _ _
  obtain ⟨fline, fwrote, fvectors⟩ := flushInvalid_spec l rest v
  have hvline : v.line l = { s.line l with buffers := { (s.line l).buffers with writeBack := (s.line l).buffers.writeBack + 1 } } := by
    simp only [v, writeBack_line, hline]
  have hcontext : v.context = s.context := (writeBack_touches l _ u).context_eq.trans hsame.context
  have hfilled := writeBack_wrote l (filledOctets d a function k payload.length more) u
  rw [hline, hsame.context] at hfilled
  rw [hvline, State.writeBacks_congr hcontext] at fwrote
  refine ⟨?_, ?_, ?_⟩
  · rw [ht, fline, hvline, Nat.add_comm 1, ← index_succ_add]
  · rw [ht]
    exact hpayload.trans (hfilled.trans fwrote)
  · rw [ht, Nat.add_comm 1]
    exact (((hsame.countRecord _).trans (writeBack_sameVectors l _ u)).countRecords _ _).trans fvectors

/-- A message filled into the head leaves the station records and the collector. -/
theorem fetchOutcome_of_message {l : LineId} {a : Nat} {attn : Bool} {function : Byte} {payload : List Byte} {s : State} (h : payload ≠ []) :
    fetchOutcome l a (.success attn function payload) s =
      moveRotation l a (fillHead l a function payload attn (if attn then s else clearAttention l a s)) := by
  rw [fetchOutcome, if_neg (by simpa using h)]

/-- Settles O53: the grant by the collector's choice, the arbiter by its claims, the outcome by whether there is a message and a head for it, and the
two records by their layouts. -/
theorem arbiterAlternatesAndFetchesRotate : Obligations.ArbiterAlternatesAndFetchesRotate := by
  refine ⟨?grant, ?choice, ?outcome, ?records⟩
  case grant =>
    intro l s hrun hstate hjob hchoose x ready turn
    have hexec : exec (.lineGrant l) s = .next (grantFetch l s) := exec_lineGrant hrun hstate hjob hchoose
    have hturn : (setGrantee l .collector s).updLine l (fun x => { x with collector := { x.collector with claim := false } }) = s.updLine l turn := by
      rw [setGrantee, State.updLine_updLine]
    have hready : ((s.updLine l turn).wantsFetch l && !((s.updLine l turn).line l).buffers.held.isEmpty) = true ↔ ready := by
      rw [Bool.and_eq_true, State.wantsFetch_iff, State.updLine_line_same, State.updLine_run]
      refine Iff.trans (b := (s.run = .running ∧ x.state = .active ∧ x.params.attentionCollection = true ∧ x.attentionSet ≠ []) ∧
        (!x.buffers.held.isEmpty) = true) Iff.rfl ?_
      simp [hrun, hstate, ready, x, and_assoc]
    refine ⟨fun hno => ?_, fun hyes => ?_⟩
    · rw [hexec, grantFetch, hturn, if_neg (mt hready.mp hno)]
    · obtain ⟨a, hchoice, hmem, hfirst⟩ := Line.fetchChoice_spec hyes.2.1
      obtain ⟨h1, h62, hattention⟩ := (x.mem_attentionSet a).mp hmem
      refine ⟨a, hattention, h1, h62, fun b hb1 hb62 hb => hfirst b ((x.mem_attentionSet b).mpr ⟨hb1, hb62, hb⟩), ?_⟩
      have hchoice' : ((s.updLine l turn).line l).fetchChoice = some a := by
        rw [State.updLine_line_same]
        exact hchoice
      rw [hexec, grantFetch, hturn, if_pos (hready.mpr hyes), hchoice']
      simp only [handExchange, giveJob, State.updLine_updLine, State.updLine_line_same]
      rfl
  case choice =>
    intro x
    exact x.choose_spec
  case outcome =>
    intro l a function attn payload s x b turned flagged
    have hmove (u : State) : moveRotation l a u = u.updLine l turned := rfl
    have hclear : (if attn then s else clearAttention l a s) = s.updLine l flagged := by
      cases attn
      · rfl
      · exact (s.updLine_self l _ rfl).symm
    have hbuffers : (flagged x).buffers = x.buffers := by
      cases attn
      · have hrest := congrArg Line.buffers (x.setStation_rest a { x.station a with attention := false })
        exact hrest
      · rfl
    refine ⟨fun o ho => ?_, fun hnone => ?_, fun d rest hpayload hheld => ?_⟩
    · cases o with
      | success at' f p => exact absurd rfl (ho at' f p)
      | _ => rfl
    · by_cases hpayload : payload = []
      · rw [fetchOutcome, hclear, if_pos (by simp [hpayload]), hmove, State.updLine_updLine]
      · have hheld : ((s.updLine l flagged).line l).buffers.held = [] := by
          rw [State.updLine_line_same, hbuffers]
          exact hnone.resolve_left hpayload
        rw [fetchOutcome_of_message hpayload, hclear, fillHead, hheld, hmove, State.updLine_updLine]
    · intro t k invalid
      have hheld' : ((s.updLine l flagged).line l).buffers.held = d :: rest := by
        rw [State.updLine_line_same, hbuffers]
        exact hheld
      have ht : t = (fillHead l a function payload attn (s.updLine l flagged)).updLine l turned := by
        simp only [t]
        rw [fetchOutcome_of_message hpayload, hclear, hmove]
      obtain ⟨fline, fwrote, fvectors⟩ := fillHead_spec hheld' a function payload attn
      rw [State.updLine_line_same, hbuffers] at fline fwrote
      rw [State.writeBacks_congr (State.updLine_context ..)] at fwrote
      refine ⟨?_, ?_, fun v => ?_, ?_⟩
      · rw [ht, State.updLine_line_same, fline]
      · rw [ht, State.updLine_events, fillHead_events, State.updLine_events]
      · rw [ht, State.updLine_vector]
        exact (((s.sameVectors_updLine l flagged).countRecords _ _).trans fvectors).vector v
      · rw [ht, (((s.updLine_wrote l flagged).trans fwrote).trans (State.updLine_wrote _ l turned)).newWrites, List.append_nil]
        rfl
  case records =>
    intro d a stored full reason function more filled returned
    obtain ⟨f1, f2, f3, f4, f5, f6, f7, f8, f9, f10, f11⟩ := filledOctets_fields d a function stored full more
    exact ⟨f1, f2, f3, f4, f5, f6, f7, f8, f9, f10, f11, returnedOctets_fields d reason⟩

end Sys2Proof.Machine
end

section
/-! PROOFS. Request intake and the request engine: the end of a record's read, ABORT, and the selection of the candidate. -/

set_option Elab.async false

namespace Sys2Proof.Machine

/-! ## The end of a request record read (R59, R177) -/

theorem Line.reportedState_congr {x y : Line} (h : y.stations = x.stations) (a : Nat) : y.reportedState a = x.reportedState a := by
  simp only [Line.reportedState, Line.station, h]

/-- Settles O32: the read that intake waits for is the one that ends, and the run state decides whether the record is looked at. -/
theorem requestReadTakesTheRecord : Obligations.RequestReadTakesTheRecord := by
  intro l id a d s hread hfetch hlength k next
  have ended (result : ReadResult) : exec (.requestFetchDone l id result) s =
      .next (endRequestRead l (HostRead.data ⟨id, .request l, a, 32⟩ result) (s.endRead id)) := by
    rw [show Instr.requestFetchDone l id result = (Reader.request l).done id result from rfl, exec_done, finishRead_of_found hread rfl]
    exact congrArg _ (if_pos (by simpa using hfetch))
  have hdata : HostRead.data ⟨id, .request l, a, 32⟩ (.octets d) = some d := HostRead.data_of_length hlength
  have hnext : (((s.endRead id).updLine l (fun x => { x with intake := { k with consumer := k.consumer + 1, fetch := none } })).indexWrite
      (requestConsumerOffset l) (leBytes 2 (k.consumer + 1).toNat)) = next := by
    simp only [State.indexWrite, addrPlus, State.updLine_context]
    rfl
  have taken : endRequestRead l (some d) (s.endRead id) = if s.run = .stopping then
      complete l (uncheckedCompletion d k.consumer (next.line l)) next else takeRecord l k.consumer d next := by
    rw [← show next.run = s.run by simp [next], ← hnext]
    simp only [endRequestRead, State.endRead_line, k]
  refine ⟨fun hrun => ?_, fun hrun => ?_, ?_⟩
  · rw [ended, hdata, taken, if_neg hrun]
  · rw [ended, hdata, taken, if_pos hrun, uncheckedCompletion,
      Line.reportedState_congr (x := s.line l) (show (next.line l).stations = (s.line l).stations by simp [next])]
  · rw [ended]
    simp [endRequestRead, HostRead.data, k]

/-! ## ABORT (R74, R75) -/

/-- Several entries completed in turn write their completions and nothing else into host memory. -/
theorem foldl_completeEntry_wrote (l : LineId) (how : Entry → Ending) (es : List Entry) (s : State) :
    s.Wrote (es.foldl (fun s e => completeEntry l (how e) s e) s)
      (s.completionWrites l (s.line l).completion.producer (es.map (fun e => e.completion (s.line l) (how e)))) := by
  induction es generalizing s with
  | nil => exact .refl s
  | cons e es ih =>
    have hrest := ih (completeEntry l (how e) s e)
    rw [State.completionWrites_congr (completeEntry_touches l (how e) s e).context_eq,
      show (completeEntry l (how e) s e).line l = _ from complete_line ..,
      List.map_congr_left fun e' _ => e'.completion_congr (x := s.line l) rfl (how e')] at hrest
    exact (complete_wrote l (e.completion (s.line l) (how e)) s).trans hrest

theorem finishAll_wrote (l : LineId) (p : Entry → Bool) (how : Entry → Ending) (s : State) :
    s.Wrote (finishAll l p how s) (s.completionWrites l (s.line l).completion.producer
      (((s.line l).entries.filter p).map (fun e => e.completion (s.line l) (how e)))) := by
  have h := foldl_completeEntry_wrote l how ((s.line l).entries.filter p)
    (s.updLine l (fun x => { x with entries := x.entries.filter (fun e => !p e) }))
  rw [State.updLine_line_same, State.completionWrites_congr (s.updLine_context l _)] at h
  exact (s.updLine_wrote l _).trans h

theorem Line.markRequestExchange_eq (x : Line) : x.markRequestExchange = { x with job := x.markRequestExchange.job } := by
  unfold Line.markRequestExchange
  split
  · split <;> rfl
  · rfl

/-- The stop mark depends on what is in flight alone (R18). -/
theorem Line.markRequestExchange_job_congr {x y : Line} (h : y.job = x.job) : y.markRequestExchange.job = x.markRequestExchange.job := by
  unfold Line.markRequestExchange
  rw [h]
  split
  · split
    · rfl
    · exact h
  · exact h

theorem Entry.isInFlight_of_isDoing {e : Entry} {w : Work} (h : e.isDoing w = true) : e.isInFlight = true := by
  rw [Entry.isInFlight, of_decide_eq_true h]

/-- The line after an ABORT has ended what waits and marked what is in flight, before its own completion (R75). -/
def Line.aborted (x : Line) (sel : AbortSelector) : Line :=
  { x with
    entries := (x.entries.filter (fun e => !(sel.hits e && !e.isInFlight))).map (fun e => if sel.hits e then { e with abortMark := true } else e)
    completion := { x.completion with
      producer := x.completion.producer + BitVec.ofNat 16 (x.entries.filter (fun e => sel.hits e && !e.isInFlight)).length }
    job := if x.entries.any (fun e => sel.hits e && e.isDoing .onLine) then x.markRequestExchange.job else x.job }

/-- Among the entries that an ABORT leaves in the list, those it hits are in flight. -/
theorem map_mark_of_left (sel : AbortSelector) (es : List Entry) :
    (es.filter (fun e => !(sel.hits e && !e.isInFlight))).map (fun e => if sel.hits e && e.isInFlight then { e with abortMark := true } else e) =
      (es.filter (fun e => !(sel.hits e && !e.isInFlight))).map (fun e => if sel.hits e then { e with abortMark := true } else e) := by
  refine List.map_congr_left fun e he => ?_
  have hleft := (List.mem_filter.mp he).2
  cases hhit : sel.hits e <;> simp_all

/-- An ABORT as the completion of its line's aborted state (R75). -/
theorem executeAbort_eq (l : LineId) (a : Entry) (sel : AbortSelector) (s : State) :
    executeAbort l a sel s =
      (let x := s.line l
       let u := (finishAll l (fun e => sel.hits e && !e.isInFlight) (fun _ => ⟨.aborted, 0, false, false⟩) s).updLine l (fun _ => x.aborted sel)
       complete l (a.completion x ⟨.ok, (x.entries.filter (fun e => sel.hits e && !e.isInFlight)).length, false,
         x.entries.any (fun e => sel.hits e && e.isInFlight)⟩) u) := by
  have hany : (s.line l).entries.any (fun e => (sel.hits e && e.isInFlight) && e.isDoing .onLine) =
      (s.line l).entries.any (fun e => sel.hits e && e.isDoing .onLine) := by
    congr 1
    funext e
    cases hdoing : e.isDoing .onLine
    · simp
    · simp [Entry.isInFlight_of_isDoing hdoing]
  unfold executeAbort
  dsimp only
  rw [hany]
  cases hmark : (s.line l).entries.any (fun e => sel.hits e && e.isDoing .onLine)
  · rw [if_neg Bool.false_ne_true, completeEntry]
    refine congrArg₂ (complete l) ?_ (State.updLine_congr ?_)
    · exact a.completion_congr (by simp [finishAll_line]) _
    · simp only [finishAll_line, Line.aborted, hmark, map_mark_of_left, if_false, Bool.false_eq_true]
  · rw [if_pos rfl, completeEntry, State.updLine_updLine]
    refine congrArg₂ (complete l) ?_ (State.updLine_congr ?_)
    · rw [State.updLine_line_same, Line.markRequestExchange_eq]
      exact a.completion_congr (by simp [finishAll_line]) _
    · rw [Line.markRequestExchange_eq, Line.markRequestExchange_job_congr (x := s.line l) (by simp [finishAll_line])]
      simp only [finishAll_line, Line.aborted, hmark, map_mark_of_left, if_true]

/-- Settles O34: the aborted line, and the writes of the completions of what waited, with the ABORT's own behind them. -/
theorem abortWithdrawsMatchingTraffic : Obligations.AbortWithdrawsMatchingTraffic := by
  intro l a sel s x hit gone t y
  have ht : t = complete l (a.completion x ⟨.ok, gone.length, false, x.entries.any (fun e => hit e && e.isInFlight)⟩)
      ((finishAll l (fun e => sel.hits e && !e.isInFlight) (fun _ => ⟨.aborted, 0, false, false⟩) s).updLine l (fun _ => x.aborted sel)) :=
    executeAbort_eq l a sel s
  have hy : y = { x.aborted sel with completion := { (x.aborted sel).completion with producer := (x.aborted sel).completion.producer + 1 } } := by
    show t.line l = _
    rw [ht, complete_line, State.updLine_line_same]
  have hwrote := ((finishAll_wrote l (fun e => sel.hits e && !e.isInFlight) (fun _ => ⟨.aborted, 0, false, false⟩) s).trans
    (State.updLine_wrote _ l (fun _ => x.aborted sel))).trans (complete_wrote l
      (a.completion x ⟨.ok, gone.length, false, x.entries.any (fun e => hit e && e.isInFlight)⟩) _)
  refine ⟨by rw [hy]; rfl, ?_, by rw [hy]; rfl, by rw [hy]; rfl, by rw [hy]; rfl, by rw [hy]; rfl, ?_, ?_, fun hbody => ?_⟩
  · rw [hy, Nat.add_comm gone.length 1, BitVec.ofNat_add]
    show x.completion.producer + BitVec.ofNat 16 gone.length + 1 = _
    rw [BitVec.add_assoc, BitVec.add_comm (BitVec.ofNat 16 gone.length)]
    rfl
  · rw [ht, complete_events, State.updLine_events, finishAll_events]
  · rw [ht, hwrote.newWrites, State.completionWrites_append, List.append_nil]
    refine congrArg₂ _ rfl ?_
    rw [State.completionWrites_congr
      (((finishAll_touches l (fun e => sel.hits e && !e.isInFlight) (fun _ => ⟨.aborted, 0, false, false⟩) s).trans
        (State.updLine_touches _ l (fun _ => x.aborted sel))).context_eq).symm]
    rw [← State.completionWrites_singleton]
    have hhit : hit = sel.hits := funext fun e => by cases sel <;> rfl
    have hgone : gone = x.entries.filter (fun e => sel.hits e && !e.isInFlight) := by rw [← hhit]
    rw [hgone, hhit, State.updLine_line_same, List.length_map]
    rfl
  · simp [Entry.completion, hbody, Body.reportStation, Line.reportedState]

/-! ## Selection (R46, R64, R65) -/

/-- A master wake's LINE_STATE, and the line then in WAKING with the tone going out (R152). -/
theorem beginMasterWake_acts (l : LineId) (s : State) :
    State.Acts l s (beginMasterWake l s) [.lineState l (s.line l).state .waking .masterWake] [] :=
  (moveLine_acts l .waking .masterWake s).updLine rfl

theorem beginMasterWake_line (l : LineId) (s : State) :
    (beginMasterWake l s).line l =
      { s.line l with
        state := .waking
        job := some ⟨.tone (s.line l).params.wakeToneLength, .toning⟩
        reception := none
        detector := .disarmed
        wake := { WakeSequence.fresh with phase := .masterTone, masterTone := true } } := by
  rw [beginMasterWake, State.updLine_line_same, moveLine_line]

/-- Settles O35: by the line state, in ACTIVE by the judgement of the request, and then by whether it has a payload. -/
theorem trafficSelectJudgesTheCandidate : Obligations.TrafficSelectJudgesTheCandidate := by
  constructor
  · intro l i e s hrun hselect hcandidate hentry x ends becomes
    have hexec : exec (.trafficSelect l) s = .next (selectTraffic l i e s) := by
      change execTrafficSelect l s = _
      simp only [execTrafficSelect, hrun, hselect, hcandidate, hentry, and_self, if_true]
    refine ⟨fun h => ?_, fun h hauto => ?_, fun h hauto => ?_, fun h status hstatus => ?_, fun h hnone => ⟨fun hlength => ?_, fun hlength => ?_⟩⟩
    · simp only [ends, hexec, selectTraffic, show (s.line l).state = .faulted from h, if_true]
    · simp only [ends, hexec, selectTraffic, show (s.line l).state = .rest from h, show (s.line l).params.autoWake = false from hauto]
      rfl
    · have hselected : selectTraffic l i e s = beginMasterWake l s := by
        simp only [selectTraffic, show (s.line l).state = .rest from h, show (s.line l).params.autoWake = true from hauto]
        rfl
      refine ⟨beginMasterWake l s, by rw [hexec, hselected], ?_⟩
      have hsequence : (beginMasterWake l s).events.sequence = s.events.sequence + 1 := (beginMasterWake_acts l s).raises.sequence
      rw [beginMasterWake_line]
      exact ⟨rfl, rfl, rfl, rfl, rfl, hsequence⟩
    · simp only [ends, hexec, selectTraffic, show (s.line l).state = .active from h, show (s.line l).judgeTraffic e.body = _ from hstatus]
      rfl
    all_goals
      have hprepare : selectTraffic l i e s = prepareTraffic l i e s := by
        simp only [selectTraffic, show (s.line l).state = .active from h, show (s.line l).judgeTraffic e.body = _ from hnone]
        rfl
      rw [hexec, hprepare, prepareTraffic]
    · exact congrArg _ (if_pos hlength)
    · exact congrArg _ (if_neg hlength)
  · intro x probe noRetry a f n out cap inn state exchange send
    refine ⟨fun h => ⟨?_, fun ha => if_pos ⟨ha, h⟩⟩, fun h => ⟨?_, if_neg fun hc => ?_⟩, fun hd ho => ⟨?_, if_neg fun hc => hd hc.2⟩, by simp [Line.judgeTraffic]⟩
    · simp only [exchange, Line.judgeTraffic, show (x.station a).state = .disabled from h]
    · simp only [exchange, Line.judgeTraffic, show (x.station a).state = .offline from h]
    · exact absurd (h.symm.trans hc.2) (by decide)
    · simp only [exchange, Line.judgeTraffic]
      split
      · next hstate => exact absurd hstate hd
      · next hstate => exact absurd hstate ho
      · rfl

end Sys2Proof.Machine
end

section
/-! PROOFS. Events raised before a line's changes: a form to which the steps of the wake sequence and of a LINE_RECOVER are brought; rest and wake. -/

set_option Elab.async false

namespace Sys2Proof.Machine

/-! ## Events raised and one line changed (R90, R100) -/

/-- `s` with these events raised and then one line changed by `f`. -/
def State.raised (s : State) (l : LineId) (es : List Event) (f : Line → Line) : State := (raiseAll es s).updLine l f

section
variable (s : State) (l : LineId) (es : List Event) (f : Line → Line)

@[simp] theorem State.raised_line : (s.raised l es f).line l = f (s.line l) := by
  rw [State.raised, State.updLine_line_same, (raiseAll_reports es s).line l]

theorem State.raised_touches : State.Touches l s (s.raised l es f) := ((raiseAll_reports es s).touches l).trans (State.updLine_touches _ l f)

@[simp] theorem State.raised_run : (s.raised l es f).run = s.run := (s.raised_touches l es f).run_eq

@[simp] theorem State.raised_context : (s.raised l es f).context = s.context := (s.raised_touches l es f).context_eq

@[simp] theorem State.raised_port : (s.raised l es f).port = (raiseAll es s).port := State.updLine_port ..

theorem State.raised_newWrites : s.newWrites (s.raised l es f) = s.newWrites (raiseAll es s) := by
  rw [State.newWrites, State.newWrites, State.raised_port]

theorem State.raised_wrote : s.Wrote (s.raised l es f) (s.newWrites (raiseAll es s)) := by
  rw [← s.raised_newWrites l es f]
  exact .of_port (by simpa using (raiseAll_reports es s).port)

theorem State.updLine_eq_raised : s.updLine l f = s.raised l [] f := rfl

theorem State.raised_updLine (g : Line → Line) : (s.raised l es f).updLine l g = s.raised l es (fun x => g (f x)) := State.updLine_updLine ..

theorem State.raised_congr {f g : Line → Line} (h : f (s.line l) = g (s.line l)) : s.raised l es f = s.raised l es g :=
  State.updLine_congr (by rwa [(raiseAll_reports es s).line l])

theorem raiseEvent_raised (e : Event) : raiseEvent e (s.raised l es f) = s.raised l (es ++ [e]) f := by
  rw [State.raised, raiseEvent_updLine, State.raised, raiseAll_append]
  rfl

theorem raiseAll_raised (fs : List Event) : raiseAll fs (s.raised l es f) = s.raised l (es ++ fs) f := by
  rw [State.raised, raiseAll_updLine, State.raised, raiseAll_append]

theorem moveLine_raised (new : LineState) (r : LineReason) :
    moveLine l new r (s.raised l es f) =
      s.raised l (es ++ [.lineState l (f (s.line l)).state new r]) (fun x => { f x with state := new }) := by
  rw [moveLine, State.raised_updLine, raiseEvent_raised, State.raised_line]

theorem moveLine_eq_raised (new : LineState) (r : LineReason) :
    moveLine l new r s = s.raised l [.lineState l (s.line l).state new r] (fun x => { x with state := new }) := by
  rw [moveLine, raiseEvent_updLine]
  rfl

theorem State.raised_acts (h : (f (s.line l)).completion.producer = (s.line l).completion.producer) : State.Acts l s (s.raised l es f) es [] :=
  (raiseAll_acts l es s).updLine (by rwa [(raiseAll_reports es s).line l])

/-- What a starvation raises depends on the run state, on whether an episode is in progress, and on four parts of the line (R140). -/
theorem State.starvation_congr {s t : State} {l : LineId} {x y : Line} (hrun : t.run = s.run)
    (hepisode : (t.line l).collector.starved = (s.line l).collector.starved) (hstate : y.state = x.state) (hparams : y.params = x.params)
    (hstations : y.stations = x.stations) (hbuffers : y.buffers = x.buffers) : t.starvation l y = s.starvation l x := by
  have hset : y.attentionSet = x.attentionSet := by simp only [Line.attentionSet, Line.station, hstations]
  simp only [State.starvation, hrun, hepisode, hstate, hparams, hset, hbuffers]

theorem State.starvation_eq_nil {s : State} {l : LineId} {x : Line} (h : x.state ≠ .active) : s.starvation l x = [] :=
  if_neg fun hc => h hc.2.1

theorem checkStarved_raised (h : (f (s.line l)).collector.starved = (s.line l).collector.starved) : ∃ starved,
    checkStarved l (s.raised l es f) = s.raised l (es ++ s.starvation l (f (s.line l)))
      (fun x => { f x with collector := { (f x).collector with starved := starved } }) := by
  obtain ⟨starved, hcheck⟩ := checkStarved_eq l (s.raised l es f)
  refine ⟨starved, ?_⟩
  rw [hcheck, State.raised_line, raiseAll_raised, State.raised_updLine,
    State.starvation_congr (s := s) (State.raised_run ..) (by rw [State.raised_line, h]) rfl rfl rfl rfl]

end

/-- Once the collector has looked, an episode is in progress if the line is starved: a second look raises nothing (R140). -/
theorem checkStarved_starvation (l : LineId) (s : State) : (checkStarved l s).starvation l ((checkStarved l s).line l) = [] := by
  by_cases hheld : (s.line l).buffers.held = []
  · by_cases hstarved : s.Starved l ∧ (s.line l).collector.starved = false
    · rw [checkStarved_of_starved hstarved.1 hstarved.2, State.starvation, if_neg]
      simp [(raiseEvent_reports _ _).line l]
    · rw [checkStarved_of_neither hheld hstarved, State.starvation, if_neg]
      exact fun ⟨h1, h2, h3, h4, h5, h6, h7, hnew⟩ => hstarved ⟨⟨h1, h2, h3, h4, h5, h6, h7⟩, hnew⟩
  · rw [checkStarved_of_held hheld, State.starvation, if_neg]
    simp [hheld]

/-- A step's last look raises nothing when the collector has looked since the line last changed for it (R140). -/
theorem settle_of_checked {l : LineId} {s t : State} (hrun : t.run = s.run)
    (hline : (t.line l).state = ((checkStarved l s).line l).state ∧ (t.line l).params = ((checkStarved l s).line l).params ∧
      (t.line l).stations = ((checkStarved l s).line l).stations ∧ (t.line l).buffers = ((checkStarved l s).line l).buffers ∧
      (t.line l).collector.starved = ((checkStarved l s).line l).collector.starved) :
    ∃ claim starved, settle l t = t.updLine l (fun x => { x with collector := { x.collector with claim := claim, starved := starved } }) := by
  obtain ⟨hstate, hparams, hstations, hbuffers, hepisode⟩ := hline
  obtain ⟨claim, starved, h⟩ := settle_eq l t
  refine ⟨claim, starved, ?_⟩
  rw [h, State.starvation_congr (s := checkStarved l s) (hrun.trans (checkStarved_touches l s).run_eq.symm) hepisode hstate hparams hstations hbuffers,
    checkStarved_starvation]
  rfl

/-- Outside ACTIVE a step's last look raises nothing (R140). -/
theorem settle_of_not_active {l : LineId} {s : State} (h : (s.line l).state ≠ .active) :
    ∃ claim starved, settle l s = s.updLine l (fun x => { x with collector := { x.collector with claim := claim, starved := starved } }) := by
  obtain ⟨claim, starved, hsettle⟩ := settle_eq l s
  rw [State.starvation_eq_nil h] at hsettle
  exact ⟨claim, starved, hsettle⟩

/-! ## A completion behind events (R80, R100) -/

/-- The write of a completion depends on the producer index of its line and on the context alone (R80). -/
theorem State.completionWrite_congr {s t : State} {l : LineId} (hcontext : t.context = s.context)
    (hproducer : (t.line l).completion.producer = (s.line l).completion.producer) (c : Completion) :
    t.completionWrite l c = s.completionWrite l c := by
  simp only [State.completionWrite, hcontext, hproducer]

section
variable {s : State} {l : LineId} {es : List Event} {f : Line → Line}

/-- The line after an entry has completed behind the events. -/
theorem finishEntry_raised_line (i : Nat) (e : Entry) (how : Ending) :
    (finishEntry l i e how (s.raised l es f)).line l = (f (s.line l)).afterCompletion i := by
  rw [finishEntry_line, State.raised_line, Line.afterCompletion]

theorem finishEntry_raised_acts_at (i : Nat) (e : Entry) (how : Ending)
    (hproducer : (f (s.line l)).completion.producer = (s.line l).completion.producer) :
    State.Acts l s (finishEntry l i e how (s.raised l es f)) es [e.completion (f (s.line l)) how] := by
  have h := (s.raised_acts l es f hproducer).trans (finishEntry_acts l i e how (s.raised l es f))
  rw [State.raised_line] at h
  simpa using h

theorem finishEntry_raised_newWrites_at (i : Nat) (e : Entry) (how : Ending)
    (hproducer : (f (s.line l)).completion.producer = (s.line l).completion.producer) :
    s.newWrites (finishEntry l i e how (s.raised l es f)) =
      s.newWrites (raiseAll es s) ++ [s.completionWrite l (e.completion (f (s.line l)) how)] := by
  have h := ((s.raised_wrote l es f).trans (finishEntry_wrote l i e how (s.raised l es f))).newWrites
  rwa [State.raised_line, State.completionWrite_congr (s := s) (State.raised_context ..) (by rw [State.raised_line, hproducer])] at h

/-- What the port issues behind the events begins with the completion record. -/
theorem finishEntry_raised_port_at (i : Nat) (e : Entry) (how : Ending)
    (hproducer : (f (s.line l)).completion.producer = (s.line l).completion.producer) :
    ((raiseAll es s).port ++ [s.completionWrite l (e.completion (f (s.line l)) how)]) <+: (finishEntry l i e how (s.raised l es f)).port := by
  have h := finishEntry_port l i e how (s.raised l es f)
  rwa [State.raised_port, State.raised_line,
    State.completionWrite_congr (s := s) (State.raised_context ..) (by rw [State.raised_line, hproducer])] at h

/-! With the station records unchanged, the completion carries the station state they had. -/

theorem finishEntry_raised_acts (i : Nat) (e : Entry) (how : Ending) (hproducer : (f (s.line l)).completion.producer = (s.line l).completion.producer)
    (hstations : (f (s.line l)).stations = (s.line l).stations) :
    State.Acts l s (finishEntry l i e how (s.raised l es f)) es [e.completion (s.line l) how] :=
  e.completion_congr hstations how ▸ finishEntry_raised_acts_at i e how hproducer

theorem finishEntry_raised_newWrites (i : Nat) (e : Entry) (how : Ending)
    (hproducer : (f (s.line l)).completion.producer = (s.line l).completion.producer) (hstations : (f (s.line l)).stations = (s.line l).stations) :
    s.newWrites (finishEntry l i e how (s.raised l es f)) =
      s.newWrites (raiseAll es s) ++ [s.completionWrite l (e.completion (s.line l) how)] :=
  e.completion_congr hstations how ▸ finishEntry_raised_newWrites_at i e how hproducer

theorem finishEntry_raised_port (i : Nat) (e : Entry) (how : Ending)
    (hproducer : (f (s.line l)).completion.producer = (s.line l).completion.producer) (hstations : (f (s.line l)).stations = (s.line l).stations) :
    ((raiseAll es s).port ++ [s.completionWrite l (e.completion (s.line l) how)]) <+: (finishEntry l i e how (s.raised l es f)).port :=
  e.completion_congr hstations how ▸ finishEntry_raised_port_at i e how hproducer

end

/-- The entry that waits completes, if there is one. -/
theorem finishFirst_of_first {l : LineId} {p : Entry → Bool} {i : Nat} {e : Entry} {s : State} (h : (s.line l).FirstEntry p i e) (how : Ending) :
    finishFirst l p how s = finishEntry l i e how s := by
  rw [finishFirst, Line.findEntry_eq_some.mpr h]

theorem finishFirst_of_none {l : LineId} {p : Entry → Bool} {s : State} (h : ∀ e, e ∈ (s.line l).entries → p e = false) (how : Ending) :
    finishFirst l p how s = s := by
  rw [finishFirst, Line.findEntry_eq_none.mpr h]

theorem Line.FirstEntry.congr {x y : Line} {p : Entry → Bool} {i : Nat} {e : Entry} (h : x.FirstEntry p i e) (hentries : y.entries = x.entries) :
    y.FirstEntry p i e := by
  rwa [Line.FirstEntry, hentries]

theorem finishFirst_raised_of_first {s : State} {l : LineId} {p : Entry → Bool} {i : Nat} {e : Entry} (h : (s.line l).FirstEntry p i e)
    (es : List Event) {f : Line → Line} (hf : (f (s.line l)).entries = (s.line l).entries) (how : Ending) :
    finishFirst l p how (s.raised l es f) = finishEntry l i e how (s.raised l es f) :=
  finishFirst_of_first (h.congr (by rw [State.raised_line, hf])) how

/-- The completion of a barrier request names no station (R77). -/
theorem Entry.completion_of_no_station {e : Entry} (h : e.body.reportStation = 0) (x : Line) (how : Ending) :
    e.completion x how = ⟨e.tag, e.ringIndex, e.kind, how.status, how.truncated, how.marked, how.detail, e.attempts, none⟩ := by
  simp [Entry.completion, h, Line.reportedState]

/-! ## WAKE, FENCE and LINE_RECOVER (R71, R72, R151, R152, R166) -/

/-- The oldest entry is the first that is doing what it does. -/
theorem Line.firstEntry_zero {x : Line} {e : Entry} {rest : List Entry} (hentries : x.entries = e :: rest) {p : Entry → Bool} (hp : p e = true) :
    x.FirstEntry p 0 e :=
  ⟨by rw [hentries]; rfl, hp, fun j hj => absurd hj (Nat.not_lt_zero j)⟩

theorem exec_wake_oldest {l : LineId} {e : Entry} {s : State} (h : s.oldestWaiting l = some e) (hbody : e.body = .wake) :
    exec (.wake l) s = match (s.line l).state with
      | .active => .next (finishEntry l 0 e ⟨.ok, 0, false, false⟩ s)
      | .faulted => .next (finishEntry l 0 e ⟨.lineFault, 0, false, false⟩ s)
      | .rest => .next (beginMasterWake l (putEntry l 0 { e with state := .inFlight .waking } s))
      | _ => .next s := by
  change execWake l s = _
  rw [execWake, h]
  exact if_pos hbody

theorem exec_lineRecover_oldest {l : LineId} {e : Entry} {s : State} (h : s.oldestWaiting l = some e) (hbody : e.body = .lineRecover) :
    exec (.lineRecover l) s = match (s.line l).state with
      | .active | .rest => .next (finishEntry l 0 e ⟨.ok, 0, false, false⟩ s)
      | .faulted => .next (putEntry l 0 { e with state := .inFlight .watching } s)
      | _ => .next s := by
  change execLineRecover l s = _
  rw [execLineRecover, h]
  exact if_pos hbody

/-- The line as a recovery watch that stayed idle leaves it (R166). -/
def Line.recovered (x : Line) : Line := { x with consecutiveCollisions := 0, state := .active }

/-- A recovery watch that stays idle: LINE_STATE, a starvation that begins, and then the completion (R100, R140, R166). -/
theorem exec_recoveryWatchExpiry_of_idle {l : LineId} {i : Nat} {e : Entry} {s : State} (h : (s.line l).FirstEntry (fun e => e.isDoing .watching) i e)
    (hstate : (s.line l).state = .faulted) (hidle : (s.line l).reception = none) : ∃ starved,
    exec (.recoveryWatchExpiry l) s = .next (settle l (finishEntry l i e ⟨.ok, 0, false, false⟩
      (s.raised l ([.lineState l .faulted .active .recover] ++ s.starvation l (s.line l).recovered)
        (fun x => { x.recovered with collector := { x.collector with starved := starved } })))) := by
  have hmoved : moveLine l .active .recover (clearConsecutive l s) = s.raised l [.lineState l .faulted .active .recover] Line.recovered := by
    rw [clearConsecutive, State.updLine_eq_raised, moveLine_raised]
    simp only [hstate, List.nil_append]
    rfl
  obtain ⟨starved, hcheck⟩ := checkStarved_raised s l [.lineState l .faulted .active .recover] Line.recovered rfl
  refine ⟨starved, ?_⟩
  change execRecoveryWatchExpiry l s = _
  rw [execRecoveryWatchExpiry, Line.findEntry_eq_some.mpr h]
  dsimp only
  rw [if_pos ⟨hstate, hidle⟩, hmoved, hcheck]
  rfl

/-- Settles O42: by the line state, with the events raised before the line's changes. -/
theorem wakeFenceAndRecoverActAsTheOldestEntry : Obligations.WakeFenceAndRecoverActAsTheOldestEntry := by
  refine ⟨fun l e rest s hrun hjob hentries hwait hbody => ?_, fun l e rest s hrun hjob hentries hwait hbody => ?_, fun l e rest s hentries => ?_⟩
  · have hexec := exec_wake_oldest (State.oldestWaiting_eq hrun hjob hentries hwait) hbody
    refine ⟨fun h => by rw [hexec, h], fun h => by rw [hexec, h], fun h => ?_, fun h => by obtain h | h := h <;> rw [hexec, h]⟩
    have hput : State.Acts l s (putEntry l 0 { e with state := .inFlight .waking } s) [] [] := putEntry_acts l 0 _ s
    have hacts := hput.trans (beginMasterWake_acts l (putEntry l 0 { e with state := .inFlight .waking } s))
    have hstate : ((putEntry l 0 { e with state := .inFlight .waking } s).line l).state = .rest := by simpa [putEntry] using h
    rw [hstate] at hacts
    refine ⟨_, by rw [hexec, h], hacts.raises.sequence, hacts.raises, ?_⟩
    rw [beginMasterWake_line, putEntry_zero hentries, State.updLine_line_same]
  · change execFence l s = _
    rw [execFence, State.oldestWaiting_eq hrun hjob hentries hwait]
    exact if_pos hbody
  · refine ⟨fun hrun hjob hwait hbody => ?_, fun hdoing hbody hstate => ⟨fun hidle => ?_, ?_⟩⟩
    · have hexec := exec_lineRecover_oldest (State.oldestWaiting_eq hrun hjob hentries hwait) hbody
      refine ⟨fun h => by obtain h | h := h <;> rw [hexec, h], fun h => ?_, fun h => by obtain h | h := h <;> rw [hexec, h]⟩
      rw [hexec, h, ← putEntry_zero hentries]
    · have hfirst : (s.line l).FirstEntry (fun e => e.isDoing .watching) 0 e := Line.firstEntry_zero hentries (decide_eq_true hdoing)
      obtain ⟨starved, hexec⟩ := exec_recoveryWatchExpiry_of_idle hfirst hstate hidle
      refine ⟨_, hexec, ?_⟩
      obtain ⟨claim, starved', hsettle⟩ := settle_line l (finishEntry l 0 e ⟨.ok, 0, false, false⟩
        (s.raised l ([.lineState l .faulted .active .recover] ++ s.starvation l (s.line l).recovered)
          (fun x => { x.recovered with collector := { x.collector with starved := starved } })))
      rw [finishEntry_raised_line] at hsettle
      rw [hsettle]
      refine ⟨rfl, rfl, ?_, rfl, rfl, rfl, ?_⟩
      · simp [Line.afterCompletion, Line.recovered, hentries]
      · rw [State.starvation_congr (s := s) (x := (s.line l).recovered) rfl rfl rfl rfl rfl rfl,
          ← Entry.completion_of_no_station (by rw [hbody]; rfl) (s.line l) ⟨.ok, 0, false, false⟩]
        exact (finishEntry_raised_port 0 e _ rfl rfl).trans (settle_touches l _).port
    · change execRecoveryWatchActivity l s = _
      rw [execRecoveryWatchActivity, endWatch, finishFirst_of_first (Line.firstEntry_zero hentries (decide_eq_true hdoing))]

/-! ## Quiesce time and tones (R147 to R153) -/

/-- The line that a station's tone takes to WAKING (R149, R150). -/
def Line.toneSeen (x : Line) : Line :=
  { x with state := .waking, job := none, detector := .toneSeen, wake := { WakeSequence.fresh with phase := .toneIn } }

theorem beginStationWake_raised (s : State) (l : LineId) (f : Line → Line) :
    beginStationWake l (s.updLine l f) =
      s.raised l [.lineState l (f (s.line l)).state .waking .stationWake] (fun x => (f x).toneSeen) := by
  rw [beginStationWake, s.updLine_eq_raised l f, moveLine_raised, State.raised_updLine]
  rfl

theorem beginStationWake_eq (s : State) (l : LineId) :
    beginStationWake l s = s.raised l [.lineState l (s.line l).state .waking .stationWake] Line.toneSeen := by
  rw [beginStationWake, moveLine_eq_raised, State.raised_updLine]
  rfl

theorem exec_toneRecognised {l : LineId} {asked : Bool} {s : State} (harmed : (s.line l).detector = .armed)
    (hsilent : (s.line l).transmitting = false) :
    exec (.toneRecognised ⟨l, asked⟩) s = match (s.line l).state with
      | .rest => .next (beginStationWake l (if asked then joinStationWake l s else s))
      | .quiescing => .next (finishFirst l (fun e => e.isDoing .quiescing) ⟨.woken, 0, false, false⟩ (beginStationWake l s))
      | _ => .next s := by
  change execToneRecognised ⟨l, asked⟩ s = _
  rw [execToneRecognised]
  exact if_pos ⟨harmed, hsilent⟩

/-- What a WAKE asks of the line in the moment in which a tone is recognised at REST (R152, log entry 37). -/
def State.Joins (s : State) (l : LineId) (asked : Bool) : Prop :=
  asked = true ∧ s.run = .running ∧ (s.line l).job = none ∧ ∃ e rest, (s.line l).entries = e :: rest ∧ e.state = .waiting ∧ e.body = .wake

theorem joinStationWake_of_joins {s : State} {l : LineId} {asked : Bool} (h : s.Joins l asked) {e : Entry} {rest : List Entry}
    (hentries : (s.line l).entries = e :: rest) : (if asked then joinStationWake l s else s) =
      s.updLine l (fun x => { x with entries := { e with state := .inFlight .waking } :: rest }) := by
  obtain ⟨rfl, hrun, hjob, e', rest', hentries', hwait, hbody⟩ := h
  obtain ⟨rfl, rfl⟩ : e = e' ∧ rest = rest' := by simpa using hentries.symm.trans hentries'
  rw [if_pos rfl, joinStationWake, State.oldestWaiting_eq hrun hjob hentries hwait]
  exact (if_pos hbody).trans (putEntry_zero hentries _)

theorem joinStationWake_of_not_joins {s : State} {l : LineId} {asked : Bool} (h : ¬s.Joins l asked) :
    (if asked then joinStationWake l s else s) = s := by
  split
  · next hasked =>
    unfold joinStationWake
    split
    · next e holdest =>
      split
      · next hbody =>
        refine absurd ?_ h
        unfold State.oldestWaiting at holdest
        split at holdest
        · next hidle =>
          split at holdest
          · next e' rest hentries =>
            obtain ⟨hwait, he⟩ := Option.ite_none_right_eq_some.mp holdest
            cases he
            exact ⟨hasked, hidle.1, hidle.2, e, rest, hentries, hwait, hbody⟩
          · cases holdest
        · cases holdest
      · rfl
    · rfl
  · rfl

/-- Settles O43: the line moves with one LINE_STATE, and the REST that was under way completes behind it. -/
theorem restAndTonesMoveTheWakeSequence : Obligations.RestAndTonesMoveTheWakeSequence := by
  constructor
  · intro l e s x
    refine ⟨?_, ?_, ?_⟩
    · intro hstate hphase htimer hfirst hbody
      have hrested : endEpisode l (moveLine l .rest .restRequest s) = s.raised l [.lineState l .quiescing .rest .restRequest]
          (fun x => { x with state := .rest, wake := WakeSequence.fresh }) := by
        rw [moveLine_eq_raised, show (s.line l).state = .quiescing from hstate, endEpisode, updWake, State.raised_updLine]
      have hexec : exec (.quiesceTimerExpiry l) s = .next (finishEntry l 0 e ⟨.ok, 0, false, false⟩
          (s.raised l [.lineState l .quiescing .rest .restRequest] (fun x => { x with state := .rest, wake := WakeSequence.fresh }))) := by
        change execQuiesceTimerExpiry l s = _
        rw [execQuiesceTimerExpiry, if_pos ⟨hstate, hphase, htimer⟩, hrested, finishFirst_raised_of_first hfirst _ rfl]
      have hacts := finishEntry_raised_acts (s := s) (l := l) (es := [.lineState l .quiescing .rest .restRequest])
        (f := fun x => { x with state := .rest, wake := WakeSequence.fresh }) 0 e ⟨.ok, 0, false, false⟩ rfl rfl
      refine ⟨_, hexec, finishEntry_raised_line .., hacts.raises.sequence, hacts.raises, ?_⟩
      rw [← Entry.completion_of_no_station (by rw [hbody]; rfl) x ⟨.ok, 0, false, false⟩]
      exact finishEntry_raised_port (es := [.lineState l .quiescing .rest .restRequest]) 0 e _ rfl rfl
    · intro asked harmed hsilent hstate joins
      have hexec : exec (.toneRecognised ⟨l, asked⟩) s = .next (beginStationWake l (if asked then joinStationWake l s else s)) := by
        rw [exec_toneRecognised harmed hsilent, hstate]
      by_cases hjoins : joins
      · obtain ⟨e, rest, hentries, -, -⟩ := hjoins.2.2.2
        rw [joinStationWake_of_joins hjoins hentries, beginStationWake_raised] at hexec
        have hacts := s.raised_acts l [.lineState l x.state .waking .stationWake]
          (fun x => ({ x with entries := { e with state := .inFlight .waking } :: rest } : Line).toneSeen) rfl
        rw [show x.state = .rest from hstate] at hacts
        refine ⟨_, hexec, ?_⟩
        rw [hstate]
        refine ⟨hacts.raises.sequence, hacts.raises, fun hnot => absurd hjoins hnot, fun e' rest' _ hentries' => ?_⟩
        obtain ⟨rfl, rfl⟩ : e = e' ∧ rest = rest' := by simpa using hentries.symm.trans hentries'
        rw [State.raised_line, Line.toneSeen]
      · rw [joinStationWake_of_not_joins hjoins, beginStationWake_eq] at hexec
        have hacts := s.raised_acts l [.lineState l x.state .waking .stationWake] Line.toneSeen rfl
        rw [show x.state = .rest from hstate] at hacts
        refine ⟨_, hexec, ?_⟩
        rw [hstate]
        exact ⟨hacts.raises.sequence, hacts.raises, fun _ => State.raised_line .., fun _ _ hyes => absurd hyes hjoins⟩
    · intro asked harmed hsilent hstate hfirst hbody
      have hexec : exec (.toneRecognised ⟨l, asked⟩) s = .next (finishEntry l 0 e ⟨.woken, 0, false, false⟩
          (s.raised l [.lineState l .quiescing .waking .stationWake] Line.toneSeen)) := by
        have hquiescing : (s.line l).state = .quiescing := hstate
        rw [exec_toneRecognised harmed hsilent, hquiescing, ← finishFirst_raised_of_first hfirst _ rfl]
        dsimp only
        rw [beginStationWake_eq, hquiescing]
      have hacts := finishEntry_raised_acts (s := s) (l := l) (es := [.lineState l .quiescing .waking .stationWake])
        (f := Line.toneSeen) 0 e ⟨.woken, 0, false, false⟩ rfl rfl
      refine ⟨_, hexec, hacts.raises.sequence, hacts.raises, finishEntry_raised_line .., ?_⟩
      rw [← Entry.completion_of_no_station (by rw [hbody]; rfl) x ⟨.woken, 0, false, false⟩]
      exact finishEntry_raised_port (es := [.lineState l .quiescing .waking .stationWake]) 0 e _ rfl rfl
  · intro l n s x opened
    refine ⟨fun hseen hphase => ?_, fun hjob => ?_, fun hphase htimer => ?_⟩
    · change execToneEnd l s = _
      rw [execToneEnd, if_pos ⟨hseen, hphase⟩, openWindow, State.updLine_updLine]
    · change execMasterToneEnd l s = _
      rw [execMasterToneEnd, hjob]
      rfl
    · change execListenWindowExpiry l s = _
      rw [execListenWindowExpiry, if_pos ⟨hphase, htimer⟩]
      simp only [silentWindow, enterClosing, giveJob, updWake, State.updLine_updLine]

/-! ## The listen window (R153 to R155, R157) -/

theorem exec_frameReceived_window {l : LineId} {rx : Reception} {g : Signalling} {s : State} (hstate : (s.line l).state = .waking)
    (hreception : (s.line l).reception = some ⟨.window, g⟩) (hjob : (s.line l).job = none) :
    exec (.frameReceived l rx) s = .next (settle l (decideWindow l (checkReception rx)
      (countCrc l (checkReception rx) (s.updLine l (fun x => { x with reception := none }))))) := by
  have hreceives : s.receives l = true := by simp [State.receives, hstate]
  have hsilent : (s.line l).transmitting = false := by rw [Line.transmitting, hjob]
  change execFrameReceived l rx s = _
  have harrival : frameArrival l rx s = s := by rw [frameArrival, hreception]; simp
  rw [execFrameReceived, if_pos ⟨hreceives, hsilent⟩, harrival]
  dsimp only
  rw [hreception]
  rfl

theorem Line.station_congr {x y : Line} (h : y.stations = x.stations) (a : Nat) : y.station a = x.station a := by
  simp only [Line.station, h]

theorem Line.rollCallList_congr {x y : Line} (h : y.stations = x.stations) : y.rollCallList = x.rollCallList := by
  simp only [Line.rollCallList, Line.station_congr h]

theorem Line.takeExchange_congr {x y : Line} (hstations : y.stations = x.stations) (hparams : y.params = x.params) (a : Nat) (function : Byte)
    (payload : List Byte) (n : Nat) (c : Claimant) : y.takeExchange a function payload n c = x.takeExchange a function payload n c := by
  simp only [Line.takeExchange, Line.station_congr hstations, hparams]

theorem State.updLine_raised (s : State) (l : LineId) (f : Line → Line) (es : List Event) (g : Line → Line) :
    (s.updLine l f).raised l es g = s.raised l es (fun x => g (f x)) := by
  rw [State.raised, raiseAll_updLine, State.updLine_updLine, State.raised]

theorem raiseIf_raised (s : State) (l : LineId) (es : List Event) (f : Line → Line) (c : Bool) (e : Event) :
    raiseIf c e (s.raised l es f) = s.raised l (es ++ if c then [e] else []) f := by
  unfold raiseIf
  split
  · exact raiseEvent_raised ..
  · rw [List.append_nil]

/-- What a valid WAKE raises: ATTENTION when it sets the flag (R44). -/
def Line.wakeNotes (x : Line) (l : LineId) (a : Nat) : List Event :=
  if (x.station a).state ≠ .disabled ∧ (x.station a).attention = false then [.attention l a .wake (x.station a).state] else []

/-- The record after a valid WAKE (R44). -/
def Station.woken (r : Station) : Station := if r.state = .disabled then r else { r with attention := true }

theorem noteWake_eq (l : LineId) (a : Nat) (s : State) :
    noteWake l a s = s.raised l ((s.line l).wakeNotes l a) (fun x => x.setStation a (x.station a).woken) := by
  unfold noteWake Line.wakeNotes Station.woken
  by_cases hdisabled : ((s.line l).station a).state = .disabled
  · simp only [hdisabled, ne_eq, not_true_eq_false, false_and, if_false, if_true]
    exact (s.updLine_self l _ (by rw [if_pos hdisabled, Line.setStation_self])).symm
  · have hset : s.updLine l (fun x => x.setStation a { (s.line l).station a with attention := true }) =
        s.raised l [] (fun x => x.setStation a (if (x.station a).state = .disabled then x.station a else { x.station a with attention := true })) :=
      State.updLine_congr (by rw [if_neg hdisabled])
    rw [if_neg hdisabled, hset, raiseIf_raised]
    cases hattention : ((s.line l).station a).attention <;> simp [hdisabled]

/-- A roll call with no station left, or in a stop, closes the wake (R155, R157). -/
theorem rollNext_of_done {l : LineId} {s : State} (h : (s.line l).wake.rollCall = [] ∨ s.run = .stopping) : rollNext l s = enterClosing l 0 s := by
  unfold rollNext
  split
  · rfl
  · next hcons => exact if_pos (h.resolve_left (by rw [hcons]; exact List.cons_ne_nil _ _))

theorem rollNext_of_cons {l : LineId} {s : State} {a : Nat} {rest : List Nat} (h : (s.line l).wake.rollCall = a :: rest) (hrun : s.run ≠ .stopping) :
    rollNext l s = handExchange l a 241 [] 0 .wakeSequence (updWake l (fun w => { w with rollCall := rest, queried := w.queried + 1 }) s) := by
  rw [rollNext, h]
  exact if_neg hrun

/-- The check of a frame's CRC counts on the line, and changes nothing else of it (R7). -/
theorem countCrc_line (l : LineId) (c : RxCheck) (s : State) : ∃ k, (countCrc l c s).line l = { s.line l with counters := k } := by
  unfold countCrc
  split
  · exact ⟨_, countOnLine_line ..⟩
  · exact ⟨_, rfl⟩

theorem countCrc_of_wellFormed (l : LineId) (f : Frame) (s : State) : countCrc l (.wellFormed f) s = s := if_neg nofun

theorem countCrc_touches (l : LineId) (c : RxCheck) (s : State) : State.Touches l s (countCrc l c s) := by
  unfold countCrc
  split
  · exact countOnLine_touches l _ s
  · exact .refl l s

/-- A frame that is no valid WAKE makes the window GARBAGE (R154, R155). -/
theorem decideWindow_of_garbage {c : RxCheck} (h : ∀ f, c = .wellFormed f → ¬(f.kind = .wake ∧ 1 ≤ f.src ∧ f.src ≤ 62)) (l : LineId) (s : State) :
    decideWindow l c s = garbageWindow l s := by
  unfold decideWindow
  split
  · next f => exact if_neg (h f rfl)
  · rfl

/-- The wake sequence as the roll call begins (R155). -/
def Line.garbage (x : Line) : Line :=
  { x with wake := { x.wake with phase := .rollCall, result := some .garbage, windowTimer := none, rollCall := x.rollCallList } }

/-- The line as a valid WAKE from a station takes it to CLOSING: its record noted, and the WACK that names it handed over (R154, R156). -/
def Line.closingFor (x : Line) (a : Nat) : Line :=
  let y := { x with reception := none, wake := { x.wake with result := some .validWake, windowTimer := none } }
  let z := y.setStation a (x.station a).woken
  { z with wake := { z.wake with phase := .closing, acknowledged := a, rollCall := [] }, job := some ⟨.wack a, .gapWait z.params.gap⟩ }

theorem Line.closingFor_eq (x : Line) (a : Nat) :
    x.closingFor a =
      { x with
        stations := (x.setStation a (x.station a).woken).stations
        reception := none
        wake := { x.wake with result := some .validWake, windowTimer := none, phase := .closing, acknowledged := a, rollCall := [] }
        job := some ⟨.wack a, .gapWait x.params.gap⟩ } := by
  unfold Line.closingFor Line.setStation
  split <;> rfl

/-- Settles O44: a valid WAKE closes the wake with its station noted; any other frame begins the roll call, which may be empty. -/
theorem listenWindowIsDecidedByItsFirstFrame : Obligations.ListenWindowIsDecidedByItsFirstFrame := by
  intro l rx g s x hstate hphase hreception hjob hrun wakes
  have hexec := exec_frameReceived_window (rx := rx) hstate hreception hjob
  refine ⟨fun f hcheck hwakes => ?_, fun hother => ?_, fun a => ?_⟩
  · have hclosing : decideWindow l (checkReception rx) (countCrc l (checkReception rx) (s.updLine l (fun x => { x with reception := none }))) =
        s.raised l (x.wakeNotes l f.src) (fun x => x.closingFor f.src) := by
      rw [hcheck, countCrc_of_wellFormed, decideWindow, if_pos hwakes, validWake, noteWake_eq, updWake, State.updLine_updLine, State.updLine_raised,
        enterClosing, giveJob, updWake, State.raised_updLine, State.raised_updLine, State.updLine_line_same]
      rfl
    have hwaking : ((s.raised l (x.wakeNotes l f.src) (fun x => x.closingFor f.src)).line l).state ≠ .active := by
      rw [State.raised_line, Line.closingFor_eq]
      exact fun h => absurd (h.symm.trans hstate) (by decide)
    obtain ⟨claim, starved, hsettle⟩ := settle_of_not_active hwaking
    rw [hclosing, hsettle, State.raised_updLine] at hexec
    have hacts := s.raised_acts l (x.wakeNotes l f.src)
      (fun x => { x.closingFor f.src with collector := { (x.closingFor f.src).collector with claim := claim, starved := starved } })
      (by simp only [Line.closingFor_eq])
    have hsequence := hacts.raises.sequence
    refine ⟨_, hexec, ?_⟩
    rw [State.raised_line]
    refine ⟨rfl, rfl, by simp only [Line.closingFor_eq], by simp only [Line.closingFor_eq]; rfl, ?_, hacts.raises, ?_⟩
    · refine (Line.station_congr (x := x.setStation f.src (x.station f.src).woken) (by simp only [Line.closingFor_eq]; rfl) f.src).trans ?_
      rw [Line.station_setStation_same _ _ hwakes.2]
      rfl
    · refine hsequence.trans ?_
      unfold Line.wakeNotes
      split <;> rfl
  · rw [decideWindow_of_garbage hother] at hexec
    have htouches := (State.updLine_touches s l (fun x => { x with reception := none })).trans (countCrc_touches l (checkReception rx) _)
    obtain ⟨k, hcounted⟩ := countCrc_line l (checkReception rx) (s.updLine l (fun x => { x with reception := none }))
    rw [State.updLine_line_same] at hcounted
    generalize countCrc l (checkReception rx) (s.updLine l (fun x => { x with reception := none })) = u at hexec htouches hcounted
    obtain ⟨claim, starved, hsettle⟩ := settle_line l (garbageWindow l u)
    have hgarbage : garbageWindow l u = rollNext l (u.updLine l Line.garbage) := rfl
    have hline : (u.updLine l Line.garbage).line l = ({ x with reception := none, counters := k } : Line).garbage := by
      rw [State.updLine_line_same, hcounted]
    have hlist : ((u.updLine l Line.garbage).line l).wake.rollCall = x.rollCallList := by
      rw [hline]
      exact Line.rollCallList_congr rfl
    have hsame : (u.updLine l Line.garbage).run = s.run := by rw [State.updLine_run, htouches.run_eq]
    have hclose (hdone : x.rollCallList = [] ∨ s.run = .stopping) : (garbageWindow l u).line l =
        { ({ x with reception := none, counters := k } : Line).garbage with
          wake := { ({ x with reception := none, counters := k } : Line).garbage.wake with phase := .closing, acknowledged := 0, rollCall := [] }
          job := some ⟨.wack 0, .gapWait x.params.gap⟩ } := by
      rw [hgarbage, rollNext_of_done (by rwa [hlist, hsame]), enterClosing_line, hline]
      rfl
    have hquery (a : Nat) (more : List Nat) (hrunning : s.run = .running) (hmembers : x.rollCallList = a :: more) : (garbageWindow l u).line l =
        { ({ x with reception := none, counters := k } : Line).garbage with
          wake := { ({ x with reception := none, counters := k } : Line).garbage.wake with rollCall := more, queried := x.wake.queried + 1 }
          job := some ⟨.exchange (x.takeExchange a 241 [] 0 .wakeSequence), .gapWait x.params.gap⟩ } := by
      rw [hgarbage, rollNext_of_cons (hlist.trans hmembers) (by rw [hsame, hrunning]; decide), handExchange, giveJob_line, updWake_line, hline,
        Line.takeExchange_congr (x := x) rfl rfl]
      rfl
    refine ⟨_, hexec, ?_⟩
    rw [hsettle]
    refine ⟨?_, ?_, fun hdone => ?_, fun a more hrunning hmembers => ?_⟩
    iterate 2
      by_cases hdone : x.rollCallList = [] ∨ s.run = .stopping
      · rw [hclose hdone]
        rfl
      · obtain ⟨a, more, hmembers⟩ := List.exists_cons_of_ne_nil fun h => hdone (.inl h)
        rw [hquery a more (hrun.resolve_right fun h => hdone (.inr h)) hmembers]
        rfl
    · rw [hclose hdone]
      exact ⟨rfl, rfl, rfl, rfl, rfl⟩
    · rw [hquery a more hrunning hmembers]
      exact ⟨rfl, rfl, rfl, rfl⟩
  · simp only [Line.rollCallList, List.mem_filter, mem_stationAddresses, Bool.and_eq_true, decide_eq_true_eq, and_assoc]

/-! ## The end of a wake (R156) -/

/-- The line as the end of a wake leaves it (R156). -/
def Line.wakeDone (x : Line) : Line := { x with job := none, consecutiveCollisions := 0, state := .active, wake := WakeSequence.fresh }

/-- The events at the end of a wake (R140, R156). -/
def State.wakeEndEvents (s : State) (l : LineId) : List Event :=
  [(s.line l).wakeEvent l, .lineState l (s.line l).state .active .wakeDone] ++ s.starvation l (s.line l).wakeDone

/-- The end of a wake before the request that waited completes; the check for starvation has set its flag (R140, R156). -/
def State.wakeEnded (s : State) (l : LineId) (starved : Bool) : State :=
  s.raised l (s.wakeEndEvents l) (fun x => { x.wakeDone with collector := { x.collector with starved := starved } })

/-- How a WAKE that waited ends (R151, R177). -/
def State.wakeEnding (s : State) (l : LineId) : Ending :=
  if s.run = .stopping then ⟨.aborted, 1, false, false⟩ else ⟨.ok, (s.line l).wake.acknowledged, false, false⟩

/-- A WACK sent intact: the events, then the completion of the request that waited, and then the collector's claim (R134, R156). -/
theorem exec_wackSent {l : LineId} {a : Nat} {g : Signalling} {octets : List Byte} {s : State}
    (hjob : (s.line l).job = some ⟨.wack a, .sending g octets⟩) : ∃ starved claim starved', exec (.wackSent l) s =
      .next ((finishFirst l (fun e => e.isDoing .waking) (s.wakeEnding l) (s.wakeEnded l starved)).updLine l
        (fun x => { x with collector := { x.collector with claim := claim, starved := starved' } })) := by
  obtain ⟨starved, hstarved⟩ := checkStarved_raised s l [(s.line l).wakeEvent l, .lineState l (s.line l).state .active .wakeDone] Line.wakeDone rfl
  have hended : checkStarved l (endEpisode l (moveLine l .active .wakeDone
      (raiseEvent ((s.line l).wakeEvent l) (s.updLine l (fun x => { x with job := none, consecutiveCollisions := 0 }))))) = s.wakeEnded l starved := by
    rw [s.updLine_eq_raised l, raiseEvent_raised, moveLine_raised, endEpisode, updWake, State.raised_updLine]
    exact hstarved
  have hrun : (s.wakeEnded l starved).run = s.run := State.raised_run ..
  have hfinish : finishWake l s = finishFirst l (fun e => e.isDoing .waking) (s.wakeEnding l) (s.wakeEnded l starved) := by
    rw [finishWake, hended, hrun]
    rfl
  obtain ⟨es, c, hrest⟩ := finishFirst_line_rest l (fun e => e.isDoing .waking) (s.wakeEnding l) (s.wakeEnded l starved)
  obtain ⟨claim, starved', hsettle⟩ := settle_of_checked (l := l) (s := s.raised l
      [(s.line l).wakeEvent l, .lineState l (s.line l).state .active .wakeDone] Line.wakeDone)
    (t := finishFirst l (fun e => e.isDoing .waking) (s.wakeEnding l) (s.wakeEnded l starved))
    (by rw [(finishFirst_touches l _ _ _).run_eq, hrun, State.raised_run])
    (by rw [hrest, hstarved]; simp only [State.wakeEnded, State.raised_line]; trivial)
  refine ⟨starved, claim, starved', ?_⟩
  change execWackSent l s = _
  rw [execWackSent, hjob]
  dsimp only
  rw [hfinish, hsettle]

/-- Either no entry satisfies `p`, or one is the first that does. -/
theorem Line.none_or_first (x : Line) (p : Entry → Bool) : (∀ e, e ∈ x.entries → p e = false) ∨ ∃ i e, x.FirstEntry p i e := by
  cases h : x.findEntry p with
  | none => exact .inl (Line.findEntry_eq_none.mp h)
  | some found => exact .inr ⟨found.1, found.2, Line.findEntry_eq_some.mp h⟩

/-- Settles O46: the wake's events stand before its line's changes, and the request that waited completes behind them. -/
theorem wackSentEndsTheWake : Obligations.WackSentEndsTheWake := by
  intro l a g octets s x hjob hrun hstate
  obtain ⟨starved, claim, starved', hexec⟩ := exec_wackSent hjob
  obtain ⟨es, c, hrest⟩ := finishFirst_line_rest l (fun e => e.isDoing .waking) (s.wakeEnding l) (s.wakeEnded l starved)
  have hnone (h : ∀ e, e ∈ x.entries → e.isDoing .waking = false) :
      finishFirst l (fun e => e.isDoing .waking) (s.wakeEnding l) (s.wakeEnded l starved) = s.wakeEnded l starved :=
    finishFirst_of_none (by rw [State.wakeEnded, State.raised_line]; exact h) _
  have hfirst {i : Nat} {e : Entry} (h : x.FirstEntry (fun e => e.isDoing .waking) i e) :
      finishFirst l (fun e => e.isDoing .waking) (s.wakeEnding l) (s.wakeEnded l starved) =
        finishEntry l i e (s.wakeEnding l) (s.wakeEnded l starved) :=
    finishFirst_raised_of_first h _ rfl _
  have hstarvation (y : Line) (hy : y = { x.wakeDone with entries := es, completion := c, collector := ⟨claim, x.collector.rotation, starved'⟩ }) :
      [.wake l x.wake.acknowledged x.wake.initiator (decide (x.wake.result = some .garbage))
          (decide (x.wake.acknowledged ≠ 0) && !(x.station x.wake.acknowledged).wakeCapable) x.wake.queried,
        .lineState l .waking .active .wakeDone] ++ s.starvation l y = s.wakeEndEvents l := by
    rw [State.wakeEndEvents, show (s.line l).state = .waking from hstate,
      State.starvation_congr (s := s) (t := s) (x := (s.line l).wakeDone) rfl rfl (y := y)]
    · rfl
    all_goals rw [hy]
  refine ⟨_, hexec, ?_⟩
  have hline : (((finishFirst l (fun e => e.isDoing .waking) (s.wakeEnding l) (s.wakeEnded l starved)).updLine l
      (fun x => { x with collector := { x.collector with claim := claim, starved := starved' } })).line l) =
        { x.wakeDone with entries := es, completion := c, collector := ⟨claim, x.collector.rotation, starved'⟩ } := by
    rw [State.updLine_line_same, hrest, State.wakeEnded, State.raised_line]
  have hraises : s.Raises ((finishFirst l (fun e => e.isDoing .waking) (s.wakeEnding l) (s.wakeEnded l starved)).updLine l
      (fun x => { x with collector := { x.collector with claim := claim, starved := starved' } })) (s.wakeEndEvents l) := by
    obtain h | ⟨i, e, h⟩ := x.none_or_first (fun e => e.isDoing .waking)
    · rw [hnone h]
      exact ((s.raised_acts l _ _ rfl).updLine rfl).raises
    · rw [hfirst h]
      exact ((finishEntry_raised_acts i e _ rfl rfl).updLine rfl).raises
  rw [hline]
  refine ⟨rfl, rfl, rfl, rfl, rfl, ?_⟩
  intro events
  rw [show events = s.wakeEndEvents l from hstarvation _ rfl]
  refine ⟨hraises, fun h => ?_, fun i e h => ?_⟩
  · have hentries := congrArg Line.entries hrest
    rw [hnone h, State.wakeEnded, State.raised_line] at hentries
    refine ⟨hentries.symm, ?_⟩
    rw [hnone h, State.wakeEnded, State.raised_updLine, State.raised_newWrites]
  · have hentries := congrArg Line.entries hrest
    rw [hfirst h, State.wakeEnded, finishEntry_raised_line] at hentries
    refine ⟨hentries.symm, ?_⟩
    have hwrites := finishEntry_raised_newWrites (s := s) (l := l) (es := s.wakeEndEvents l)
      (f := fun x => { x.wakeDone with collector := { x.collector with starved := starved } }) i e (s.wakeEnding l) rfl rfl
    rw [hfirst h, State.newWrites, State.updLine_port]
    exact hwrites

end Sys2Proof.Machine
end

section
/-! PROOFS. The line controller: frames begun and sent, and frames received outside an exchange. -/

set_option Elab.async false

namespace Sys2Proof.Machine

/-! ## Frames begun and sent (R2, R3, R9, R11, R14, R21, R147) -/

/-- A LINE_CONFIG that reads its block and names LINK (R33). -/
theorem Entry.readsLink_iff (e : Entry) :
    e.readsLink = true ↔ ∃ id m defaults out n b, e.state = .inFlight (.blockRead id) ∧ e.body = .lineConfig m defaults out n b ∧ m.link = true := by
  constructor
  · intro h
    unfold Entry.readsLink at h
    split at h
    · next id m defaults out n b hstate hbody => exact ⟨id, m, defaults, out, n, b, hstate, hbody, h⟩
    · cases h
  · rintro ⟨id, m, defaults, out, n, b, hstate, hbody, hlink⟩
    rw [Entry.readsLink, hstate, hbody]
    exact hlink

/-- When the gap has run, the frame begins unless it waits for new LINK values (R2, R33). -/
theorem exec_gapElapsed {l : LineId} {s : State} {k : JobKind} {gap : Nat} (hjob : (s.line l).job = some ⟨k, .gapWait gap⟩)
    (hidle : (s.line l).reception = none) :
    exec (.gapElapsed l) s = if k.isSlot = true ∧ (s.line l).entries.any Entry.readsLink = true then .next s
      else .next (s.updLine l (fun x => { x with job := some ⟨k.begun, .sending x.params.signalling k.frame⟩ })) := by
  have hwaits : (s.line l).awaitsLink = true ↔ k.isSlot = true ∧ (s.line l).entries.any Entry.readsLink = true := by
    rw [Line.awaitsLink, Line.slotWaitsGap, hjob, Bool.and_eq_true]
  change execGapElapsed l s = _
  rw [execGapElapsed, hjob, hidle]
  exact if_congr hwaits rfl rfl

theorem exec_quietSent_stopping {l : LineId} {g : Signalling} {octets : List Byte} {s : State}
    (hjob : (s.line l).job = some ⟨.quiet, .sending g octets⟩) (hrun : s.run = .stopping) :
    exec (.quietSent l) s = .next (finishFirst l (fun e => e.isDoing .quiescing) stopEnding
      (s.updLine l (fun y => { y with consecutiveCollisions := 0, job := none, wake := WakeSequence.fresh }))) := by
  change execQuietSent l s = _
  rw [execQuietSent, hjob]
  dsimp only
  rw [if_pos (by simpa [clearConsecutive] using hrun)]
  simp only [endEpisode, updWake, clearJob, clearConsecutive, State.updLine_updLine]

/-- Settles O45: a frame begins unless it waits for new LINK values; what its intact end does goes by its kind. -/
theorem framesBeginAfterTheGapAndEndIntact : Obligations.FramesBeginAfterTheGapAndEndIntact := by
  constructor
  · intro l gap a x d s hidle header framed begins readsLink
    have hreads : (s.line l).entries.any Entry.readsLink = true ↔ readsLink := by
      rw [List.any_eq_true]
      constructor
      · rintro ⟨e, he, h⟩
        obtain ⟨id, m, defaults, out, n, b, hstate, hbody, hlink⟩ := e.readsLink_iff.mp h
        exact ⟨e, id, m, defaults, out, n, b, he, hstate, hbody, hlink⟩
      · rintro ⟨e, id, m, defaults, out, n, b, he, hstate, hbody, hlink⟩
        exact ⟨e, he, e.readsLink_iff.mpr ⟨id, m, defaults, out, n, b, hstate, hbody, hlink⟩⟩
    have hbegins {k : JobKind} (hjob : (s.line l).job = some ⟨k, .gapWait gap⟩) (h : k.isSlot = false ∨ ¬readsLink) :
        exec (.gapElapsed l) s = .next (s.updLine l (fun x => { x with job := some ⟨k.begun, .sending x.params.signalling k.frame⟩ })) := by
      rw [exec_gapElapsed hjob hidle, if_neg]
      rintro ⟨hslot, hlink⟩
      exact h.elim (fun h => by simp [h] at hslot) (fun h => h (hreads.mp hlink))
    refine ⟨fun hjob hslot h => ?_, fun hjob hslot h => ?_, fun hjob h => ?_, fun hjob h => ?_, fun hjob => ?_, fun hjob => ?_⟩
    · rw [exec_gapElapsed hjob hidle, if_pos ⟨decide_eq_true hslot, hreads.mpr h⟩]
    · rw [exec_gapElapsed hjob hidle, if_pos ⟨decide_eq_true hslot, hreads.mpr h⟩]
    · exact hbegins hjob (h.imp_left fun h => decide_eq_false h)
    · exact hbegins hjob (h.imp_left fun h => decide_eq_false h)
    · exact hbegins hjob (.inl rfl)
    · exact hbegins hjob (.inl rfl)
  · intro l i e x d g octets s y
    refine ⟨fun hjob => ?_, fun hjob hrun hphase => ?_, fun hjob hrun hphase => ?_, fun hjob hrun => ?_, fun hjob hclaimant => ?_, fun hjob hclaimant hfirst => ?_⟩
    · change execCmdSent l s = _
      rw [execCmdSent, hjob]
      simp only [clearConsecutive, State.updLine_updLine]
    · change execQuietSent l s = _
      have hphase' : ((clearConsecutive l s).line l).wake.phase = .quiet1 := by simpa [clearConsecutive] using hphase
      rw [execQuietSent, hjob]
      dsimp only
      rw [if_neg (by simp [clearConsecutive, hrun]), hphase']
      simp only [giveJob, clearConsecutive, State.updLine_updLine]
    · change execQuietSent l s = _
      have hphase' : ((clearConsecutive l s).line l).wake.phase = .quiet2 := by simpa [clearConsecutive] using hphase
      rw [execQuietSent, hjob]
      dsimp only
      rw [if_neg (by simp [clearConsecutive, hrun]), hphase']
      simp only [clearConsecutive, State.updLine_updLine]
    · intro u
      have hentries : (u.line l).entries = y.entries := by rw [State.updLine_line_same]
      rw [exec_quietSent_stopping hjob hrun]
      exact ⟨fun hfirst => congrArg _ (finishFirst_of_first (hfirst.congr hentries) _),
        fun hnone => congrArg _ (finishFirst_of_none (by rwa [hentries]) _)⟩
    · change execDatSent l s = _
      rw [execDatSent, hjob]
      simp only [endData, hclaimant, clearJob, clearConsecutive, State.updLine_updLine, if_true]
    · change execDatSent l s = _
      rw [execDatSent, hjob]
      simp only [endData, hclaimant, clearJob, clearConsecutive, State.updLine_updLine, sendOutcome]
      rw [Line.findEntry_eq_some.mpr (hfirst.congr (by rw [State.updLine_line_same]))]
      rfl

/-! ## Reception (R6 to R8, R12, R153, R166) -/

theorem State.receives_iff (s : State) (l : LineId) :
    s.receives l = true ↔ (s.line l).state ≠ .off ∨ s.run = .stopping ∧ (s.context.lineSection l).enable = true := by
  simp [State.receives]

theorem exec_receivedFrameStart {l : LineId} {s : State} (hreceives : s.receives l = true) (hsilent : (s.line l).transmitting = false)
    (hidle : (s.line l).reception = none) : exec (.receivedFrameStart l) s = .next (frameStart l s) :=
  if_pos ⟨hreceives, hsilent, hidle⟩

theorem exec_frameReceived {l : LineId} {rx : Reception} {r : Receiving} {s : State} (hreceives : s.receives l = true)
    (hsilent : (s.line l).transmitting = false) (hreception : ((frameArrival l rx s).line l).reception = some r) :
    exec (.frameReceived l rx) s = .next (settle l (deliverFrame l r.role (checkReception rx)
      (countCrc l (checkReception rx) ((frameArrival l rx s).updLine l (fun x => { x with reception := none }))))) := by
  change execFrameReceived l rx s = _
  rw [execFrameReceived, if_pos ⟨hreceives, hsilent⟩]
  dsimp only
  rw [hreception]

/-- A frame that begins while no work awaits it is none of the master's (R8). -/
theorem Line.beginReception_of_other {x : Line} (hjob : x.job = none) (hphase : x.wake.phase ≠ .listen) :
    x.beginReception = { x with reception := some ⟨.other, ⟨x.params.rate, x.params.coding⟩⟩ } := by
  have hrole : x.receptionRole = .other := by
    rw [Line.receptionRole, hjob]
    exact if_neg fun h => hphase h.1
  rw [Line.beginReception, hrole]
  rfl

theorem Line.beginReception_of_window {x : Line} (hjob : x.job = none) (hphase : x.wake.phase = .listen) (htimer : x.wake.windowTimer.isSome = true) :
    x.beginReception =
      { x with reception := some ⟨.window, ⟨x.params.rate, x.params.coding⟩⟩, wake := { x.wake with windowTimer := none } } := by
  have hrole : x.receptionRole = .window := by
    rw [Line.receptionRole, hjob]
    exact if_pos ⟨hphase, htimer⟩
  rw [Line.beginReception, hrole]
  rfl

theorem Line.beginReception_of_answer {x : Line} {k : Exchange} (hjob : x.job = some ⟨.exchange k, .awaiting⟩) :
    x.beginReception =
      { x with reception := some ⟨.answer, ⟨x.params.rate, x.params.coding⟩⟩, job := some ⟨.exchange k, .answering⟩ } := by
  have hrole : x.receptionRole = .answer := by rw [Line.receptionRole, hjob]
  rw [Line.beginReception, hrole, hjob]
  rfl

/-- A frame that begins leaves what decides whether the line receives, and the pending list. -/
theorem Line.beginReception_keeps (x : Line) :
    x.beginReception.state = x.state ∧ x.beginReception.transmitting = x.transmitting ∧ x.beginReception.entries = x.entries := by
  unfold Line.beginReception
  split
  · next hrole =>
    refine ⟨rfl, ?_, rfl⟩
    unfold Line.receptionRole at hrole
    split at hrole
    · next hjob => simp [Line.transmitting, hjob]
    · next hjob => simp [Line.transmitting, hjob]
    · split at hrole <;> cases hrole
  · exact ⟨rfl, rfl, rfl⟩
  · exact ⟨rfl, rfl, rfl⟩

/-- What a frame brings to a line that neither awaits nor listens (R7, R8). -/
def RxCheck.counted (c : RxCheck) (k : Counters) : Counters :=
  match c with
  | .wellFormed _ => { k with strayFrames := k.strayFrames + 1 }
  | .crcError => { k with crcErrors := k.crcErrors + 1 }
  | .formatError => k

/-- The writes of the counter block that go with it (R168). -/
def State.countedWrites (s : State) (l : LineId) (c : RxCheck) (k : Counters) : List PortOp :=
  if c = .formatError then [] else [.write (s.context.indexPage + BitVec.ofNat 64 (counterBlockOffset l)) (c.counted k).octets]

theorem State.countedWrites_filter (s : State) (l : LineId) (c : RxCheck) (k : Counters) :
    (s.countedWrites l c k).filter PortOp.isWrite = s.countedWrites l c k := by
  unfold State.countedWrites
  split <;> rfl

/-- Writes that stand first behind what a part has issued follow the writes of that part. -/
theorem State.Wrote.append_prefix {s t u : State} {vs ws : List PortOp} (h : s.Wrote u vs) (hport : (u.port ++ ws) <+: t.port)
    (hws : ws.filter PortOp.isWrite = ws) : (vs ++ ws) <+: s.newWrites t := by
  obtain ⟨ops, hops, rfl⟩ := h
  obtain ⟨rest, hrest⟩ := hport
  refine ⟨rest.filter PortOp.isWrite, ?_⟩
  rw [State.newWrites, ← hrest, hops]
  simp [hws]

/-- A frame that nobody awaits is counted, and the counter block is written (R7, R8, R168). -/
theorem deliverFrame_other (l : LineId) (c : RxCheck) (s : State) :
    (deliverFrame l .other c (countCrc l c s)).line l = { s.line l with counters := c.counted (s.line l).counters } ∧
      (deliverFrame l .other c (countCrc l c s)).port = s.port ++ s.countedWrites l c (s.line l).counters := by
  have hcount (f : Counters → Counters) : (countOnLine l f s).port =
      s.port ++ [.write (s.context.indexPage + BitVec.ofNat 64 (counterBlockOffset l)) (f (s.line l).counters).octets] := by
    simp [countOnLine, writeCounters, State.indexWrite, addrPlus]
  cases c with
  | formatError => exact ⟨rfl, (List.append_nil _).symm⟩
  | crcError => exact ⟨countOnLine_line l (fun k => { k with crcErrors := k.crcErrors + 1 }) s, hcount (fun k => { k with crcErrors := k.crcErrors + 1 })⟩
  | wellFormed f => rw [countCrc_of_wellFormed]; exact ⟨countOnLine_line .., hcount _⟩

/-- The line and the writes a frame leaves that nobody awaits, as the line stood when it ended (R8). -/
theorem exec_frameReceived_other {l : LineId} {rx : Reception} {g : Signalling} {s u : State} (hreceives : s.receives l = true)
    (hsilent : (s.line l).transmitting = false) (harrival : frameArrival l rx s = u) (hreception : (u.line l).reception = some ⟨.other, g⟩) :
    ∃ t claim starved, exec (.frameReceived l rx) s = .next t ∧
      t.line l = { u.line l with
        reception := none, counters := (checkReception rx).counted (u.line l).counters
        collector := { (u.line l).collector with claim := claim, starved := starved } } ∧
      (u.port ++ u.countedWrites l (checkReception rx) (u.line l).counters) <+: t.port := by
  obtain ⟨hline, hport⟩ := deliverFrame_other l (checkReception rx) (u.updLine l (fun x => { x with reception := none }))
  obtain ⟨claim, starved, hsettle⟩ := settle_line l (deliverFrame l .other (checkReception rx)
    (countCrc l (checkReception rx) (u.updLine l (fun x => { x with reception := none }))))
  refine ⟨_, claim, starved, by rw [exec_frameReceived hreceives hsilent (by rwa [harrival]), harrival], ?_, ?_⟩
  · rw [hsettle, hline, State.updLine_line_same]
  · rw [State.updLine_line_same, State.updLine_port, State.countedWrites, State.updLine_context] at hport
    rw [State.countedWrites, ← hport]
    exact (settle_touches l _).port

/-- Settles O47: a frame that begins takes the role of what awaits it; one that nobody awaits is counted behind the watch it ends. -/
theorem receptionStopsTimersAndCountsStrays : Obligations.ReceptionStopsTimersAndCountsStrays := by
  constructor
  · intro l x rx s y receives
    have hreceives : s.receives l = true ↔ receives := s.receives_iff l
    refine ⟨fun h => ?_, fun hr hsilent hbusy => ?_, fun hr hsilent hidle hjob hphase i e hfirst => ?_, fun hr hsilent hidle hnone => ?_⟩
    · have hno : ¬(s.receives l = true ∧ y.transmitting = false) :=
        fun ⟨hr, hsilent⟩ => h.elim (fun h => h (hreceives.mp hr)) (fun h => by simp [h] at hsilent)
      exact ⟨if_neg fun h => hno ⟨h.1, h.2.1⟩, if_neg hno⟩
    · exact if_neg fun h => hbusy h.2.2
    · rw [exec_receivedFrameStart (hreceives.mpr hr) hsilent hidle, frameStart, endWatch, finishFirst_of_first hfirst]
      refine congrArg _ (State.updLine_congr (Line.beginReception_of_other ?_ ?_))
      · rwa [finishEntry_line]
      · rwa [finishEntry_line]
    · have hstart : frameStart l s = s.updLine l Line.beginReception := by rw [frameStart, endWatch_of_none l s hnone]
      have hexec := exec_receivedFrameStart (hreceives.mpr hr) hsilent hidle
      rw [hstart] at hexec
      refine ⟨fun hjob => ?_, fun hjob hphase htimer => ?_, fun hjob hphase => ?_, ?_⟩
      · exact hexec.trans (congrArg _ (State.updLine_congr (Line.beginReception_of_answer hjob)))
      · exact hexec.trans (congrArg _ (State.updLine_congr (Line.beginReception_of_window hjob hphase htimer)))
      · exact hexec.trans (congrArg _ (State.updLine_congr (Line.beginReception_of_other hjob hphase)))
      · obtain ⟨hstate, htransmit, hentries⟩ := y.beginReception_keeps
        obtain ⟨r, hreception⟩ : ∃ r, ((s.updLine l Line.beginReception).line l).reception = some r := by
          rw [State.updLine_line_same, Line.beginReception_reception]
          exact ⟨_, rfl⟩
        have hbegun : frameArrival l rx s = s.updLine l Line.beginReception := by
          rw [frameArrival, show (s.line l).reception = none from hidle]
          exact hstart
        have hagain : frameArrival l rx (s.updLine l Line.beginReception) = s.updLine l Line.beginReception :=
          frameArrival_of_receiving l rx _ r hreception (by rw [State.updLine_line_same, hentries]; exact hnone)
        rw [exec_frameReceived (hreceives.mpr hr) hsilent (by rw [hbegun]; exact hreception), hbegun]
        refine Eq.symm ((exec_frameReceived ?_ ?_ (by rw [hagain]; exact hreception)).trans (by rw [hagain]))
        · rw [State.receives_iff, State.updLine_line_same, hstate, State.updLine_run, State.updLine_context]
          exact hr
        · rw [State.updLine_line_same, htransmit]
          exact hsilent
  · intro l rx g s hreceives hsilent hreception y leaves block stray bad
    have hr : s.receives l = true := (s.receives_iff l).mpr hreceives
    have harrival : frameArrival l rx s = if endsWithCrc rx then endWatch l s else s := by
      rw [frameArrival, hreception]
      simp
    refine ⟨fun h => ?_, fun i e hends hfirst => ?_, Counters.fields⟩
    · have hkept : frameArrival l rx s = s := by
        rw [harrival]
        obtain h | h := h
        · rw [h]; rfl
        · rw [endWatch_of_none l s h, ite_self]
      obtain ⟨t, claim, starved, hexec, hline, hport⟩ := exec_frameReceived_other hr hsilent hkept hreception
      have hleaves : leaves ((checkReception rx).counted y.counters) (s.countedWrites l (checkReception rx) y.counters) :=
        ⟨t, hexec, by rw [hline], hport⟩
      refine ⟨fun f hcheck => ?_, fun hcheck => ?_, fun hcheck => ?_⟩
      all_goals
        rw [hcheck] at hleaves
        exact hleaves
    · intro ends
      have hended : frameArrival l rx s = finishEntry l i e ⟨.stillFaulted, 0, false, false⟩ s := by
        rw [harrival, hends, if_pos rfl, endWatch, finishFirst_of_first hfirst]
      have hentry := finishEntry_line l i e ⟨.stillFaulted, 0, false, false⟩ s
      obtain ⟨t, claim, starved, hexec, hline, hport⟩ := exec_frameReceived_other hr hsilent hended (by rw [hentry]; exact hreception)
      rw [hentry] at hline hport
      have hwrites : ([s.completionWrite l (e.completion y ⟨.stillFaulted, 0, false, false⟩)] ++
          s.countedWrites l (checkReception rx) y.counters) <+: s.newWrites t := by
        refine State.Wrote.append_prefix (finishEntry_wrote l i e ⟨.stillFaulted, 0, false, false⟩ s) ?_ (State.countedWrites_filter ..)
        rwa [State.countedWrites, (finishEntry_touches l i e ⟨.stillFaulted, 0, false, false⟩ s).context_eq] at hport
      have hends' : ends ((checkReception rx).counted y.counters) (s.countedWrites l (checkReception rx) y.counters) :=
        ⟨t, hexec, by rw [hline]; rfl, hwrites⟩
      refine ⟨fun f hcheck => ?_, fun hcheck => ?_, fun hcheck => ?_⟩
      all_goals
        rw [hcheck] at hends'
        exact hends'

end Sys2Proof.Machine
end

section
/-! PROOFS. What the cycle engine and the request engine leave of a line; reports as events and a record; the end of an attempt. -/

set_option Elab.async false

namespace Sys2Proof.Machine

/-! ## What the engines leave of a line (R66, R101) -/

/-- From `x` to `y` only the cycle engine, the pending list and the completion writer may have changed. -/
def Line.EnginesOnly (x y : Line) : Prop := y = { x with engine := y.engine, entries := y.entries, completion := y.completion }

theorem Line.EnginesOnly.refl (x : Line) : x.EnginesOnly x := rfl

theorem Line.EnginesOnly.trans {x y z : Line} (h : x.EnginesOnly y) (k : y.EnginesOnly z) : x.EnginesOnly z := by
  rw [Line.EnginesOnly] at h k ⊢
  rw [k, h]

/-- From `s` to `t` the engines of line `l` alone may have acted on it. -/
def State.EnginesOnly (l : LineId) (s t : State) : Prop := (s.line l).EnginesOnly (t.line l)

section
variable {l : LineId} {s t u : State}

theorem State.EnginesOnly.refl (l : LineId) (s : State) : State.EnginesOnly l s s := Line.EnginesOnly.refl _

theorem State.EnginesOnly.trans (h : State.EnginesOnly l s t) (k : State.EnginesOnly l t u) : State.EnginesOnly l s u := Line.EnginesOnly.trans h k

theorem State.Reports.enginesOnly (h : s.Reports t) (l : LineId) : State.EnginesOnly l s t := by
  rw [State.EnginesOnly, h.line l]
  exact .refl _

theorem State.EnginesOnly.of_updLine {f : Line → Line} (h : (s.line l).EnginesOnly (f (s.line l))) : State.EnginesOnly l s (s.updLine l f) := by
  rwa [State.EnginesOnly, State.updLine_line_same]

theorem State.EnginesOnly.ite {p : Prop} [Decidable p] (ht : p → State.EnginesOnly l s t) (hu : ¬p → State.EnginesOnly l s u) :
    State.EnginesOnly l s (if p then t else u) := by
  split
  · next h => exact ht h
  · next h => exact hu h

theorem updEngine_enginesOnly (l : LineId) (f : Engine → Engine) (s : State) : State.EnginesOnly l s (updEngine l f s) := .of_updLine rfl

theorem putEntry_enginesOnly (l : LineId) (i : Nat) (e : Entry) (s : State) : State.EnginesOnly l s (putEntry l i e s) := .of_updLine rfl

theorem complete_enginesOnly (l : LineId) (c : Completion) (s : State) : State.EnginesOnly l s (complete l c s) := by
  rw [State.EnginesOnly, complete_line]
  rfl

theorem finishEntry_enginesOnly (l : LineId) (i : Nat) (e : Entry) (how : Ending) (s : State) : State.EnginesOnly l s (finishEntry l i e how s) := by
  rw [State.EnginesOnly, finishEntry_line]
  rfl

theorem finishFirst_enginesOnly (l : LineId) (p : Entry → Bool) (how : Ending) (s : State) : State.EnginesOnly l s (finishFirst l p how s) := by
  obtain ⟨es, c, h⟩ := finishFirst_line_rest l p how s
  rw [State.EnginesOnly, h]
  rfl

theorem finishAll_enginesOnly (l : LineId) (p : Entry → Bool) (how : Entry → Ending) (s : State) : State.EnginesOnly l s (finishAll l p how s) := by
  rw [State.EnginesOnly, finishAll_line]
  rfl

theorem writeCycleRecord_enginesOnly (l : LineId) (s : State) : State.EnginesOnly l s (writeCycleRecord l s) :=
  (writeCycleRecord_reports l s).enginesOnly l

theorem recordSlot_enginesOnly (l : LineId) (r : SlotResult) (k : Option Nat) (s : State) (n : Nat) : State.EnginesOnly l s (recordSlot l r k s n) := by
  unfold recordSlot
  dsimp only
  split
  · exact .refl l s
  · exact (updEngine_enginesOnly l _ s).trans ((State.hostWrite_reports _ _ _).enginesOnly l)

theorem recordSlots_enginesOnly (l : LineId) (r : SlotResult) (ns : List Nat) (s : State) : State.EnginesOnly l s (recordSlots l r ns s) := by
  induction ns generalizing s with
  | nil => exact .refl l s
  | cons n rest ih => exact (recordSlot_enginesOnly l r none s n).trans (ih _)

theorem recordPollOk_enginesOnly (l : LineId) (n : Nat) (p : List Byte) (s : State) : State.EnginesOnly l s (recordPollOk l n p s) := by
  unfold recordPollOk
  dsimp only
  split
  · exact .refl l s
  · refine State.EnginesOnly.trans (.ite (fun _ => .refl l s) fun _ => (State.hostWrite_reports _ _ _).enginesOnly l) (recordSlot_enginesOnly l _ _ _ _)

theorem switchBanks_enginesOnly (l : LineId) (s : State) : State.EnginesOnly l s (switchBanks l s) :=
  (updEngine_enginesOnly l _ s).trans (((raiseEvent_reports _ _).enginesOnly l).trans
    ((writeCycleRecord_enginesOnly l _).trans (finishFirst_enginesOnly l _ _ _)))

theorem switchIfCommitted_enginesOnly (l : LineId) (s : State) : State.EnginesOnly l s (switchIfCommitted l s) :=
  .ite (fun _ => switchBanks_enginesOnly l s) fun _ => .refl l s

theorem becomeStopped_enginesOnly (l : LineId) (s : State) : State.EnginesOnly l s (becomeStopped l s) :=
  (updEngine_enginesOnly l _ s).trans ((switchIfCommitted_enginesOnly l _).trans
    ((writeCycleRecord_enginesOnly l _).trans (finishAll_enginesOnly l _ _ _)))

theorem passSlot_enginesOnly (l : LineId) (s : State) : State.EnginesOnly l s (passSlot l s) := updEngine_enginesOnly l _ s

theorem endCycle_enginesOnly (l : LineId) (s : State) : State.EnginesOnly l s (endCycle l s) :=
  (updEngine_enginesOnly l _ s).trans (writeCycleRecord_enginesOnly l _)

theorem State.issueRead_enginesOnly (l : LineId) (s : State) (r : Reader) (a : Addr) (n : Nat) : State.EnginesOnly l s (s.issueRead r a n) := by
  rw [State.EnginesOnly, State.issueRead_line]
  exact .refl _

theorem prepareSlot_enginesOnly (l : LineId) (c : SlotCell) (s : State) : State.EnginesOnly l s (prepareSlot l c s) :=
  .ite (fun _ => updEngine_enginesOnly l _ s) fun _ => (updEngine_enginesOnly l _ s).trans (State.issueRead_enginesOnly l _ _ _ _)

theorem reachSlots_enginesOnly (l : LineId) (ns : List Nat) (s : State) : State.EnginesOnly l s (reachSlots l ns s) := by
  induction ns generalizing s with
  | nil => exact endCycle_enginesOnly l s
  | cons n rest ih =>
    unfold reachSlots
    split
    · exact (passSlot_enginesOnly l s).trans (ih _)
    · split
      · exact (recordSlot_enginesOnly l _ none s n).trans ((passSlot_enginesOnly l _).trans (ih _))
      · exact prepareSlot_enginesOnly l _ s

theorem afterSlot_enginesOnly (l : LineId) (s : State) : State.EnginesOnly l s (afterSlot l s) :=
  .ite (fun _ => becomeStopped_enginesOnly l s) fun _ => .ite (fun _ => endCycle_enginesOnly l s) fun _ =>
    .ite (fun _ => .refl l s) fun _ => reachSlots_enginesOnly l _ s

theorem endSlot_enginesOnly (l : LineId) (r : SlotResult) (s : State) : State.EnginesOnly l s (endSlot l r s) := by
  unfold endSlot
  split
  · exact .refl l s
  · exact (recordSlot_enginesOnly l r none s _).trans ((passSlot_enginesOnly l _).trans (afterSlot_enginesOnly l _))

theorem pollOutcome_enginesOnly (l : LineId) (o : ExchangeEnd) (s : State) : State.EnginesOnly l s (pollOutcome l o s) := by
  unfold pollOutcome
  split
  · exact (recordPollOk_enginesOnly l _ _ s).trans ((passSlot_enginesOnly l _).trans (afterSlot_enginesOnly l _))
  · exact endSlot_enginesOnly l _ s

theorem deliverResponse_enginesOnly (l : LineId) (i : Nat) (e : Entry) (p : List Byte) (s : State) :
    State.EnginesOnly l s (deliverResponse l i e p s) :=
  State.EnginesOnly.trans (.ite (fun _ => .refl l s) fun _ => (State.hostWrite_reports _ _ _).enginesOnly l) (finishEntry_enginesOnly l i e _ _)

theorem busyOutcome_enginesOnly (l : LineId) (i : Nat) (e : Entry) (s : State) : State.EnginesOnly l s (busyOutcome l i e s) :=
  .ite (fun _ => finishEntry_enginesOnly l i e _ s) fun _ => .ite (fun _ => finishEntry_enginesOnly l i _ _ s) fun _ =>
    .ite (fun _ => finishEntry_enginesOnly l i _ _ s) fun _ => putEntry_enginesOnly l i _ s

theorem requestOutcome_enginesOnly (l : LineId) (o : ExchangeEnd) (n : Nat) (s : State) : State.EnginesOnly l s (requestOutcome l o n s) := by
  unfold requestOutcome
  split
  · exact .refl l s
  · next i e _ =>
    cases o with
    | success attn f p => exact deliverResponse_enginesOnly l i _ p s
    | busy => exact busyOutcome_enginesOnly l i _ s
    | refused | noResponse | badFrame | stopped | lineFault => exact finishEntry_enginesOnly l i _ _ s

theorem sendOutcome_enginesOnly (l : LineId) (sent : Bool) (s : State) : State.EnginesOnly l s (sendOutcome l sent s) := by
  unfold sendOutcome
  split
  · exact .refl l s
  · exact finishEntry_enginesOnly l _ _ _ s

end

/-! ## Reports (R39, R43, R44) -/

/-- The STATION_STATE of a record that went from `r` to `r'` (R43). -/
def Station.stateEvents (l : LineId) (a : Nat) (cause : HealthCause) (r r' : Station) : List Event :=
  if r'.state ≠ r.state then [.stationState l a r.state r'.state r'.failures cause] else []

theorem changeStation_raised (l : LineId) (cause : HealthCause) (f : Station → Station) (s : State) (a : Nat) :
    changeStation l cause f s a = s.raised l (Station.stateEvents l a cause ((s.line l).station a) (f ((s.line l).station a)))
      (fun x => x.setStation a (f (x.station a))) := by
  rw [changeStation_eq, Station.stateEvents]
  have hset : s.updLine l (fun x => x.setStation a (f ((s.line l).station a))) = s.updLine l (fun x => x.setStation a (f (x.station a))) :=
    State.updLine_congr rfl
  rw [hset]
  by_cases h : (f ((s.line l).station a)).state = ((s.line l).station a).state
  · rw [if_pos h, if_neg (not_not.mpr h)]
    rfl
  · rw [if_neg h, if_pos h, s.updLine_eq_raised, raiseEvent_raised]
    rfl

/-- What an outcome report raises: STATION_STATE, then ATTENTION (R43, R44). -/
def Line.reportEvents (x : Line) (l : LineId) (a : Nat) (o : ExchangeEnd) : List Event :=
  let r := x.station a
  let r' := r.applyReport x.params.offlineThreshold o
  Station.stateEvents l a .exchange r r' ++ if r'.attention && !r.attention then [.attention l a .rsp r'.state] else []

theorem reportOutcome_raised (l : LineId) (a : Nat) (o : ExchangeEnd) (s : State) :
    reportOutcome l a o s = s.raised l ((s.line l).reportEvents l a o)
      (fun x => x.setStation a ((x.station a).applyReport x.params.offlineThreshold o)) := by
  rw [reportOutcome, changeStation_raised, raiseIf_raised]
  exact State.raised_congr _ _ _ rfl

theorem Line.reportEvents_congr {x y : Line} (hstations : y.stations = x.stations) (hparams : y.params = x.params) (l : LineId) (a : Nat)
    (o : ExchangeEnd) : y.reportEvents l a o = x.reportEvents l a o := by
  simp only [Line.reportEvents, Line.station_congr hstations, hparams]

/-- What the port issues as a report is applied depends on the record, on the threshold, and on what a report looks at. -/
theorem reportOutcome_port_congr {s t : State} (h : s.SameOut t) {l : LineId} (hstations : (t.line l).stations = (s.line l).stations)
    (hparams : (t.line l).params = (s.line l).params) (a : Nat) (o : ExchangeEnd) :
    (reportOutcome l a o t).port = (reportOutcome l a o s).port := by
  rw [reportOutcome_raised, reportOutcome_raised, State.raised_port, State.raised_port, Line.reportEvents_congr hstations hparams]
  exact (h.raiseAll _).port

/-! ## The end of an exchange (R14, R19) -/

theorem Exchange.afterAttempt_cmds (x : Exchange) (a : AttemptEnd) : (x.afterAttempt a).1.cmds = x.cmds := by
  unfold Exchange.afterAttempt
  split
  case h_4 => split <;> rfl
  all_goals rfl

theorem endExchange_eq_handedOver (l : LineId) (x : Exchange) (o : ExchangeEnd) (s : State) : endExchange l x o s = x.handedOver l o s := by
  unfold endExchange deliverExchange Exchange.handedOver
  cases x.claimant <;> rfl

theorem Exchange.handedOver_congr {x y : Exchange} (hstation : y.station = x.station) (hclaimant : y.claimant = x.claimant) (hcmds : y.cmds = x.cmds)
    (l : LineId) (o : ExchangeEnd) (u : State) : y.handedOver l o u = x.handedOver l o u := by
  simp only [Exchange.handedOver, hstation, hclaimant, hcmds]

/-- An attempt that ends the exchange hands its outcome over (R14, R19). -/
theorem endAttempt_of_some {l : LineId} {x : Exchange} {a : AttemptEnd} {o : ExchangeEnd} (h : (x.afterAttempt a).2 = some o) (s : State) :
    endAttempt l x a s = x.handedOver l o s := by
  rw [← Exchange.handedOver_congr (x.afterAttempt_station a) (x.afterAttempt_claimant a) (x.afterAttempt_cmds a), ← endExchange_eq_handedOver]
  unfold endAttempt
  split
  · next x' o' heq => rw [heq] at h ⊢; cases h; rfl
  · next x' heq => rw [heq] at h; cases h

/-- An attempt that does not end it is followed by a further one (R14). -/
theorem endAttempt_of_none {l : LineId} {x : Exchange} {a : AttemptEnd} (h : (x.afterAttempt a).2 = none) (s : State) :
    endAttempt l x a s = giveJob l (.exchange (x.afterAttempt a).1) s := by
  unfold endAttempt
  split
  · next x' o' heq => rw [heq] at h; cases h
  · next x' heq => rw [heq]

/-- The state in which an outcome reaches its claimant: nothing in flight, the report applied, a starvation it begins raised (R19, R39, R140). -/
def Exchange.reported (l : LineId) (x : Exchange) (o : ExchangeEnd) (u : State) : State :=
  checkStarved l (reportOutcome l x.station o (u.updLine l (fun y => { y with job := none })))

theorem Exchange.reported_touches (l : LineId) (x : Exchange) (o : ExchangeEnd) (u : State) : State.Touches l u (x.reported l o u) :=
  (u.updLine_touches l _).trans ((reportOutcome_touches l _ o _).trans (checkStarved_touches l _))

theorem Exchange.reported_line (l : LineId) (x : Exchange) (o : ExchangeEnd) (u : State) : ∃ starved, (x.reported l o u).line l =
    { u.line l with
      job := none
      stations := ((u.line l).setStation x.station (((u.line l).station x.station).applyReport (u.line l).params.offlineThreshold o)).stations
      collector := { (u.line l).collector with starved := starved } } := by
  obtain ⟨starved, h⟩ := checkStarved_line l (reportOutcome l x.station o (u.updLine l (fun y => { y with job := none })))
  refine ⟨starved, ?_⟩
  rw [Exchange.reported, h, reportOutcome_line, State.updLine_line_same, Line.setStation_rest]
  dsimp only [Line.setStation, Line.station]
  split <;> rfl

theorem Exchange.handedOver_eq (l : LineId) (x : Exchange) (o : ExchangeEnd) (u : State) :
    x.handedOver l o u = match x.claimant with
      | .requestEngine => requestOutcome l o x.cmds (x.reported l o u)
      | .cycleEngine => pollOutcome l o (x.reported l o u)
      | .collector => fetchOutcome l x.station o (x.reported l o u)
      | .wakeSequence => rollNext l (x.reported l o u) := rfl

/-- What the port has issued when the outcome is handed over begins with what the report issues. -/
theorem Exchange.reported_port (l : LineId) (x : Exchange) (o : ExchangeEnd) {s u : State} (h : s.SameOut u)
    (hstations : (u.line l).stations = (s.line l).stations) (hparams : (u.line l).params = (s.line l).params) :
    (reportOutcome l x.station o s).port <+: (x.reported l o u).port := by
  rw [← reportOutcome_port_congr (h.trans (u.sameOut_updLine l (fun y => { y with job := none })))
    (by rw [State.updLine_line_same, hstations]) (by rw [State.updLine_line_same, hparams])]
  exact (checkStarved_touches l _).port

/-! ## What the end of a transmission leaves (R9, R168) -/

/-- The line state, the counters and the consecutive collision count are the same on both lines. -/
def Line.SameCounts (x y : Line) : Prop :=
  y.state = x.state ∧ y.counters = x.counters ∧ y.consecutiveCollisions = x.consecutiveCollisions

theorem Line.SameCounts.refl (x : Line) : x.SameCounts x := ⟨rfl, rfl, rfl⟩

theorem Line.SameCounts.trans {x y z : Line} (h : x.SameCounts y) (k : y.SameCounts z) : x.SameCounts z :=
  ⟨k.1.trans h.1, k.2.1.trans h.2.1, k.2.2.trans h.2.2⟩

theorem Line.EnginesOnly.sameCounts {x y : Line} (h : x.EnginesOnly y) : x.SameCounts y := by
  rw [h]
  exact ⟨rfl, rfl, rfl⟩

theorem settle_sameCounts (l : LineId) (s : State) : (s.line l).SameCounts ((settle l s).line l) := by
  obtain ⟨claim, starved, h⟩ := settle_line l s
  rw [h]
  exact ⟨rfl, rfl, rfl⟩

theorem giveJob_sameCounts (l : LineId) (k : JobKind) (s : State) : (s.line l).SameCounts ((giveJob l k s).line l) := by
  rw [giveJob_line]
  exact ⟨rfl, rfl, rfl⟩

theorem rollNext_sameCounts (l : LineId) (s : State) : (s.line l).SameCounts ((rollNext l s).line l) := by
  have hclose (a : Nat) : (s.line l).SameCounts ((enterClosing l a s).line l) := by
    rw [enterClosing_line]
    exact ⟨rfl, rfl, rfl⟩
  unfold rollNext
  split
  · exact hclose 0
  · split
    · exact hclose 0
    · rw [handExchange, giveJob_line, updWake_line]
      exact ⟨rfl, rfl, rfl⟩

theorem fetchOutcome_sameCounts (l : LineId) (a : Nat) (o : ExchangeEnd) (s : State) : (s.line l).SameCounts ((fetchOutcome l a o s).line l) := by
  have hturn (u : State) : (u.line l).SameCounts ((moveRotation l a u).line l) := by
    rw [moveRotation, State.updLine_line_same]
    exact ⟨rfl, rfl, rfl⟩
  have hclear (u : State) : (u.line l).SameCounts ((clearAttention l a u).line l) := by
    rw [clearAttention, State.updLine_line_same, Line.setStation_rest]
    exact ⟨rfl, rfl, rfl⟩
  have hfill (f : Byte) (p : List Byte) (more : Bool) (u : State) : (u.line l).SameCounts ((fillHead l a f p more u).line l) := by
    cases hheld : (u.line l).buffers.held with
    | nil => rw [fillHead, hheld]; exact .refl _
    | cons d rest => rw [(fillHead_spec hheld a f p more).1]; exact ⟨rfl, rfl, rfl⟩
  cases o with
  | success attn f p =>
    have hflag : (s.line l).SameCounts ((if attn then s else clearAttention l a s).line l) := by
      cases attn
      · exact hclear s
      · exact .refl _
    by_cases hp : p = []
    · subst hp
      exact hflag.trans (hturn _)
    · rw [fetchOutcome_of_message hp]
      exact hflag.trans ((hfill f p attn _).trans (hturn _))
  | busy | refused | noResponse | badFrame | stopped | lineFault => exact hturn s

theorem Exchange.handedOver_sameCounts (l : LineId) (x : Exchange) (o : ExchangeEnd) (u : State) :
    (u.line l).SameCounts ((x.handedOver l o u).line l) := by
  obtain ⟨starved, h⟩ := x.reported_line l o u
  have hreported : (u.line l).SameCounts ((x.reported l o u).line l) := by
    rw [h]
    exact ⟨rfl, rfl, rfl⟩
  rw [Exchange.handedOver_eq]
  split
  · exact hreported.trans (requestOutcome_enginesOnly l o _ _).sameCounts
  · exact hreported.trans (pollOutcome_enginesOnly l o _).sameCounts
  · exact hreported.trans (fetchOutcome_sameCounts l _ o _)
  · exact hreported.trans (rollNext_sameCounts l _)

theorem endAttempt_sameCounts (l : LineId) (x : Exchange) (a : AttemptEnd) (s : State) : (s.line l).SameCounts ((endAttempt l x a s).line l) := by
  cases h : (x.afterAttempt a).2 with
  | none => rw [endAttempt_of_none h]; exact giveJob_sameCounts l _ s
  | some o => rw [endAttempt_of_some h]; exact x.handedOver_sameCounts l o s

/-- A licence to do anything: what an operation may do under it is not asked. -/
def Licence.any : Licence := ⟨True, fun _ => True, .bank0, True⟩

theorem endAttempt_touches (l : LineId) (x : Exchange) (a : AttemptEnd) (s : State) : State.Touches l s (endAttempt l x a s) :=
  (endAttempt_works (lic := .any) trivial l x a s (.inr trivial) fun _ => trivial).touches

/-! ## The response timeout (R11, R17) -/

/-- What the request engine makes of an outcome of its exchange (R66). -/
theorem requestOutcome_of_first {l : LineId} {i : Nat} {e : Entry} {s : State} (h : (s.line l).FirstEntry (fun e => e.isDoing .onLine) i e)
    (o : ExchangeEnd) (cmds : Nat) : requestOutcome l o cmds s = match o with
      | .success _ _ payload => deliverResponse l i (e.addAttempts cmds) payload s
      | .refused reason => finishEntry l i (e.addAttempts cmds) ⟨.refused, reason, false, false⟩ s
      | .noResponse => finishEntry l i (e.addAttempts cmds) ⟨.noResponse, 0, false, false⟩ s
      | .badFrame => finishEntry l i (e.addAttempts cmds) ⟨.badFrame, 0, false, false⟩ s
      | .busy => busyOutcome l i (e.addAttempts cmds) s
      | .stopped _ => finishEntry l i (e.addAttempts cmds) (stoppedEnding s (e.addAttempts cmds)) s
      | .lineFault => finishEntry l i (e.addAttempts cmds) (faultEnding s (e.addAttempts cmds)) s := by
  have hfind := Line.findEntry_eq_some.mpr h
  unfold requestOutcome
  cases o <;> simp only [hfind]

/-- An outcome that is no SUCCESS leaves the stations as its report made them, and nothing in flight; a QUERY's is followed by the next (R136, R155). -/
theorem Exchange.handedOver_of_failed {x : Exchange} {o : ExchangeEnd} (hclaimant : x.claimant ≠ .wakeSequence) (ho : ∀ attn f p, o ≠ .success attn f p)
    (l : LineId) (u : State) : ((x.handedOver l o u).line l).job = none ∧
      ((x.handedOver l o u).line l).stations = ((x.reported l o u).line l).stations := by
  obtain ⟨starved, h⟩ := x.reported_line l o u
  have hjob : ((x.reported l o u).line l).job = none := by rw [h]
  have hengines {v : State} (k : State.EnginesOnly l (x.reported l o u) v) :
      (v.line l).job = none ∧ (v.line l).stations = ((x.reported l o u).line l).stations := by
    rw [show v.line l = _ from k]
    exact ⟨hjob, rfl⟩
  rw [Exchange.handedOver_eq]
  split
  · exact hengines (requestOutcome_enginesOnly ..)
  · exact hengines (pollOutcome_enginesOnly ..)
  · have hturn : fetchOutcome l x.station o (x.reported l o u) = moveRotation l x.station (x.reported l o u) := by
      cases o with
      | success attn f p => exact absurd rfl (ho attn f p)
      | busy | refused | noResponse | badFrame | stopped | lineFault => rfl
    rw [hturn, moveRotation, State.updLine_line_same]
    exact ⟨hjob, rfl⟩
  · next hwake => exact absurd hwake hclaimant

/-- The outcome of a request's exchange reaches its entry (R19, R66). -/
theorem Exchange.handedOver_of_requestEngine {x : Exchange} (hclaimant : x.claimant = .requestEngine) (l : LineId) (o : ExchangeEnd) (u : State) :
    x.handedOver l o u = requestOutcome l o x.cmds (x.reported l o u) := by
  rw [Exchange.handedOver_eq, hclaimant]

/-- A line counter changed: the port issues the write of the counter block, and nothing else of what a report looks at changes (R168). -/
theorem countOnLine_sameOut (l : LineId) (f : Counters → Counters) (s : State) :
    (s.issue (.write (s.context.indexPage + BitVec.ofNat 64 (counterBlockOffset l)) (f (s.line l).counters).octets)).SameOut (countOnLine l f s) := by
  constructor <;> simp [countOnLine, writeCounters, State.indexWrite, addrPlus]

/-- Settles O48: the budget decides between a further attempt and the report of a failed exchange. -/
theorem responseTimeoutRetriesOrFails : Obligations.ResponseTimeoutRetriesOrFails := by
  intro l x s hjob h1 h62 y counted block
  let u := countOnLine l (fun k => { k with timeouts := k.timeouts + 1 }) s
  have huline : u.line l = { y with counters := counted } := countOnLine_line ..
  have hsame : (s.issue block).SameOut u := countOnLine_sameOut l (fun k => { k with timeouts := k.timeouts + 1 }) s
  have huses : x.UsesBudget .timeout := .inl rfl
  have hexec : exec (.responseTimeout l) s = .next (settle l (endAttempt l x .timeout u)) := by
    change execResponseTimeout l s = _
    rw [execResponseTimeout, hjob]
  have hcounts := (endAttempt_sameCounts l x .timeout u).trans (settle_sameCounts l _)
  rw [huline] at hcounts
  obtain ⟨claim, starved, hsettle⟩ := settle_line l (endAttempt l x .timeout u)
  have hlast (h : x.retryLimit + 1 ≤ x.used + 1) : endAttempt l x .timeout u = x.handedOver l .noResponse u :=
    endAttempt_of_some (by rw [Exchange.afterAttempt_of_last huses h]; rfl) u
  obtain ⟨starved', hreported⟩ := x.reported_line l .noResponse u
  have hstations (h : x.retryLimit + 1 ≤ x.used + 1) (hclaimant : x.claimant ≠ .wakeSequence) :
      ((settle l (endAttempt l x .timeout u)).line l).job = none ∧
        ((settle l (endAttempt l x .timeout u)).line l).stations = ((x.reported l .noResponse u).line l).stations := by
    rw [hsettle, hlast h]
    exact Exchange.handedOver_of_failed hclaimant (fun _ _ _ => by simp) l u
  refine ⟨_, hexec, hcounts.2.1, ?_, fun hleft hmark => ?_, fun h hclaimant => ⟨(hstations h hclaimant).1, ?_⟩, fun h hclaimant i e hfirst => ?_⟩
  · exact (show (s.port ++ [block]) = u.port from hsame.port.symm) ▸ ((endAttempt_touches l x .timeout u).trans (settle_touches l _)).port
  · have hretry : x.afterAttempt .timeout = ({ x with used := x.used + 1 }, none) := by
      rw [Exchange.afterAttempt_of_not_last huses (Nat.not_le.mpr hleft), hmark]
      rfl
    rw [hsettle, endAttempt_of_none (congrArg Prod.snd hretry), giveJob_line, hretry, huline]
    exact ⟨rfl, rfl, rfl⟩
  · rw [Line.station_congr (hstations h hclaimant).2, hreported, huline]
    refine (Line.station_congr rfl x.station).trans (Line.station_setStation_same _ _ ⟨h1, h62⟩)
  · have hended : x.handedOver l .noResponse u = finishEntry l i (e.addAttempts x.cmds) ⟨.noResponse, 0, false, false⟩ (x.reported l .noResponse u) :=
      (Exchange.handedOver_of_requestEngine hclaimant l .noResponse u).trans
        (requestOutcome_of_first (hfirst.congr (by rw [hreported, huline])) .noResponse x.cmds)
    have hport := finishEntry_port l i (e.addAttempts x.cmds) ⟨.noResponse, 0, false, false⟩ (x.reported l .noResponse u)
    rw [State.completionWrite_congr (s := s) (hsame.context.symm ▸ (x.reported_touches l .noResponse u).context_eq) (by rw [hreported, huline])] at hport
    refine ⟨?_, (x.reported l .noResponse u).port, ?_, ?_⟩
    · rw [hsettle, hlast h, hended, finishEntry_line, hreported, huline]
      rfl
    · exact x.reported_port l .noResponse hsame (by simp only [huline, State.issue_line, y]) (by simp only [huline, State.issue_line, y])
    · rw [Line.reportedState_congr (hstations h (by rw [hclaimant]; nofun)).2, hlast h, hended]
      exact hport.trans (settle_touches l _).port

end Sys2Proof.Machine
end

section
/-! PROOFS. Answers that end an attempt, what the request engine makes of each outcome, and collisions below the limit. -/

set_option Elab.async false

namespace Sys2Proof.Machine

/-! ## Answers (R13, R14, R19, R39, R66 to R68) -/

/-- A frame that was awaited as an answer ends the attempt (R13, R14). -/
theorem exec_frameReceived_answer {l : LineId} {rx : Reception} {g : Signalling} {x : Exchange} {s : State} (hstate : (s.line l).state ≠ .off)
    (hjob : (s.line l).job = some ⟨.exchange x, .answering⟩) (hreception : (s.line l).reception = some ⟨.answer, g⟩) :
    exec (.frameReceived l rx) s = .next (settle l (endAttempt l x (classifyAnswer x (checkReception rx))
      (countCrc l (checkReception rx) (s.updLine l (fun y => { y with reception := none }))))) := by
  have hsilent : (s.line l).transmitting = false := by rw [Line.transmitting, hjob]
  have harrival : frameArrival l rx s = s := by rw [frameArrival, hreception]; simp
  obtain ⟨k, hcounted⟩ := countCrc_line l (checkReception rx) (s.updLine l (fun y => { y with reception := none }))
  have hstill : ((countCrc l (checkReception rx) (s.updLine l (fun y => { y with reception := none }))).line l).job = some ⟨.exchange x, .answering⟩ := by
    rw [hcounted, State.updLine_line_same, hjob]
  rw [exec_frameReceived ((s.receives_iff l).mpr (.inl hstate)) hsilent (by rw [harrival]; exact hreception), harrival]
  rw [deliverFrame, hstill]

/-- A report of SUCCESS on a record that is not DISABLED (R39, R40, R42, R44). -/
theorem Station.applyReport_success {r : Station} (h : r.state ≠ .disabled) (n : Nat) (attn : Bool) (f : Byte) (p : List Byte) :
    r.applyReport n (.success attn f p) =
      { r with
        state := .online, failures := 0, resync := false, seq := !r.seq, good := min 65535 (r.good + 1), attention := attn || r.attention } := by
  rw [Station.applyReport_of_ne_disabled h]
  cases attn <;> rfl

/-- The response's payload as far as it fits, and then the completion (R67). -/
theorem deliverResponse_port (l : LineId) (i : Nat) (e : Entry) (p : List Byte) (s : State) :
    (s.port ++ (if min p.length e.body.inBuffer.2 = 0 then [] else [.write e.body.inBuffer.1 (p.take (min p.length e.body.inBuffer.2))]) ++
      [s.completionWrite l (e.completion (s.line l) ⟨.ok, p.length, decide (e.body.inBuffer.2 < p.length), false⟩)]) <+:
        (deliverResponse l i e p s).port := by
  unfold deliverResponse
  dsimp only
  split
  · rw [List.append_nil]
    exact finishEntry_port ..
  · have h := finishEntry_port l i e ⟨.ok, p.length, decide (e.body.inBuffer.2 < p.length), false⟩
      (s.hostWrite e.body.inBuffer.1 (p.take (min p.length e.body.inBuffer.2)))
    rw [State.hostWrite_line] at h
    exact h

theorem deliverResponse_line (l : LineId) (i : Nat) (e : Entry) (p : List Byte) (s : State) :
    (deliverResponse l i e p s).line l = (s.line l).afterCompletion i := by
  unfold deliverResponse
  dsimp only
  rw [finishEntry_line]
  split
  · rfl
  · rw [State.hostWrite_line, Line.afterCompletion]

/-- Settles O49: the attempt's end hands an outcome over or asks for a further attempt; the request engine's table by the outcome. -/
theorem answerCompletesTheExchangeRequest : Obligations.AnswerCompletesTheExchangeRequest := by
  refine ⟨?answer, ?attempt, ?outcomes⟩
  case answer =>
    intro l rx x i e attn function payload g s y hstate hjob hreception hclaimant h1 h62 hfirst hstation hanswer hdisabled n data
    let o : ExchangeEnd := .success attn function payload
    let u := s.updLine l (fun y => { y with reception := none })
    have huline : u.line l = { y with reception := none } := State.updLine_line_same ..
    have hcounted : countCrc l (checkReception rx) u = u := by
      cases hcheck : checkReception rx with
      | crcError => rw [hcheck] at hanswer; exact absurd hanswer nofun
      | formatError => rfl
      | wellFormed f => exact countCrc_of_wellFormed ..
    obtain ⟨starved, hreported⟩ := x.reported_line l o u
    have hended : endAttempt l x (classifyAnswer x (checkReception rx)) u = deliverResponse l i (e.addAttempts x.cmds) payload (x.reported l o u) := by
      rw [hanswer, endAttempt_of_some (o := o) rfl, Exchange.handedOver_of_requestEngine hclaimant,
        requestOutcome_of_first (hfirst.congr (by rw [hreported, huline]))]
    have hexec := exec_frameReceived_answer (rx := rx) (g := g) (show y.state ≠ .off by rw [hstate]; decide) hjob hreception
    rw [hcounted, hended] at hexec
    obtain ⟨claim, starved', hsettle⟩ := settle_line l (deliverResponse l i (e.addAttempts x.cmds) payload (x.reported l o u))
    have hrecord : ((x.reported l o u).line l).station x.station = (y.station x.station).applyReport y.params.offlineThreshold o := by
      rw [hreported, huline]
      exact (Line.station_congr rfl x.station).trans (Line.station_setStation_same _ _ ⟨h1, h62⟩)
    rw [Station.applyReport_success hdisabled] at hrecord
    refine ⟨_, (x.reported l o u).port, hexec, ?_, ?_, ?_, ?_, ?_, ?_⟩
    · rw [hsettle, deliverResponse_line, hreported]
      rfl
    · rw [hsettle, deliverResponse_line, hreported, huline]
      rfl
    · exact x.reported_port l o (s.sameOut_updLine l _) (by rw [huline]) (by rw [huline])
    · rw [hsettle, deliverResponse_line, ← hrecord]
      rfl
    · rw [hsettle, deliverResponse_line, hreported, huline]
      rfl
    · have hport := deliverResponse_port l i (e.addAttempts x.cmds) payload (x.reported l o u)
      have hstate' : ((x.reported l o u).line l).reportedState e.body.reportStation = some .online := by
        rw [hstation, Line.reportedState, if_pos ⟨h1, h62⟩, hrecord]
      have hcompletion : (e.addAttempts x.cmds).completion ((x.reported l o u).line l) ⟨.ok, payload.length, decide (e.body.inBuffer.2 < payload.length), false⟩ =
          ⟨e.tag, e.ringIndex, e.kind, .ok, decide (e.body.inBuffer.2 < payload.length), false, payload.length, min 255 (e.attempts + x.cmds),
            some .online⟩ := by
        rw [← hstate']
        rfl
      rw [State.completionWrite_congr (s := s) ((x.reported_touches l o u).context_eq.trans (State.updLine_context ..)) (by rw [hreported, huline])] at hport
      refine List.IsPrefix.trans ?_ (settle_touches l _).port
      rw [← hcompletion]
      exact hport
  case attempt =>
    intro l rx x g s y ends
    have hends (a : AttemptEnd) (u : State) : ends a u (settle l (endAttempt l x a u)) :=
      ⟨fun o ho => by rw [endAttempt_of_some ho], fun hnone => by rw [endAttempt_of_none hnone]; rfl⟩
    refine ⟨fun hjob => ⟨_, ?_, hends _ _⟩, fun hstate hjob hreception => ⟨_, exec_frameReceived_answer hstate hjob hreception, hends _ _⟩⟩
    change execResponseTimeout l s = _
    rw [execResponseTimeout, hjob]
  case outcomes =>
    intro l i e cmds s hfirst p e' count ends
    have houtcome (o : ExchangeEnd) := requestOutcome_of_first hfirst o cmds
    refine ⟨fun attn f payload => ?_, fun reason => houtcome _, houtcome _, houtcome _, fun hrun => ⟨?_, fun last => ?_⟩,
      fun hrun hmark last => ?_, fun hrun => ⟨fun hlimit => ?_, fun hlimit hmark => ?_, fun hlimit hmark => ?_⟩⟩
    · exact houtcome _
    · exact (houtcome .busy).trans (if_pos hrun)
    · have hending : stoppedEnding s (e.addAttempts cmds) = ⟨.aborted, 1, false, false⟩ := if_pos hrun
      exact (houtcome (.stopped last)).trans (congrArg (fun how => finishEntry l i (e.addAttempts cmds) how s) hending)
    · have hending : stoppedEnding s (e.addAttempts cmds) = ⟨.aborted, 0, false, true⟩ := (if_neg hrun).trans (if_pos hmark)
      exact (houtcome (.stopped last)).trans (congrArg (fun how => finishEntry l i (e.addAttempts cmds) how s) hending)
    all_goals
      have hbusy : requestOutcome l .busy cmds s = _ := (houtcome .busy).trans (if_neg hrun)
    · exact hbusy.trans (if_pos hlimit)
    · exact hbusy.trans ((if_neg (Nat.not_lt.mpr hlimit)).trans (if_pos hmark))
    · exact hbusy.trans ((if_neg (Nat.not_lt.mpr hlimit)).trans (if_neg (show ¬e.abortMark = true by simp [hmark])))

/-! ## Collisions below the limit (R9, R159) -/

theorem endData_sameCounts (l : LineId) (d : DataOrder) (sent : Bool) (s : State) : (s.line l).SameCounts ((endData l d sent s).line l) := by
  have hclear : (s.line l).SameCounts ((clearJob l s).line l) := by
    rw [clearJob, State.updLine_line_same]
    exact ⟨rfl, rfl, rfl⟩
  unfold endData
  dsimp only
  split
  · exact hclear.trans (endSlot_enginesOnly l _ _).sameCounts
  · exact hclear.trans (sendOutcome_enginesOnly l sent _).sameCounts
  · exact hclear

/-- A transmission that ends as collided leaves the line state and the counts as the collision set them (R9). -/
theorem endCollided_sameCounts (l : LineId) (k : JobKind) (s : State) : (s.line l).SameCounts ((endCollided l k s).line l) := by
  cases k with
  | exchange x => exact endAttempt_sameCounts l x .collision s
  | data d => exact endData_sameCounts l d false s
  | wack a => exact giveJob_sameCounts l _ s
  | tone n => exact .refl _
  | quiet =>
    unfold endCollided
    dsimp only
    split
    · have hended : (s.line l).SameCounts ((endEpisode l (clearJob l s)).line l) := by
        rw [endEpisode, updWake_line, clearJob, State.updLine_line_same]
        exact ⟨rfl, rfl, rfl⟩
      exact hended.trans (finishFirst_enginesOnly l _ _ _).sameCounts
    · exact giveJob_sameCounts l _ s

theorem endCollided_touches (l : LineId) (k : JobKind) (s : State) : State.Touches l s (endCollided l k s) :=
  (endCollided_works (lic := .any) trivial l k s (.inr trivial)).touches

/-- The state in which a transmission ends as collided: both counts risen and the counter block written (R9, R168). -/
def State.collided (s : State) (l : LineId) : State :=
  (s.updLine l (fun y => { y with
    consecutiveCollisions := y.consecutiveCollisions + 1, counters := { y.counters with collisions := y.counters.collisions + 1 } })).issue
    (.write (s.context.indexPage + BitVec.ofNat 64 (counterBlockOffset l))
      ({ (s.line l).counters with collisions := (s.line l).counters.collisions + 1 } : Counters).octets)

theorem State.collided_line (s : State) (l : LineId) : (s.collided l).line l =
    { s.line l with
      consecutiveCollisions := (s.line l).consecutiveCollisions + 1
      counters := { (s.line l).counters with collisions := (s.line l).counters.collisions + 1 } } := by
  rw [State.collided, State.issue_line, State.updLine_line_same]

theorem exec_collision_below {l : LineId} {kind : JobKind} {g : Signalling} {octets : List Byte} {s : State}
    (hjob : (s.line l).job = some ⟨kind, .sending g octets⟩) (hbelow : (s.line l).consecutiveCollisions + 1 < (s.line l).params.collisionLimit)
    (cycleFirst : Bool) : exec (.collision l cycleFirst) s = .next (settle l (endCollided l kind (s.collided l))) := by
  change execCollision l cycleFirst s = _
  rw [execCollision, hjob]
  dsimp only
  rw [if_neg (by rw [State.updLine_line_same]; exact Nat.not_le.mpr hbelow)]
  simp only [State.collided, writeCounters, State.indexWrite, addrPlus, State.hostWrite, State.updLine_line_same, State.updLine_context]
  rfl

/-- Settles O50: the counts and their block first, and then the collided end by the kind of transmission. -/
theorem collisionBelowTheLimitEndsTheTransmission : Obligations.CollisionBelowTheLimitEndsTheTransmission := by
  intro l kind g octets cycleFirst s y hjob hbelow counted block
  have huline : (s.collided l).line l = { y with consecutiveCollisions := y.consecutiveCollisions + 1, counters := counted } := s.collided_line l
  have huport : (s.collided l).port = s.port ++ [block] := by simp [State.collided, block, counted, y]
  have hucontext : (s.collided l).context = s.context := by simp [State.collided]
  have hurun : (s.collided l).run = s.run := by simp [State.collided]
  obtain ⟨claim, starved, hsettle⟩ := settle_line l (endCollided l kind (s.collided l))
  obtain ⟨hstate, hcounters, hconsecutive⟩ := (endCollided_sameCounts l kind (s.collided l)).trans (settle_sameCounts l _)
  rw [huline] at hstate hcounters hconsecutive
  have hport : (s.port ++ [block]) <+: (settle l (endCollided l kind (s.collided l))).port :=
    huport ▸ ((endCollided_touches l kind _).trans (settle_touches l _)).port
  have hwrite (c : Completion) {v : State} (hv : v.line l = { (s.collided l).line l with wake := (v.line l).wake, job := none })
      (hcontext : v.context = s.context) : v.completionWrite l c = s.completionWrite l c :=
    State.completionWrite_congr hcontext (by rw [hv, huline]) c
  refine ⟨_, exec_collision_below hjob hbelow cycleFirst, hcounters, hconsecutive, hport, hstate, ?_, ?_, ?_, ?_, ?_, ?_, ?_⟩
  · rintro x rfl hleft hmark
    have hretry : x.afterAttempt .collision = ({ x with used := x.used + 1 }, none) := by
      rw [Exchange.afterAttempt_of_not_last (.inr (.inr (.inl rfl))) (Nat.not_le.mpr hleft), hmark]
      rfl
    rw [hsettle, endCollided, endAttempt_of_none (congrArg Prod.snd hretry), giveJob_line, hretry, huline]
    exact ⟨rfl, rfl⟩
  · rintro x rfl u
    have hhand {o : ExchangeEnd} (h : (x.afterAttempt .collision).2 = some o) :
        settle l (endCollided l (.exchange x) (s.collided l)) = settle l (({ x with used := x.used + 1 } : Exchange).handedOver l o u) := by
      rw [endCollided, endAttempt_of_some h, Exchange.handedOver_congr (x := x) rfl rfl rfl]
      rfl
    refine ⟨fun hlast => hhand ?_, fun hleft hmark => hhand ?_⟩
    · rw [Exchange.afterAttempt_of_last (.inr (.inr (.inl rfl))) hlast]
      rfl
    · rw [Exchange.afterAttempt_of_not_last (.inr (.inr (.inl rfl))) (Nat.not_le.mpr hleft), hmark]
      rfl
  · rintro a rfl
    rw [hsettle, endCollided, giveJob_line, huline]
  · rintro rfl hrun
    rw [hsettle, endCollided, if_neg (by rw [hurun, hrun]; decide), giveJob_line, huline]
    exact ⟨rfl, rfl, rfl⟩
  · rintro rfl hrun i e hfirst
    have hended : (endEpisode l (clearJob l (s.collided l))).line l = { (s.collided l).line l with job := none, wake := WakeSequence.fresh } := by
      rw [endEpisode, updWake_line, clearJob, State.updLine_line_same]
    have hfinish : endCollided l .quiet (s.collided l) = finishEntry l i e stopEnding (endEpisode l (clearJob l (s.collided l))) := by
      rw [endCollided, if_pos (by rw [hurun, hrun]), finishFirst_of_first (hfirst.congr (by rw [hended, huline]))]
    have hcompleted := finishEntry_port l i e stopEnding (endEpisode l (clearJob l (s.collided l)))
    rw [hwrite _ (by rw [hended]) (by simp [endEpisode, updWake, clearJob, hucontext]), hended, huline] at hcompleted
    rw [hsettle, hfinish, finishEntry_line, hended, huline]
    refine ⟨rfl, rfl, rfl, List.IsPrefix.trans ?_ (settle_touches l _).port⟩
    have hbehind : (endEpisode l (clearJob l (s.collided l))).port = s.port ++ [block] := by simp [endEpisode, updWake, clearJob, huport]
    rw [hbehind, List.append_assoc] at hcompleted
    exact hcompleted
  · rintro d rfl hclaimant
    refine ⟨clearJob l (s.collided l), ?_, ?_, ?_⟩
    · rw [endCollided, endData, hclaimant]
      rfl
    · rw [clearJob, State.updLine_line_same, huline]
    · rw [clearJob, State.updLine_port, huport]
  · rintro d rfl hclaimant i e hfirst
    have hcleared : (clearJob l (s.collided l)).line l = { (s.collided l).line l with job := none } := by rw [clearJob, State.updLine_line_same]
    have hfinish : endCollided l (.data d) (s.collided l) =
        finishEntry l i { e with attempts := 1 } ⟨.badFrame, 0, false, false⟩ (clearJob l (s.collided l)) := by
      rw [endCollided, endData, hclaimant]
      dsimp only
      rw [sendOutcome, Line.findEntry_eq_some.mpr (hfirst.congr (by rw [hcleared, huline]))]
      rfl
    have hcompleted := finishEntry_port l i { e with attempts := 1 } ⟨.badFrame, 0, false, false⟩ (clearJob l (s.collided l))
    rw [hwrite _ (by rw [hcleared]) (by simp [clearJob, hucontext]), hcleared, huline] at hcompleted
    rw [hsettle, hfinish, finishEntry_line, hcleared, huline]
    refine ⟨rfl, rfl, rfl, List.IsPrefix.trans ?_ (settle_touches l _).port⟩
    have hbehind : (clearJob l (s.collided l)).port = s.port ++ [block] := by rw [clearJob, State.updLine_port, huport]
    rw [hbehind, List.append_assoc] at hcompleted
    exact hcompleted

end Sys2Proof.Machine
end

section
/-! PROOFS. The barrier requests on station records and parameters: STATION_SET, STATION_READ and LINE_CONFIG. -/

set_option Elab.async false

namespace Sys2Proof.Machine

/-! ## Changes of several records (R43, R52) -/

/-- The STATION_STATE events of a change `f` of the records of `as` (R43). -/
def Line.movedEvents (x : Line) (l : LineId) (cause : HealthCause) (f : Station → Station) (as : List Nat) : List Event :=
  as.filterMap (fun a => if (f (x.station a)).state = (x.station a).state then none
    else some (.stationState l a (x.station a).state (f (x.station a)).state (f (x.station a)).failures cause))

/-- The line with a change `f` made to the records of `as` in turn. -/
def Line.changeStations (f : Station → Station) (as : List Nat) (x : Line) : Line := as.foldl (fun x a => x.setStation a (f (x.station a))) x

/-- A change of several distinct records as the events of their changes of state, and their new values. -/
theorem foldl_changeStation_raised (l : LineId) (cause : HealthCause) (f : Station → Station) {as : List Nat} (hn : as.Nodup) (s : State) :
    as.foldl (changeStation l cause f) s = s.raised l ((s.line l).movedEvents l cause f as) (Line.changeStations f as) := by
  induction as generalizing s with
  | nil => exact (s.updLine_self l _ rfl).symm
  | cons a rest ih =>
    obtain ⟨ha, hrest⟩ := List.nodup_cons.mp hn
    have hsame : ((changeStation l cause f s a).line l).movedEvents l cause f rest = (s.line l).movedEvents l cause f rest := by
      refine List.filterMap_congr fun b hb => ?_
      rw [changeStation_line, Line.station_setStation_ne _ _ (by rintro rfl; exact ha hb)]
    rw [List.foldl_cons, ih hrest, hsame, changeStation_raised, State.raised, raiseAll_raised, State.raised_updLine]
    refine congrArg (fun es => s.raised l es (Line.changeStations f (a :: rest))) ?_
    rw [Line.movedEvents, Line.movedEvents, List.filterMap_cons, Station.stateEvents]
    by_cases h : (f ((s.line l).station a)).state = ((s.line l).station a).state
    · rw [if_neg (not_not.mpr h), if_pos h]
      rfl
    · rw [if_pos h, if_neg h]
      rfl

theorem Line.changeStations_rest (f : Station → Station) (as : List Nat) (x : Line) :
    Line.changeStations f as x = { x with stations := (Line.changeStations f as x).stations } := by
  unfold Line.changeStations
  induction as generalizing x with
  | nil => rfl
  | cons a rest ih => rw [List.foldl_cons, ih, Line.setStation_rest]

theorem Line.changeStations_station (f : Station → Station) {as : List Nat} (hn : as.Nodup) (hr : ∀ a, a ∈ as → 1 ≤ a ∧ a ≤ 62) (x : Line) (b : Nat) :
    (Line.changeStations f as x).station b = if b ∈ as then f (x.station b) else x.station b := by
  unfold Line.changeStations
  induction as generalizing x with
  | nil => simp
  | cons a rest ih =>
    obtain ⟨ha, hrest⟩ := List.nodup_cons.mp hn
    rw [List.foldl_cons, ih hrest (fun c hc => hr c (List.mem_cons_of_mem a hc))]
    by_cases hb : b = a
    · subst hb
      simp [ha, Line.station_setStation_same _ _ (hr b List.mem_cons_self)]
    · simp [hb, Line.station_setStation_ne _ _ hb]

theorem mem_stationRange {first last a : Nat} : a ∈ stationRange first last ↔ first ≤ a ∧ a ≤ last := by
  simp only [stationRange, List.mem_range'_1]
  omega

theorem nodup_stationRange (first last : Nat) : (stationRange first last).Nodup := List.nodup_range'

/-! ## STATION_SET (R51, R52) -/

theorem Line.settled_iff (x : Line) : x.settled = true ↔ x.state = .active ∨ x.state = .rest ∨ x.state = .faulted := by
  unfold Line.settled
  cases x.state <;> simp

theorem exec_stationSet_oldest {l : LineId} {e : Entry} {s : State} {first last : Nat} {act : SetAction} (h : s.oldestWaiting l = some e)
    (hbody : e.body = .stationSet first last act) (hsettled : (s.line l).settled = true) :
    exec (.stationSet l) s =
      .next (finishEntry l 0 e ⟨.ok, (s.line l).changedBy first last act, false, false⟩ (applySet l first last act s)) := by
  change execStationSet l s = _
  rw [execStationSet, h]
  dsimp only
  rw [hbody]
  exact if_pos hsettled

/-- Settles O37: the records of the range changed once each, with the events of their changes of state before the completion. -/
theorem stationSetChangesItsRange : Obligations.StationSetChangesItsRange := by
  constructor
  · intro l e rest first last act s hrun hjob hentries hwait hbody hstate h1 hle h62
    have hin : ∀ a, a ∈ stationRange first last → 1 ≤ a ∧ a ≤ 62 := fun a ha => by
      have := mem_stationRange.mp ha
      omega
    let moved := (s.line l).movedEvents l .stationSet act.apply (stationRange first last)
    have hexec := exec_stationSet_oldest (State.oldestWaiting_eq hrun hjob hentries hwait) hbody ((s.line l).settled_iff.mpr hstate)
    rw [applySet, foldl_changeStation_raised l .stationSet act.apply (nodup_stationRange first last)] at hexec
    have hproducer : (Line.changeStations act.apply (stationRange first last) (s.line l)).completion.producer = (s.line l).completion.producer := by
      rw [Line.changeStations_rest]
    have hacts := finishEntry_raised_acts_at (s := s) (l := l) (es := moved) (f := Line.changeStations act.apply (stationRange first last)) 0 e
      ⟨.ok, (s.line l).changedBy first last act, false, false⟩ hproducer
    have hline := finishEntry_raised_line (s := s) (l := l) (es := moved) (f := Line.changeStations act.apply (stationRange first last)) 0 e
      ⟨.ok, (s.line l).changedBy first last act, false, false⟩
    have hstation (a : Nat) : (Line.changeStations act.apply (stationRange first last) (s.line l)).station a =
        if first ≤ a ∧ a ≤ last then act.apply ((s.line l).station a) else (s.line l).station a := by
      rw [Line.changeStations_station _ (nodup_stationRange first last) hin]
      exact if_congr mem_stationRange rfl rfl
    have hmoved : ((List.range' first (last + 1 - first)).filterMap (fun a =>
         let r := (s.line l).station a
         let r' := act.apply r
         if r'.state = r.state then none else some (Event.stationState l a r.state r'.state r'.failures .stationSet))) = moved := rfl
    refine ⟨_, hexec, fun a => ?_, ?_, ?_, ?_⟩
    · rw [hline, ← hstation]
      rfl
    · rw [hline, Line.changeStations_rest]
      rfl
    · rw [hacts.raises.sequence]
      congr 2
      rw [← hmoved, List.length_filterMap_eq_countP]
      refine List.countP_congr fun a _ => ?_
      dsimp only
      split <;> simp_all
    · intro changed moved'
      refine ⟨hacts.raises, ?_⟩
      have hwrites := finishEntry_raised_newWrites_at (s := s) (l := l) (es := moved) (f := Line.changeStations act.apply (stationRange first last)) 0 e
        ⟨.ok, (s.line l).changedBy first last act, false, false⟩ hproducer
      have hchanged : (s.line l).changedBy first last act = changed := List.countP_eq_length_filter.symm
      have hcompletion : e.completion (Line.changeStations act.apply (stationRange first last) (s.line l)) ⟨.ok, changed, false, false⟩ =
          ⟨e.tag, e.ringIndex, e.kind, .ok, false, false, changed, e.attempts, some (act.apply ((s.line l).station first)).state⟩ := by
        have hfirst := hstation first
        rw [if_pos ⟨le_rfl, hle⟩] at hfirst
        rw [Entry.completion, hbody, Body.reportStation, Line.reportedState, if_pos ⟨h1, hle.trans h62⟩, hfirst]
      rw [← hcompletion, ← hchanged]
      exact hwrites
  · intro r
    refine ⟨fun h => ⟨if_pos h, if_pos h, if_pos h⟩, fun h => ⟨if_neg h, if_neg h, if_neg h⟩, fun v => rfl, fun v => rfl⟩

/-! ## STATION_READ (R54, R55) -/

theorem writeImages_port (l : LineId) (first last : Nat) (address : Addr) (s : State) :
    (writeImages l first last address s).port = s.port ++ (stationRange first last).map
      (fun a => .write (address + BitVec.ofNat 64 (16 * (a - first))) (((s.line l).station a).image a)) := by
  unfold writeImages
  induction stationRange first last generalizing s with
  | nil => exact (List.append_nil _).symm
  | cons a rest ih =>
    rw [List.foldl_cons, ih, State.hostWrite_line, State.hostWrite_port, List.append_assoc]
    rfl

theorem clearStatistics_eq (l : LineId) (first last : Nat) (s : State) :
    clearStatistics l first last s = s.updLine l (Line.changeStations Station.clearStatistics (stationRange first last)) := by
  unfold clearStatistics Line.changeStations
  induction stationRange first last generalizing s with
  | nil => exact (s.updLine_self l _ rfl).symm
  | cons a rest ih => rw [List.foldl_cons, ih, State.updLine_updLine]; rfl

/-- The line after the CLEAR step, if it is asked for (R54). -/
def Line.cleared (x : Line) (clear : Bool) (first last : Nat) : Line :=
  if clear then Line.changeStations Station.clearStatistics (stationRange first last) x else x

theorem Line.cleared_rest (x : Line) (clear : Bool) (first last : Nat) :
    x.cleared clear first last = { x with stations := (x.cleared clear first last).stations } := by
  unfold Line.cleared
  split
  · exact Line.changeStations_rest ..
  · rfl

theorem exec_stationRead_oldest {l : LineId} {e : Entry} {s : State} {first last : Nat} {clear : Bool} {address : Addr}
    (h : s.oldestWaiting l = some e) (hbody : e.body = .stationRead first last clear address) (hsettled : (s.line l).settled = true) :
    exec (.stationRead l) s = .next (finishEntry l 0 e ⟨.ok, last + 1 - first, false, false⟩
      ((writeImages l first last address s).updLine l (fun x => x.cleared clear first last))) := by
  change execStationRead l s = _
  rw [execStationRead, h]
  dsimp only
  rw [hbody]
  dsimp only
  rw [if_pos hsettled]
  cases clear
  · exact congrArg (fun u => Host.Outcome.next (finishEntry l 0 e ⟨.ok, last + 1 - first, false, false⟩ u)) (State.updLine_self _ l _ rfl).symm
  · rw [if_pos rfl, clearStatistics_eq]
    rfl

/-- Settles O38: the images, the CLEAR step, and the completion behind them; an image by its layout. -/
theorem stationReadWritesTheImages : Obligations.StationReadWritesTheImages := by
  refine ⟨fun l e rest first last clear address s hrun hjob hentries hwait hbody hstate h1 hle h62 => ?_, Station.image_fields⟩
  have hin : ∀ a, a ∈ stationRange first last → 1 ≤ a ∧ a ≤ 62 := fun a ha => by
    have := mem_stationRange.mp ha
    omega
  let u := (writeImages l first last address s).updLine l (fun x => x.cleared clear first last)
  have hexec : exec (.stationRead l) s = .next (finishEntry l 0 e ⟨.ok, last + 1 - first, false, false⟩ u) :=
    exec_stationRead_oldest (State.oldestWaiting_eq hrun hjob hentries hwait) hbody ((s.line l).settled_iff.mpr hstate)
  have huline : u.line l = (s.line l).cleared clear first last := by
    rw [State.updLine_line_same, (writeImages_reports l first last address s).line l]
  have hstation (a : Nat) : (u.line l).station a = if first ≤ a ∧ a ≤ last ∧ clear = true then
      { (s.line l).station a with good := 0, failed := 0, busy := 0 } else (s.line l).station a := by
    rw [huline, Line.cleared]
    cases clear
    · simp
    · rw [if_pos rfl, Line.changeStations_station _ (nodup_stationRange first last) hin]
      exact if_congr (by simp [mem_stationRange]) rfl rfl
  have hcompletion : e.completion (u.line l) ⟨.ok, last + 1 - first, false, false⟩ =
      ⟨e.tag, e.ringIndex, e.kind, .ok, false, false, last + 1 - first, e.attempts, some ((s.line l).station first).state⟩ := by
    have hfirst : ((u.line l).station first).state = ((s.line l).station first).state := by
      rw [hstation]
      split <;> rfl
    rw [Entry.completion, hbody, Body.reportStation, Line.reportedState, if_pos ⟨h1, hle.trans h62⟩, hfirst]
  refine ⟨_, hexec, fun a => ?_, ?_, ?_, ?_⟩
  · rw [← hstation, finishEntry_line]
    rfl
  · rw [finishEntry_line, huline, Line.cleared_rest]
    rfl
  · rw [finishEntry_events, State.updLine_events, writeImages_events]
  · have hport := finishEntry_port l 0 e ⟨.ok, last + 1 - first, false, false⟩ u
    rw [hcompletion, State.completionWrite_congr (s := s) ((State.updLine_context ..).trans (writeImages_reports ..).context_eq)
      (by rw [huline, Line.cleared_rest]), State.updLine_port, writeImages_port] at hport
    exact hport

/-! ## LINE_CONFIG (R31 to R36, R50) -/

/-- The copy of a parameter set that a LINE_CONFIG writes (R35). -/
def paramsCopy (cap : Nat) (inn : Addr) (p : Params) : List PortOp := if cap = 0 then [] else [.write inn p.toBlock]

/-- A LINE_CONFIG's completion at the end of a step: its entry gone, and behind what stood before it the copy and the completion record (R35). -/
theorem settle_finishConfig {l : LineId} {i : Nat} {e : Entry} {m : GroupMask} {defaults : Bool} {out : Addr} {cap : Nat} {inn : Addr}
    (hbody : e.body = .lineConfig m defaults out cap inn) {s v : State} (hcontext : v.context = s.context)
    (hproducer : (v.line l).completion.producer = (s.line l).completion.producer) (status : Status) (detail : Nat) :
    (∃ claim starved, (settle l (finishConfig l i e ⟨status, detail, false, false⟩ v)).line l =
      { (v.line l).afterCompletion i with collector := { (v.line l).collector with claim := claim, starved := starved } }) ∧
    (v.port ++ paramsCopy cap inn (v.line l).params ++
      [s.completionWrite l ⟨e.tag, e.ringIndex, e.kind, status, false, false, detail, e.attempts, none⟩]) <+:
        (settle l (finishConfig l i e ⟨status, detail, false, false⟩ v)).port := by
  have hfinish : finishConfig l i e ⟨status, detail, false, false⟩ v = finishEntry l i e ⟨status, detail, false, false⟩ (writeParamsCopy l cap inn v) := by
    rw [finishConfig, hbody]
  have hline : (writeParamsCopy l cap inn v).line l = v.line l := writeParamsCopy_line l l cap inn v
  have hcopied : (writeParamsCopy l cap inn v).port = v.port ++ paramsCopy cap inn (v.line l).params := by
    unfold writeParamsCopy paramsCopy
    split
    · exact (List.append_nil _).symm
    · rfl
  have hsame : (writeParamsCopy l cap inn v).context = s.context := by
    unfold writeParamsCopy
    split <;> exact hcontext
  constructor
  · obtain ⟨claim, starved, hsettle⟩ := settle_line l (finishConfig l i e ⟨status, detail, false, false⟩ v)
    refine ⟨claim, starved, ?_⟩
    rw [hsettle, hfinish, finishEntry_line, hline]
    rfl
  · have hport := finishEntry_port l i e ⟨status, detail, false, false⟩ (writeParamsCopy l cap inn v)
    rw [Entry.completion_of_no_station (by rw [hbody]; rfl), State.completionWrite_congr hsame (by rw [hline, hproducer]), hcopied, ← hfinish] at hport
    exact hport.trans (settle_touches l _).port

/-- The line with the named groups installed and its records re-evaluated (R35, R50). -/
def Line.installed (x : Line) (m : GroupMask) (new : Params) : Line :=
  let y := x.setParams m.link (x.params.install m new)
  if m.health then Line.changeStations (Station.rethreshold x.params.offlineThreshold new.offlineThreshold) stationAddresses y else y

/-- The events of the re-evaluation (R43, R50). -/
def Line.installEvents (x : Line) (l : LineId) (m : GroupMask) (new : Params) : List Event :=
  if m.health then x.movedEvents l .threshold (Station.rethreshold x.params.offlineThreshold new.offlineThreshold) stationAddresses else []

theorem Line.installEvents_eq (x : Line) (l : LineId) (m : GroupMask) (new : Params) :
    (List.range' 1 62).filterMap (fun a =>
      let r := x.station a
      let r' := r.rethreshold x.params.offlineThreshold new.offlineThreshold
      if m.health = false ∨ r'.state = r.state then none else some (Event.stationState l a r.state r'.state r'.failures .threshold)) =
    x.installEvents l m new := by
  unfold Line.installEvents
  cases m.health
  · simp
  · simp only [Bool.true_eq_false, false_or, if_true]
    rfl

theorem Line.movedEvents_congr {x y : Line} (h : y.stations = x.stations) (l : LineId) (cause : HealthCause) (f : Station → Station) (as : List Nat) :
    y.movedEvents l cause f as = x.movedEvents l cause f as := by
  simp only [Line.movedEvents, Line.station_congr h]

/-- The values are installed with the events of the re-evaluation, a starvation that begins behind them (R35, R140). -/
theorem installParams_raised (l : LineId) (m : GroupMask) (new : Params) (s : State) : ∃ starved, installParams l m new s =
    s.raised l ((s.line l).installEvents l m new ++ s.starvation l ((s.line l).installed m new))
      (fun x => { x.installed m new with collector := { x.collector with starved := starved } }) := by
  have hinstalled : (if m.health then reevaluate l (s.line l).params.offlineThreshold new.offlineThreshold
        (s.updLine l (fun x => x.setParams m.link ((s.line l).params.install m new)))
      else s.updLine l (fun x => x.setParams m.link ((s.line l).params.install m new))) =
      s.raised l ((s.line l).installEvents l m new) (fun x => x.installed m new) := by
    unfold Line.installEvents
    split
    · next h =>
      rw [reevaluate, foldl_changeStation_raised l _ _ nodup_stationAddresses, State.updLine_raised, State.updLine_line_same,
        Line.movedEvents_congr (x := s.line l) rfl]
      refine State.raised_congr _ _ _ ?_
      rw [Line.installed, if_pos h]
    · next h =>
      refine State.raised_congr _ _ [] ?_
      rw [Line.installed, if_neg h]
  have hcollector (x : Line) : (x.installed m new).collector = x.collector := by
    unfold Line.installed
    dsimp only
    split
    · rw [Line.changeStations_rest]
      rfl
    · rfl
  obtain ⟨starved, hcheck⟩ := checkStarved_raised s l ((s.line l).installEvents l m new) (fun x => x.installed m new) (by rw [hcollector])
  refine ⟨starved, ?_⟩
  rw [installParams]
  dsimp only
  rw [hinstalled, hcheck]
  simp only [hcollector]

theorem Line.installed_fields (x : Line) (m : GroupMask) (new : Params) :
    x.installed m new = { x with
      params := x.params.install m new
      stations := (x.installed m new).stations
      job := if m.link && x.slotWaitsGap then x.job.map (fun j => { j with stage := .gapWait (x.params.install m new).gap }) else x.job } := by
  unfold Line.installed
  dsimp only
  split
  · rw [Line.changeStations_rest]
    rfl
  · rfl

theorem Line.installed_station (x : Line) (m : GroupMask) (new : Params) {b : Nat} (h : 1 ≤ b ∧ b ≤ 62) :
    (x.installed m new).station b =
      if m.health then (x.station b).rethreshold x.params.offlineThreshold new.offlineThreshold else x.station b := by
  unfold Line.installed
  dsimp only
  split
  · rw [Line.changeStations_station _ nodup_stationAddresses (fun a ha => mem_stationAddresses.mp ha), if_pos (mem_stationAddresses.mpr h)]
    rfl
  · rfl

/-- A LINE_CONFIG that installs values, at the end of its step (R35). -/
theorem settle_finishConfig_installed {l : LineId} {i : Nat} {e : Entry} {m : GroupMask} {defaults : Bool} {out : Addr} {cap : Nat} {inn : Addr}
    (hbody : e.body = .lineConfig m defaults out cap inn) (new : Params) (s : State) :
    let t := settle l (finishConfig l i e ⟨.ok, m.code, false, false⟩ (installParams l m new s))
    (∃ collector, t.line l = { ((s.line l).installed m new).afterCompletion i with collector := collector }) ∧
    ((raiseAll ((s.line l).installEvents l m new ++ s.starvation l (t.line l)) s).port ++ paramsCopy cap inn ((s.line l).params.install m new) ++
      [s.completionWrite l ⟨e.tag, e.ringIndex, e.kind, .ok, false, false, m.code, e.attempts, none⟩]) <+: t.port := by
  intro t
  obtain ⟨starved, hinstall⟩ := installParams_raised l m new s
  obtain ⟨⟨claim, starved', hline⟩, hport⟩ := settle_finishConfig (i := i) hbody (s := s) (v := installParams l m new s)
    (by rw [hinstall, State.raised_context]) (by rw [hinstall, State.raised_line, Line.installed_fields]) .ok m.code
  rw [hinstall, State.raised_line] at hline hport
  have hstarvation : s.starvation l (t.line l) = s.starvation l ((s.line l).installed m new) := by
    refine State.starvation_congr rfl rfl ?_ ?_ ?_ ?_ <;> (simp only [t, hinstall, hline]; rfl)
  refine ⟨⟨_, by simp only [t, hinstall]; exact hline⟩, ?_⟩
  have hparams : ((s.line l).installed m new).params = (s.line l).params.install m new := by rw [Line.installed_fields]
  rw [State.raised_port] at hport
  rw [hstarvation, ← hparams]
  simp only [t, hinstall]
  exact hport

theorem exec_lineConfig_oldest {l : LineId} {e : Entry} {s : State} {m : GroupMask} {defaults : Bool} {out : Addr} {cap : Nat} {inn : Addr}
    (h : s.oldestWaiting l = some e) (hbody : e.body = .lineConfig m defaults out cap inn) (hsettled : (s.line l).settled = true) :
    exec (.lineConfig l) s = .next (settle l (actConfig l e m defaults out s)) := by
  change execLineConfig l s = _
  rw [execLineConfig, h]
  dsimp only
  rw [hbody]
  exact if_pos hsettled

/-- Settles O39: the two refusals, the values installed at once, or the read of the block; a block by its layout. -/
theorem lineConfigActsByItsMask : Obligations.LineConfigActsByItsMask := by
  constructor
  · intro l e rest m defaults out cap inn s hrun hjob hentries hwait hbody hstate x copy report free moved
    have hexec := exec_lineConfig_oldest (State.oldestWaiting_eq hrun hjob hentries hwait) hbody ((s.line l).settled_iff.mpr hstate)
    have hrefuses (status : Status) (h : actConfig l e m defaults out s = finishConfig l 0 e ⟨status, 0, false, false⟩ s) :
        ∃ t, exec (.lineConfig l) s = .next t ∧ (t.line l).params = x.params ∧ (t.line l).entries = rest ∧
          (s.port ++ copy x.params ++ [report status 0]) <+: t.port := by
      obtain ⟨⟨claim, starved, hline⟩, hport⟩ := settle_finishConfig (i := 0) (l := l) hbody (s := s) rfl rfl status 0
      refine ⟨_, by rw [hexec, h], by rw [hline]; rfl, ?_, hport⟩
      rw [hline]
      simp [Line.afterCompletion, hentries]
    have hfree (h : free) : ¬(m.link && x.engine.runs) = true ∧ ¬(m.link && decide (x.state = .faulted)) = true := by
      obtain h | ⟨hruns, hfaulted⟩ := h
      · simp [h]
      · simp [hruns, hfaulted]
    refine ⟨fun hlink hruns => hrefuses _ (if_pos (by rw [hlink, show (s.line l).engine.runs = true from hruns]; rfl)), fun hlink hruns hfaulted => ?_,
      fun h hnow => ?_, fun h hdefaults hmask => ?_⟩
    · refine hrefuses _ ((if_neg ?_).trans (if_pos ?_))
      · rw [show (s.line l).engine.runs = false from hruns]
        simp
      · rw [hlink, show (s.line l).state = .faulted from hfaulted]
        rfl
    · have hact : actConfig l e m defaults out s = finishConfig l 0 e ⟨.ok, m.code, false, false⟩ (installParams l m Params.default s) := by
        refine (if_neg (hfree h).1).trans ((if_neg (hfree h).2).trans (if_neg ?_))
        obtain h | h := hnow <;> simp [h]
      obtain ⟨⟨collector, hline⟩, hport⟩ := settle_finishConfig_installed (i := 0) hbody Params.default s
      refine ⟨_, by rw [hexec, hact], ?_, ?_, fun b h1 h62 => ?_, ?_⟩
      · rw [hline, Line.installed_fields]
        rfl
      · rw [hline, Line.installed_fields]
        simp [Line.afterCompletion, hentries]
      · rw [← Line.installed_station x m Params.default ⟨h1, h62⟩, hline]
        rfl
      · rw [show moved = x.installEvents l m Params.default from Line.installEvents_eq x l m Params.default]
        exact hport
    · have hact : actConfig l e m defaults out s =
          (putEntry l 0 { e with state := .inFlight (.blockRead s.nextRead) } s).issueRead (.parameters l) out 24 :=
        (if_neg (hfree h).1).trans ((if_neg (hfree h).2).trans (if_pos (by rw [hmask, hdefaults]; rfl)))
      obtain ⟨claim, starved, hsettle⟩ := settle_eq l ((putEntry l 0 { e with state := .inFlight (.blockRead s.nextRead) } s).issueRead (.parameters l) out 24)
      refine ⟨_, by rw [hexec, hact], ?_, ?_, ?_⟩
      · obtain ⟨claim, starved, hline⟩ := settle_line l ((putEntry l 0 { e with state := .inFlight (.blockRead s.nextRead) } s).issueRead (.parameters l) out 24)
        rw [hline]
        simp [putEntry, x]
      · obtain ⟨claim, starved, hline⟩ := settle_line l ((putEntry l 0 { e with state := .inFlight (.blockRead s.nextRead) } s).issueRead (.parameters l) out 24)
        rw [hline]
        simp [putEntry, hentries]
      · rw [hsettle, State.updLine_reads, (raiseAll_reports _ _).reads_eq]
        simp [State.issueRead, putEntry]
  · intro p h d
    exact ⟨rfl, Params.ofBlock_toBlock h, badParameter_toBlock h, Params.toBlock_fields h⟩

/-- The end of a Line Parameter Block read finds the request that waits for it (R33). -/
theorem exec_lineParameterBlockReadDone {l : LineId} {id i : Nat} {e : Entry} {a : Addr} {m : GroupMask} {defaults : Bool} {out : Addr} {cap : Nat}
    {inn : Addr} {s : State} (hread : s.findRead id = some ⟨id, .parameters l, a, 24⟩) (hfirst : (s.line l).FirstEntry (fun e => e.isDoing (.blockRead id)) i e)
    (hbody : e.body = .lineConfig m defaults out cap inn) (result : ReadResult) :
    exec (.lineParameterBlockReadDone l id result) s =
      .next (settle l (endBlockRead l i e m (HostRead.data ⟨id, .parameters l, a, 24⟩ result) (s.endRead id))) := by
  rw [show Instr.lineParameterBlockReadDone l id result = (Reader.parameters l).done id result from rfl, exec_done, finishRead_of_found hread rfl]
  refine congrArg _ ?_
  change parametersEnded l id _ _ = _
  rw [parametersEnded, State.endRead_line, Line.findEntry_eq_some.mpr hfirst]
  dsimp only
  rw [hbody]

/-- A slot whose frame waits for the gap takes it from a new LINK group (R33). -/
theorem Line.installed_job {x : Line} {k : JobKind} {gap : Nat} (hjob : x.job = some ⟨k, .gapWait gap⟩) (m : GroupMask) (new : Params) :
    (x.installed m new).job = some ⟨k, .gapWait (if m.link = true ∧ k.isSlot = true then new.gap else gap)⟩ := by
  have hwaits : x.slotWaitsGap = k.isSlot := by rw [Line.slotWaitsGap, hjob]
  rw [Line.installed_fields]
  dsimp only
  rw [hwaits, hjob]
  cases hlink : m.link <;> cases k.isSlot <;> simp [Params.install, hlink]

/-- Settles O40: the refusals with the copy of the set in force, or the values installed; the re-evaluation of one record. -/
theorem blockReadInstallsTheNamedGroups : Obligations.BlockReadInstallsTheNamedGroups := by
  constructor
  · intro l id i e a m defaults out cap inn d s hread hlength hfirst hbody x copy report moved refuses
    have hexec := exec_lineParameterBlockReadDone hread hfirst hbody
    have hdata : HostRead.data ⟨id, .parameters l, a, 24⟩ (.octets d) = some d := HostRead.data_of_length hlength
    have hsame : s.SameOut (s.endRead id) := s.sameOut_endRead id
    have hrefuses (r : ReadResult) (status : Status) (detail : Nat)
        (h : endBlockRead l i e m (HostRead.data ⟨id, .parameters l, a, 24⟩ r) (s.endRead id) =
          finishConfig l i e ⟨status, detail, false, false⟩ (s.endRead id)) : refuses r status detail := by
      obtain ⟨⟨claim, starved, hline⟩, hport⟩ := settle_finishConfig (i := i) (l := l) hbody (s := s) (v := s.endRead id) rfl
        (by rw [State.endRead_line]) status detail
      rw [State.endRead_line] at hline hport
      exact ⟨_, by rw [hexec, h], by rw [hline]; rfl, by rw [hline]; rfl, by rw [hline]; rfl, hport⟩
    refine ⟨fun hlink hfaulted r => hrefuses r _ _ (if_pos ?_), fun hfree => ?_⟩
    · rw [State.endRead_line, hlink, show (s.line l).state = .faulted from hfaulted]
      rfl
    · have hno : ¬(m.link && decide (((s.endRead id).line l).state = .faulted)) = true := by
        rw [State.endRead_line]
        obtain h | h := hfree
        · simp [h]
        · simp [show (s.line l).state ≠ .faulted from h]
      refine ⟨hrefuses .error _ _ (if_neg hno), fun bad hbad => hrefuses (.octets d) _ _ ((if_neg hno).trans ?_), fun hgood => ?_⟩
      · rw [hdata]
        dsimp only
        rw [hbad]
      · have hend : endBlockRead l i e m (some d) (s.endRead id) =
            finishConfig l i e ⟨.ok, m.code, false, false⟩ (installParams l m (Params.ofBlock d) (s.endRead id)) := by
          refine (if_neg hno).trans ?_
          dsimp only
          rw [hgood]
        obtain ⟨⟨collector, hline⟩, hport⟩ := settle_finishConfig_installed (i := i) hbody (Params.ofBlock d) (s.endRead id)
        rw [State.endRead_line] at hline hport
        refine ⟨_, by rw [hexec, hdata, hend], ?_, ?_, fun k gap hjob => ?_, fun b h1 h62 => ?_, ?_⟩
        · rw [hline, Line.installed_fields]
          rfl
        · rw [hline, Line.installed_fields]
          rfl
        · rw [← Line.installed_job hjob m (Params.ofBlock d), hline]
          rfl
        · rw [← Line.installed_station x m (Params.ofBlock d) ⟨h1, h62⟩, hline]
          rfl
        · rw [show moved = x.installEvents l m (Params.ofBlock d) from Line.installEvents_eq x l m (Params.ofBlock d), ← (hsame.raiseAll _).port]
          exact hport
  · intro old new r
    refine ⟨fun h => ?_, fun hen hlow => ⟨fun hfail => ?_, fun hfail => ?_⟩, fun hhigh => ⟨fun h => ?_, fun h => ?_⟩⟩
    all_goals unfold Station.rethreshold
    · obtain h | rfl := h
      · exact if_pos h
      · simp
    · rw [if_neg hen, if_pos ⟨hlow, hfail⟩]
    · rw [if_neg hen, if_neg (by omega), if_neg (by omega)]
    · rw [if_neg (by rw [h]; decide), if_neg (by omega), if_pos ⟨hhigh, h⟩]
    · split
      · rfl
      · rw [if_neg (by omega), if_neg (fun hc => h hc.2)]

end Sys2Proof.Machine
end

section
/-! PROOFS. The cyclic schedule: the slot entries, the slot table and the end of its read (R103 to R107). -/

set_option Elab.async false

namespace Sys2Proof.Machine

/-! ## Slot entries and slot tables (R103, R105, R106) -/

/-- The octets of the slot entry at place `j` of a table, counted from 0. -/
def tableEntry (d : List Byte) (j : Nat) : List Byte := (d.drop (16 * j)).take 16

theorem tableEntry_drop (d : List Byte) (j : Nat) : tableEntry (d.drop 16) j = tableEntry d (j + 1) := by
  rw [tableEntry, tableEntry, List.drop_drop, show 16 + 16 * j = 16 * (j + 1) by omega]

theorem parseSlots_succ (size n k : Nat) (d : List Byte) :
    parseSlots size n (k + 1) d = match parseSlot (tableEntry d 0) size with
      | none => .error n
      | some slot => (parseSlots size (n + 1) k (d.drop 16)).map (slot :: ·) := by
  have hentry : tableEntry d 0 = d.take 16 := rfl
  rw [parseSlots, hentry]
  cases parseSlot (d.take 16) size with
  | none => rfl
  | some slot =>
    dsimp only
    cases parseSlots size (n + 1) k (d.drop 16) <;> rfl

/-- A table fails with the number of its first entry that fails (R105, R106). -/
theorem parseSlots_eq_error {size n k : Nat} {d : List Byte} {bad : Nat} :
    parseSlots size n k d = .error bad ↔
      ∃ j, bad = n + j ∧ j < k ∧ parseSlot (tableEntry d j) size = none ∧ ∀ i, i < j → parseSlot (tableEntry d i) size ≠ none := by
  induction k generalizing n d with
  | zero => simp [parseSlots]
  | succ k ih =>
    rw [parseSlots_succ]
    cases hfirst : parseSlot (tableEntry d 0) size with
    | none =>
      constructor
      · rintro ⟨⟩
        exact ⟨0, rfl, by omega, hfirst, fun i hi => absurd hi (Nat.not_lt_zero i)⟩
      · rintro ⟨j, rfl, -, -, hbefore⟩
        obtain rfl : j = 0 := by
          by_contra hj
          exact hbefore 0 (by omega) hfirst
        rfl
    | some slot =>
      have hrest : (parseSlots size (n + 1) k (d.drop 16)).map (slot :: ·) = .error bad ↔ parseSlots size (n + 1) k (d.drop 16) = .error bad := by
        cases parseSlots size (n + 1) k (d.drop 16) <;> simp [Except.map]
      rw [hrest, ih]
      constructor
      · rintro ⟨j, rfl, hj, hnone, hbefore⟩
        refine ⟨j + 1, by omega, by omega, by rwa [← tableEntry_drop], fun i hi => ?_⟩
        cases i with
        | zero => simp [hfirst]
        | succ i =>
          rw [← tableEntry_drop]
          exact hbefore i (by omega)
      · rintro ⟨j, rfl, hj, hnone, hbefore⟩
        cases j with
        | zero => simp [hfirst] at hnone
        | succ j =>
          refine ⟨j, by omega, by omega, by rwa [tableEntry_drop], fun i hi => ?_⟩
          rw [tableEntry_drop]
          exact hbefore (i + 1) (by omega)

/-- A table that passes gives the slot of each entry, in ascending number (R105). -/
theorem parseSlots_eq_ok {size n k : Nat} {d : List Byte} {slots : List Slot} :
    parseSlots size n k d = .ok slots ↔ slots.length = k ∧ ∀ j, j < k → slots[j]? = parseSlot (tableEntry d j) size := by
  induction k generalizing n d slots with
  | zero => simp [parseSlots, eq_comm]
  | succ k ih =>
    rw [parseSlots_succ]
    cases hfirst : parseSlot (tableEntry d 0) size with
    | none =>
      refine ⟨nofun, fun ⟨hlength, hslots⟩ => ?_⟩
      have := hslots 0 (by omega)
      rw [hfirst, List.getElem?_eq_none_iff] at this
      omega
    | some slot =>
      cases slots with
      | nil => cases parseSlots size (n + 1) k (d.drop 16) <;> simp [Except.map]
      | cons slot' rest =>
        have hrest : (parseSlots size (n + 1) k (d.drop 16)).map (slot :: ·) = .ok (slot' :: rest) ↔
            slot = slot' ∧ parseSlots size (n + 1) k (d.drop 16) = .ok rest := by
          cases parseSlots size (n + 1) k (d.drop 16) <;> simp [Except.map]
        rw [hrest, ih]
        constructor
        · rintro ⟨rfl, rfl, hslots⟩
          refine ⟨rfl, fun j hj => ?_⟩
          cases j with
          | zero => exact hfirst.symm
          | succ j =>
            rw [← tableEntry_drop]
            exact hslots j (by omega)
        · rintro ⟨hlength, hslots⟩
          have hhead := hslots 0 (by omega)
          rw [hfirst] at hhead
          refine ⟨(Option.some.inj hhead).symm, by simpa using hlength, fun j hj => ?_⟩
          rw [tableEntry_drop]
          exact hslots (j + 1) (by omega)

/-- The checks common to both kinds of slot entry (R106). -/
@[reducible] def slotChecks (d : List Byte) (size : Nat) : Prop :=
  field d 2 1 ≤ 223 ∧ (field d 3 1 = 1 ∨ field d 3 1 = 2 ∨ field d 3 1 = 4 ∨ field d 3 1 = 8 ∨ field d 3 1 = 16) ∧
    field d 4 1 < field d 3 1 ∧ field d 8 2 ≤ 240 ∧ field d 6 2 + field d 8 2 ≤ size

/-- The slot that an entry of this kind describes (R103). -/
def slotOf (kind : SlotKind) (d : List Byte) : Slot :=
  ⟨kind, field d 1 1, d.getD 2 0, field d 3 1, field d 4 1, field d 6 2, field d 8 2, field d 10 2, field d 12 2⟩

/-- A slot entry gives its slot by its kind and the checks of that kind, and nothing else (R103, R106). -/
theorem parseSlot_eq_some {d : List Byte} {size : Nat} {slot : Slot} :
    parseSlot d size = some slot ↔
      (field d 0 1 = 1 ∧ slotChecks d size ∧ 1 ≤ field d 1 1 ∧ field d 1 1 ≤ 62 ∧ field d 12 2 ≤ 240 ∧ field d 10 2 + 2 * field d 12 2 ≤ size ∧
        slot = slotOf .poll d) ∨
      (field d 0 1 = 2 ∧ slotChecks d size ∧ field d 1 1 ≤ 62 ∧ slot = slotOf .output d) := by
  have hcommon : (decide (field d 2 1 ≤ 223) && [1, 2, 4, 8, 16].contains (field d 3 1) && decide (field d 4 1 < field d 3 1)
      && decide (field d 8 2 ≤ 240) && decide (field d 6 2 + field d 8 2 ≤ size)) = true ↔ slotChecks d size := by
    simp [slotChecks, and_assoc]
  by_cases hpoll : field d 0 1 = 1
  · have hparse : parseSlot d size = if slotChecks d size ∧ 1 ≤ field d 1 1 ∧ field d 1 1 ≤ 62 ∧ field d 12 2 ≤ 240 ∧
        field d 10 2 + 2 * field d 12 2 ≤ size then some (slotOf .poll d) else none := by
      rw [parseSlot, hpoll]
      refine if_congr ?_ rfl rfl
      rw [← hcommon]
      simp [and_assoc]
    rw [hparse, Option.ite_none_right_eq_some, Option.some.injEq]
    constructor
    · rintro ⟨⟨hc, h1, h62, hlen, hroom⟩, rfl⟩
      exact .inl ⟨hpoll, hc, h1, h62, hlen, hroom, rfl⟩
    · rintro (⟨-, hc, h1, h62, hlen, hroom, rfl⟩ | ⟨h, -⟩)
      · exact ⟨⟨hc, h1, h62, hlen, hroom⟩, rfl⟩
      · omega
  · by_cases hout : field d 0 1 = 2
    · have hparse : parseSlot d size = if slotChecks d size ∧ field d 1 1 ≤ 62 then some (slotOf .output d) else none := by
        rw [parseSlot, hout]
        refine if_congr ?_ rfl rfl
        rw [← hcommon]
        simp [and_assoc]
      rw [hparse, Option.ite_none_right_eq_some, Option.some.injEq]
      constructor
      · rintro ⟨⟨hc, h62⟩, rfl⟩
        exact .inr ⟨hout, hc, h62, rfl⟩
      · rintro (⟨h, -⟩ | ⟨-, hc, h62, rfl⟩)
        · omega
        · exact ⟨⟨hc, h62⟩, rfl⟩
    · have hparse : parseSlot d size = none := by
        unfold parseSlot
        dsimp only
        split
        · exact absurd ‹_› hpoll
        · exact absurd ‹_› hout
        · rfl
      simp [hparse, hpoll, hout]

theorem updEngine_port (l : LineId) (f : Engine → Engine) (s : State) : (updEngine l f s).port = s.port := s.updLine_port l _

theorem updEngine_context (l : LineId) (f : Engine → Engine) (s : State) : (updEngine l f s).context = s.context := s.updLine_context l _

/-- Loading writes the status records of all slots in ascending number, and nothing else (R107). -/
theorem writeInitialStatuses_port (a : Addr) (n : Nat) (slots : List Slot) (s : State) :
    (writeInitialStatuses a (n + 1) (slots.map (fun slot => ⟨slot, SlotStatus.loaded⟩)) s).port = s.port ++ (List.range' n slots.length).map
      (fun k => .write (a + BitVec.ofNat 64 (16 * k)) SlotStatus.loaded.octets) := by
  induction slots generalizing n s with
  | nil => exact (List.append_nil _).symm
  | cons slot rest ih =>
    rw [List.map_cons, writeInitialStatuses, ih, State.hostWrite_port, List.append_assoc, List.length_cons, List.range'_succ]
    rfl

theorem exec_slotTableReadDone {l : LineId} {id i : Nat} {e : Entry} {a : Addr} {n : Nat} {s : State}
    (hread : s.findRead id = some ⟨id, .slotTable l, a, 16 * n⟩) (hfirst : (s.line l).FirstEntry (fun e => e.isDoing (.tableRead id)) i e)
    (result : ReadResult) :
    exec (.slotTableReadDone l id result) s =
      .next (endTableRead l i e (HostRead.data ⟨id, .slotTable l, a, 16 * n⟩ result) (s.endRead id)) := by
  rw [show Instr.slotTableReadDone l id result = (Reader.slotTable l).done id result from rfl, exec_done, finishRead_of_found hread rfl]
  refine congrArg _ ?_
  change slotTableEnded l id _ _ = _
  rw [slotTableEnded, State.endRead_line, Line.findEntry_eq_some.mpr hfirst]

/-- Settles O57: the ends of the read by the parse; the parse by its entries; an entry by its checks. -/
theorem slotTableReadLoadsTheBank : Obligations.SlotTableReadLoadsTheBank := by
  refine ⟨?_, fun size n d => ⟨fun bad => ?_, fun slots => parseSlots_eq_ok⟩, fun d size slot h => ?_, fun d size => ?_⟩
  · intro l id i n size e a table arr base d s hread hlength hfirst hbody x g report fails
    have hexec := exec_slotTableReadDone hread hfirst
    have hdata : HostRead.data ⟨id, .slotTable l, a, 16 * n⟩ (.octets d) = some d := HostRead.data_of_length hlength
    have hnone : e.body.reportStation = 0 := by rw [hbody]; rfl
    have hreport {v : State} (hcontext : v.context = s.context) (hcompletion : (v.line l).completion = (s.line l).completion)
        (status : Status) (detail : Nat) :
        (v.port ++ [report status detail]) <+: (finishEntry l i e ⟨status, detail, false, false⟩ v).port := by
      have h := finishEntry_port l i e ⟨status, detail, false, false⟩ v
      rwa [Entry.completion_of_no_station hnone, State.completionWrite_congr hcontext (by rw [hcompletion])] at h
    have hfails (r : ReadResult) (status : Status) (detail : Nat)
        (h : endTableRead l i e (HostRead.data ⟨id, .slotTable l, a, 16 * n⟩ r) (s.endRead id) =
          finishEntry l i e ⟨status, detail, false, false⟩ (setInactiveState l .empty (s.endRead id))) : fails r status detail := by
      have hport := hreport (v := setInactiveState l .empty (s.endRead id))
        (updEngine_context l _ _)
        (by rw [setInactiveState, updEngine_line, State.endRead_line]) status detail
      rw [show (setInactiveState l .empty (s.endRead id)).port = s.port from updEngine_port l _ _] at hport
      refine ⟨_, by rw [hexec, h], ?_, ?_, hport⟩
      all_goals rw [finishEntry_line, setInactiveState, updEngine_line, State.endRead_line]
      all_goals rfl
    refine ⟨hfails .error _ _ ?_, fun bad hbad => hfails (.octets d) _ _ ?_, fun slots hslots => ⟨(parseSlots_eq_ok.mp hslots).1, ?_⟩⟩
    · unfold endTableRead
      rw [hbody]
      rfl
    · unfold endTableRead
      rw [hbody, hdata]
      dsimp only
      rw [hbad]
    · have hend : endTableRead l i e (some d) (s.endRead id) = finishEntry l i e ⟨.ok, 0, false, false⟩
          (writeInitialStatuses arr 1 (slots.map (fun slot => ⟨slot, SlotStatus.loaded⟩)) (updEngine l (fun g => g.setBank g.active.other
            ⟨.loaded, slots.map (fun slot => ⟨slot, SlotStatus.loaded⟩), base, size, arr⟩) (s.endRead id))) := by
        unfold endTableRead
        rw [hbody]
        dsimp only
        rw [hslots]
      have hsame := writeInitialStatuses_reports arr 1 (slots.map (fun slot => ⟨slot, SlotStatus.loaded⟩)) (updEngine l (fun g =>
        g.setBank g.active.other ⟨.loaded, slots.map (fun slot => ⟨slot, SlotStatus.loaded⟩), base, size, arr⟩) (s.endRead id))
      have hline := hsame.line l
      rw [updEngine_line, State.endRead_line] at hline
      have hport := hreport (hsame.context_eq.trans (updEngine_context l _ _)) (by rw [hline]) .ok 0
      rw [writeInitialStatuses_port, (parseSlots_eq_ok.mp hslots).1, ← List.range_eq_range', updEngine_port] at hport
      refine ⟨_, (hexec (.octets d)).trans (by rw [hdata, hend]), ?_, ?_, hport⟩
      all_goals rw [finishEntry_line, hline]
      all_goals rfl
  · rw [parseSlots_eq_error]
    constructor
    · rintro ⟨j, rfl, hj, hnone, hbefore⟩
      refine ⟨by omega, by omega, ?_, fun k h1 hk => ?_⟩
      · dsimp only
        rwa [Nat.add_sub_cancel_left]
      · exact hbefore (k - 1) (by omega)
    · rintro ⟨h1, hn, hnone, hbefore⟩
      refine ⟨bad - 1, by omega, by omega, hnone, fun i hi => ?_⟩
      exact hbefore (i + 1) (by omega) (by omega)
  · obtain ⟨hkind, -, -, -, -, -, rfl⟩ | ⟨hkind, -, -, rfl⟩ := parseSlot_eq_some.mp h
    · rw [if_pos hkind]
      rfl
    · rw [if_neg (by omega)]
      rfl
  · simp only [Option.isSome_iff_exists, parseSlot_eq_some]
    constructor
    · rintro ⟨slot, ⟨hkind, hc, h1, h62, hlen, hroom, -⟩ | ⟨hkind, hc, h62, -⟩⟩
      · exact .inl ⟨hkind, hc, h1, h62, hlen, hroom⟩
      · exact .inr ⟨hkind, hc, h62⟩
    · rintro (⟨hkind, hc, h1, h62, hlen, hroom⟩ | ⟨hkind, hc, h62⟩)
      · exact ⟨_, .inl ⟨hkind, hc, h1, h62, hlen, hroom, rfl⟩⟩
      · exact ⟨_, .inr ⟨hkind, hc, h62, rfl⟩⟩

end Sys2Proof.Machine
end

section
/-! PROOFS. The parts of a step on the cycle engine: slots recorded, banks switched, the engine stopped, each with all that it writes (R120 to R126). -/

set_option Elab.async false

namespace Sys2Proof.Machine

/-! ## A part of a step, with its line and all its writes -/

/-- From `s` to `t` only line `l` changed, to `y`; these events were raised, these completions written, and these are all the writes. -/
structure State.Part (l : LineId) (s t : State) (y : Line) (es : List Event) (cs : List Completion) (ws : List PortOp) : Prop
    extends State.Acts l s t es cs where
  line : t.line l = y
  wrote : s.Wrote t ws

section
variable {l : LineId} {s t u : State} {y z : Line} {es fs : List Event} {cs ds : List Completion} {ws vs : List PortOp}

theorem State.Part.trans (h : State.Part l s t y es cs ws) (k : State.Part l t u z fs ds vs) :
    State.Part l s u z (es ++ fs) (cs ++ ds) (ws ++ vs) :=
  ⟨h.toActs.trans k.toActs, k.line, h.wrote.trans k.wrote⟩

theorem State.Part.refl (l : LineId) (s : State) : State.Part l s s (s.line l) [] [] [] := ⟨.refl l s, rfl, .refl s⟩

theorem State.Part.context (h : State.Part l s t y es cs ws) : t.context = s.context := h.touches.context_eq

/-- What a later event writes, seen from the beginning of the parts before it (R90). -/
theorem State.Part.newWrites_raiseEvent (h : State.Part l s t y es cs ws) (e : Event) :
    s.newWrites (raiseAll (es ++ [e]) s) = s.newWrites (raiseAll es s) ++ t.newWrites (raiseEvent e t) := by
  rw [raiseAll_append, State.newWrites_trans (raiseAll_reports es s).port (raiseAll_reports [e] _).port]
  exact congrArg _ (raiseEvent_congr e (h.raises.1.symm ▸ rfl : (raiseAll es s).events = t.events)
    ((raiseAll_reports es s).context_eq.trans h.context.symm)).2

/-- What a later event writes, when no event stood before it. -/
theorem State.Part.newWrites_first (h : State.Part l s t y [] cs ws) (e : Event) : t.newWrites (raiseEvent e t) = s.newWrites (raiseEvent e s) :=
  (raiseEvent_congr e h.raises.1 h.context).2

theorem State.Part.cycleRecordWrite (h : State.Part l s t y es cs ws) (g : Engine) : t.cycleRecordWrite l g = s.cycleRecordWrite l g := by
  rw [State.cycleRecordWrite, h.context]
  rfl

theorem State.Part.completionWrites (h : State.Part l s t y es cs ws) (i : Half) (c : List Completion) :
    t.completionWrites l i c = s.completionWrites l i c := State.completionWrites_congr h.context l i c

end

theorem State.updLine_part {l : LineId} {s : State} {f : Line → Line} (h : (f (s.line l)).completion.producer = (s.line l).completion.producer) :
    State.Part l s (s.updLine l f) (f (s.line l)) [] [] [] :=
  ⟨State.updLine_acts h, State.updLine_line_same s l f, s.updLine_wrote l f⟩

theorem updEngine_part (l : LineId) (f : Engine → Engine) (s : State) :
    State.Part l s (updEngine l f s) { s.line l with engine := f (s.line l).engine } [] [] [] := State.updLine_part rfl

theorem raiseEvent_part (l : LineId) (e : Event) (s : State) :
    State.Part l s (raiseEvent e s) (s.line l) [e] [] (s.newWrites (raiseEvent e s)) :=
  ⟨raiseEvent_acts l e s, (raiseEvent_reports e s).line l, .of_port (raiseEvent_reports e s).port⟩

theorem writeCycleRecord_part (l : LineId) (s : State) :
    State.Part l s (writeCycleRecord l s) (s.line l) [] [] [s.cycleRecordWrite l (s.line l).engine] :=
  ⟨writeCycleRecord_acts l s, (writeCycleRecord_reports l s).line l, writeCycleRecord_wrote l s⟩

theorem hostWrite_part (l : LineId) (a : Addr) (d : List Byte) (s : State) : State.Part l s (s.hostWrite a d) (s.line l) [] [] [.write a d] :=
  ⟨(s.hostWrite_reports a d).acts rfl, s.hostWrite_line a d l, s.hostWrite_wrote a d⟩

/-- The line with `n` more completions written. -/
def Line.completed (x : Line) (n : Nat) : Line :=
  { x with completion := { x.completion with producer := x.completion.producer + BitVec.ofNat 16 n } }

theorem Line.completed_zero (x : Line) : x.completed 0 = x := by
  unfold Line.completed
  rw [show x.completion.producer + BitVec.ofNat 16 0 = x.completion.producer from BitVec.add_zero _]

theorem completeEntry_part (l : LineId) (how : Ending) (s : State) (e : Entry) :
    State.Part l s (completeEntry l how s e) ((s.line l).completed 1) [] [e.completion (s.line l) how]
      (s.completionWrites l (s.line l).completion.producer [e.completion (s.line l) how]) :=
  ⟨complete_acts l _ s, complete_line l _ s, complete_wrote l _ s⟩

theorem finishAll_part (l : LineId) (p : Entry → Bool) (how : Entry → Ending) (s : State) :
    State.Part l s (finishAll l p how s)
      { (s.line l).completed ((s.line l).entries.filter p).length with entries := (s.line l).entries.filter (fun e => !p e) } []
      (((s.line l).entries.filter p).map (fun e => e.completion (s.line l) (how e)))
      (s.completionWrites l (s.line l).completion.producer (((s.line l).entries.filter p).map (fun e => e.completion (s.line l) (how e)))) :=
  ⟨finishAll_acts l p how s, finishAll_line l p how s, finishAll_wrote l p how s⟩

theorem Line.findEntry_spec (x : Line) (p : Entry → Bool) :
    x.findEntry p = none ∧ x.entries.find? p = none ∧ x.entries.eraseP p = x.entries ∨
      ∃ i e, x.findEntry p = some (i, e) ∧ x.entries.find? p = some e ∧ x.entries.eraseP p = x.entries.eraseIdx i := by
  rw [Line.findEntry, List.find?_eq_bind_findIdx?_getElem?, List.eraseP_eq_eraseIdx]
  cases hfind : x.entries.findIdx? p with
  | none => exact .inl ⟨rfl, rfl, rfl⟩
  | some i =>
    obtain ⟨hi, -, -⟩ := List.findIdx?_eq_some_iff_getElem.mp hfind
    refine .inr ⟨i, x.entries[i], ?_, ?_, rfl⟩
    · exact congrArg (Option.map (fun e => (i, e))) (List.getElem?_eq_getElem hi)
    · rw [Option.bind_some, List.getElem?_eq_getElem hi]

theorem finishFirst_part (l : LineId) (p : Entry → Bool) (how : Ending) (s : State) :
    State.Part l s (finishFirst l p how s)
      { (s.line l).completed ((s.line l).entries.find? p).toList.length with entries := (s.line l).entries.eraseP p } []
      (((s.line l).entries.find? p).toList.map (fun e => e.completion (s.line l) how))
      (s.completionWrites l (s.line l).completion.producer (((s.line l).entries.find? p).toList.map (fun e => e.completion (s.line l) how))) := by
  obtain ⟨hnone, hfind, herase⟩ | ⟨i, e, hsome, hfind, herase⟩ := (s.line l).findEntry_spec p
  · rw [finishFirst, hnone, hfind, herase, Option.toList_none, List.length_nil, Line.completed_zero]
    exact .refl l s
  · rw [finishFirst, hsome, hfind, herase]
    exact ⟨finishEntry_acts l i e how s, finishEntry_line l i e how s, finishEntry_wrote l i e how s⟩

section
variable {l : LineId} {s t : State} {y : Line} {es : List Event} {cs : List Completion} {ws : List PortOp} (h : State.Part l s t y es cs ws)
include h

theorem State.Part.updEngine (f : Engine → Engine) :
    State.Part l s (updEngine l f t) { y with engine := f y.engine } es cs ws := by
  have k := h.trans (updEngine_part l f t)
  rw [h.line] at k
  simpa using k

theorem State.Part.hostWrite (a : Addr) (d : List Byte) : State.Part l s (t.hostWrite a d) y es cs (ws ++ [.write a d]) := by
  have k := h.trans (hostWrite_part l a d t)
  rw [h.line] at k
  simpa using k

theorem State.Part.raiseEvent (e : Event) : State.Part l s (raiseEvent e t) y (es ++ [e]) cs (ws ++ t.newWrites (raiseEvent e t)) := by
  have k := h.trans (raiseEvent_part l e t)
  rw [h.line] at k
  simpa using k

theorem State.Part.writeCycleRecord : State.Part l s (writeCycleRecord l t) y es cs (ws ++ [s.cycleRecordWrite l y.engine]) := by
  have k := h.trans (writeCycleRecord_part l t)
  rw [h.line, h.cycleRecordWrite] at k
  simpa using k

theorem State.Part.finishFirst (p : Entry → Bool) (how : Ending) :
    State.Part l s (finishFirst l p how t) { y.completed (y.entries.find? p).toList.length with entries := y.entries.eraseP p } es
      (cs ++ (y.entries.find? p).toList.map (fun e => e.completion y how))
      (ws ++ s.completionWrites l y.completion.producer ((y.entries.find? p).toList.map (fun e => e.completion y how))) := by
  have k := h.trans (finishFirst_part l p how t)
  rw [h.line, h.completionWrites] at k
  simpa using k

theorem State.Part.finishAll (p : Entry → Bool) (how : Entry → Ending) :
    State.Part l s (finishAll l p how t) { y.completed (y.entries.filter p).length with entries := y.entries.filter (fun e => !p e) } es
      (cs ++ (y.entries.filter p).map (fun e => e.completion y (how e)))
      (ws ++ s.completionWrites l y.completion.producer ((y.entries.filter p).map (fun e => e.completion y (how e)))) := by
  have k := h.trans (finishAll_part l p how t)
  rw [h.line, h.completionWrites] at k
  simpa using k

theorem State.Part.completeEntry (how : Ending) (e : Entry) :
    State.Part l s (completeEntry l how t e) (y.completed 1) es (cs ++ [e.completion y how])
      (ws ++ s.completionWrites l y.completion.producer [e.completion y how]) := by
  have k := h.trans (completeEntry_part l how t e)
  rw [h.line, h.completionWrites] at k
  simpa using k

end

/-! ## Slots recorded in turn (R120) -/

@[simp] theorem Engine.bank_setBank_same (g : Engine) (b : BankId) (x : Bank) : (g.setBank b x).bank b = x := by cases b <;> rfl

@[simp] theorem Engine.bank_setBank_other (g : Engine) (b : BankId) (x : Bank) : (g.setBank b x).bank b.other = g.bank b.other := by cases b <;> rfl

@[simp] theorem Engine.bank_other_setBank (g : Engine) (b : BankId) (x : Bank) : (g.setBank b.other x).bank b = g.bank b := by cases b <;> rfl

@[simp] theorem Engine.setBank_setBank (g : Engine) (b : BankId) (x y : Bank) : (g.setBank b x).setBank b y = g.setBank b y := by cases b <;> rfl

@[simp] theorem BankId.other_other (b : BankId) : b.other.other = b := by cases b <;> rfl

theorem Bank.ended_nil (b : Bank) (cycle : Word) (r : SlotResult) : b.ended cycle r [] = b := by
  simp only [Bank.ended, List.not_mem_nil, if_false]
  rw [show b.slots.mapIdx (fun _ c => c) = b.slots by simp [List.mapIdx_eq_zipIdx_map]]

theorem Bank.ended_cell (b : Bank) (cycle : Word) (r : SlotResult) (ns : List Nat) (m : Nat) :
    (b.ended cycle r ns).cell m = (b.cell m).map (fun c => if m ∈ ns then { c with status := c.status.after cycle r none } else c) := by
  cases m with
  | zero => rfl
  | succ m =>
    rw [Bank.cell, Bank.cell, if_neg (Nat.succ_ne_zero m), if_neg (Nat.succ_ne_zero m)]
    exact List.getElem?_mapIdx

theorem Bank.ended_ended {b : Bank} {cycle : Word} {r : SlotResult} {n : Nat} {ns : List Nat} (hn : n ∉ ns) :
    (b.ended cycle r [n]).ended cycle r ns = b.ended cycle r (n :: ns) := by
  simp only [Bank.ended, List.mapIdx_mapIdx, Bank.mk.injEq, and_true, true_and]
  refine congrArg (fun f => b.slots.mapIdx f) (funext fun i => funext fun c => ?_)
  simp only [Function.comp_apply, List.mem_cons, List.not_mem_nil, or_false]
  by_cases hi : i + 1 = n
  · simp [hi, hn]
  · simp [hi]

/-- Recording slots that end together leaves the engine with these slots of the active bank ended (R120). -/
def Engine.ended (g : Engine) (r : SlotResult) (ns : List Nat) : Engine := g.setBank g.active (g.activeBank.ended g.cycle r ns)

theorem Bank.ended_of_no_cell {b : Bank} {n : Nat} (h : b.cell n = none) (cycle : Word) (r : SlotResult) : b.ended cycle r [n] = b := by
  have hslots : (b.ended cycle r [n]).slots = b.slots := by
    refine List.ext_getElem? fun i => List.getElem?_mapIdx.trans ?_
    by_cases hi : i + 1 = n
    · subst hi
      rw [show b.slots[i]? = none from h]
      rfl
    · simp [hi]
  calc b.ended cycle r [n] = { b with slots := (b.ended cycle r [n]).slots } := rfl
    _ = b := by rw [hslots]

theorem Bank.ended_of_cell {b : Bank} {n : Nat} {c : SlotCell} (h : b.cell n = some c) (cycle : Word) (r : SlotResult) :
    b.ended cycle r [n] = { b with slots := b.slots.set (n - 1) { c with status := c.status.after cycle r none } } := by
  have hslots : (b.ended cycle r [n]).slots = b.slots.set (n - 1) { c with status := c.status.after cycle r none } := by
    refine List.ext_getElem? fun i => List.getElem?_mapIdx.trans ?_
    cases n with
    | zero => simp [Bank.cell] at h
    | succ n =>
      have hget : b.slots[n]? = some c := h
      rw [Nat.add_sub_cancel, List.getElem?_set]
      by_cases hi : n = i
      · subst hi
        obtain ⟨hlt, hc⟩ := List.getElem?_eq_some_iff.mp hget
        simp [hlt, hc]
      · simp [hi, Ne.symm hi]
  calc b.ended cycle r [n] = { b with slots := (b.ended cycle r [n]).slots } := rfl
    _ = _ := by rw [hslots]

theorem recordSlot_of_no_cell {l : LineId} {r : SlotResult} {k : Option Nat} {s : State} {n : Nat} (h : (s.line l).engine.activeBank.cell n = none) :
    recordSlot l r k s n = s := by
  unfold recordSlot
  dsimp only
  rw [h]

/-- The record of a slot's status (R120). -/
def Bank.statusWrite (b : Bank) (n : Nat) (st : SlotStatus) : PortOp := .write (addrPlus b.statusArray (16 * (n - 1))) st.octets

theorem recordSlot_of_cell {l : LineId} {r : SlotResult} {k : Option Nat} {s : State} {n : Nat} {c : SlotCell}
    (h : (s.line l).engine.activeBank.cell n = some c) :
    recordSlot l r k s n = (updEngine l (fun e => e.setBank e.active { (s.line l).engine.activeBank with
      slots := (s.line l).engine.activeBank.slots.set (n - 1) { c with status := c.status.after (s.line l).engine.cycle r k } }) s).issue
        ((s.line l).engine.activeBank.statusWrite n (c.status.after (s.line l).engine.cycle r k)) := by
  unfold recordSlot
  dsimp only
  rw [h]
  rfl

theorem Bank.statusWrites_singleton (b : Bank) (cycle : Word) (r : SlotResult) (n : Nat) :
    b.statusWrites cycle r [n] = ((b.cell n).map (fun c => b.statusWrite n (c.status.after cycle r none))).toList := by
  rw [Bank.statusWrites, List.filterMap_cons, List.filterMap_nil]
  cases b.cell n <;> rfl

theorem recordSlot_part (l : LineId) (r : SlotResult) (s : State) (n : Nat) :
    State.Part l s (recordSlot l r none s n) { s.line l with engine := (s.line l).engine.ended r [n] } [] []
      ((s.line l).engine.activeBank.statusWrites (s.line l).engine.cycle r [n]) := by
  unfold Engine.ended
  cases hcell : (s.line l).engine.activeBank.cell n with
  | none =>
    rw [Bank.ended_of_no_cell hcell, Engine.setBank_activeBank, recordSlot_of_no_cell hcell, Bank.statusWrites_singleton, hcell]
    exact .refl l s
  | some c =>
    rw [Bank.ended_of_cell hcell, recordSlot_of_cell hcell, Bank.statusWrites_singleton, hcell]
    exact (updEngine_part l _ s).hostWrite _ _

theorem Engine.ended_nil (g : Engine) (r : SlotResult) : g.ended r [] = g := by
  rw [Engine.ended, Bank.ended_nil, Engine.setBank_activeBank]

theorem Engine.ended_ended {g : Engine} {r : SlotResult} {n : Nat} {ns : List Nat} (hn : n ∉ ns) :
    (g.ended r [n]).ended r ns = g.ended r (n :: ns) := by
  simp only [Engine.ended, Engine.setBank_active, Engine.setBank_cycle, Engine.activeBank, Engine.bank_setBank_same, Engine.setBank_setBank,
    Bank.ended_ended hn]

theorem Bank.statusWrites_cons {b : Bank} {cycle : Word} {r : SlotResult} {n : Nat} {ns : List Nat} (hn : n ∉ ns) :
    b.statusWrites cycle r (n :: ns) = b.statusWrites cycle r [n] ++ (b.ended cycle r [n]).statusWrites cycle r ns := by
  have hrest : (b.ended cycle r [n]).statusWrites cycle r ns = b.statusWrites cycle r ns := by
    refine List.filterMap_congr fun m hm => ?_
    rw [Bank.ended_cell]
    have : m ≠ n := by rintro rfl; exact hn hm
    simp [this, Bank.ended]
  rw [hrest, Bank.statusWrites, Bank.statusWrites, Bank.statusWrites, ← List.filterMap_append]
  rfl

/-- Several distinct slots that end with one status, with their records in the order of the list (R122, R125, R126, R127). -/
theorem recordSlots_part (l : LineId) (r : SlotResult) {ns : List Nat} (hn : ns.Nodup) (s : State) :
    State.Part l s (recordSlots l r ns s) { s.line l with engine := (s.line l).engine.ended r ns } [] []
      ((s.line l).engine.activeBank.statusWrites (s.line l).engine.cycle r ns) := by
  unfold recordSlots
  induction ns generalizing s with
  | nil =>
    rw [Engine.ended_nil]
    exact .refl l s
  | cons n ns ih =>
    obtain ⟨hnot, hrest⟩ := List.nodup_cons.mp hn
    have hfirst := recordSlot_part l r s n
    have h := hfirst.trans (ih hrest (recordSlot l r none s n))
    rw [hfirst.line] at h
    dsimp only at h
    rw [Engine.ended_ended hnot] at h
    rw [Bank.statusWrites_cons hnot]
    simpa [Engine.ended, Engine.activeBank] using h

theorem State.Part.recordSlots {l : LineId} {s t : State} {y : Line} {es : List Event} {cs : List Completion} {ws : List PortOp}
    (h : State.Part l s t y es cs ws) (r : SlotResult) {ns : List Nat} (hn : ns.Nodup) :
    State.Part l s (recordSlots l r ns t) { y with engine := y.engine.ended r ns } es cs
      (ws ++ y.engine.activeBank.statusWrites y.engine.cycle r ns) := by
  have k := h.trans (recordSlots_part l r hn t)
  rw [h.line] at k
  simpa using k

/-- Whatever slots are recorded, only the active bank changes. -/
theorem State.Part.recordSlots_any {l : LineId} {s t : State} {y : Line} {es : List Event} {cs : List Completion} {ws : List PortOp}
    (h : State.Part l s t y es cs ws) (r : SlotResult) (ns : List Nat) : ∃ b vs,
      State.Part l s (Machine.recordSlots l r ns t) { y with engine := y.engine.setBank y.engine.active b } es cs (ws ++ vs) ∧
      b.state = y.engine.activeBank.state ∧
      (ns.Nodup → b = y.engine.activeBank.ended y.engine.cycle r ns ∧ vs = y.engine.activeBank.statusWrites y.engine.cycle r ns) := by
  induction ns generalizing t y ws with
  | nil =>
    refine ⟨y.engine.activeBank, [], ?_, rfl, fun _ => ⟨(Bank.ended_nil _ _ _).symm, rfl⟩⟩
    rw [Engine.setBank_activeBank, List.append_nil]
    exact h
  | cons n ns ih =>
    have hfirst := h.trans (recordSlot_part l r t n)
    rw [h.line, List.append_nil, List.append_nil] at hfirst
    obtain ⟨b, vs, hpart, hstate, hexact⟩ := ih hfirst
    simp only [Engine.ended, Engine.setBank_active, Engine.setBank_setBank, List.append_assoc] at hpart
    simp only [Engine.ended, Engine.activeBank, Engine.setBank_active, Engine.setBank_cycle, Engine.bank_setBank_same] at hstate hexact
    refine ⟨b, _, hpart, hstate, fun hn => ?_⟩
    obtain ⟨hnot, hrest⟩ := List.nodup_cons.mp hn
    obtain ⟨rfl, rfl⟩ := hexact hrest
    exact ⟨Bank.ended_ended hnot, (Bank.statusWrites_cons hnot).symm⟩

/-! ## The due list (R114, R122) -/

theorem mem_dueSlots {cycle : Word} {n m : Nat} {cells : List SlotCell} :
    m ∈ dueSlots cycle n cells ↔ n ≤ m ∧ ∃ c, cells[m - n]? = some c ∧ cycle.toNat % c.slot.divisor = c.slot.phase := by
  induction cells generalizing n with
  | nil => simp [dueSlots]
  | cons c rest ih =>
    have hcons : m ∈ dueSlots cycle n (c :: rest) ↔
        (m = n ∧ cycle.toNat % c.slot.divisor = c.slot.phase) ∨ m ∈ dueSlots cycle (n + 1) rest := by
      rw [dueSlots]
      split
      · next h => simp [of_decide_eq_true h]
      · next h => simp [show ¬cycle.toNat % c.slot.divisor = c.slot.phase from fun hp => h (decide_eq_true hp)]
    rw [hcons, ih]
    constructor
    · rintro (⟨rfl, hdue⟩ | ⟨hle, c', hget, hdue⟩)
      · exact ⟨Nat.le_refl m, c, by simp, hdue⟩
      · refine ⟨by omega, c', ?_, hdue⟩
        rwa [show m - n = (m - (n + 1)) + 1 by omega, List.getElem?_cons_succ]
    · rintro ⟨hle, c', hget, hdue⟩
      by_cases hm : m = n
      · subst hm
        rw [Nat.sub_self] at hget
        obtain rfl : c = c' := by simpa using hget
        exact .inl ⟨rfl, hdue⟩
      · refine .inr ⟨by omega, c', ?_, hdue⟩
        rwa [show m - n = (m - (n + 1)) + 1 by omega, List.getElem?_cons_succ] at hget

theorem dueSlots_pairwise (cycle : Word) (n : Nat) (cells : List SlotCell) : (dueSlots cycle n cells).Pairwise (· < ·) := by
  induction cells generalizing n with
  | nil => exact .nil
  | cons c rest ih =>
    rw [dueSlots]
    split
    · exact .cons (fun m hm => (mem_dueSlots.mp hm).1) (ih (n + 1))
    · exact ih (n + 1)

theorem Engine.nodup_remaining {g : Engine} (h : g.due = dueSlots g.cycle 1 g.activeBank.slots) : g.remaining.Nodup := by
  have hdue : g.due.Nodup := h ▸ (dueSlots_pairwise g.cycle 1 g.activeBank.slots).imp fun hlt => Nat.ne_of_lt hlt
  exact hdue.sublist (List.drop_sublist _ _)

/-! ## Switching banks (R124) -/

/-- The engine after a switch: the old active bank is LOADED again if it was ACTIVE, and the other one is the active bank (R124). -/
def Engine.switched (g : Engine) : Engine :=
  { (g.setBank g.active { g.activeBank with state := if g.activeBank.state = .active then .loaded else g.activeBank.state }).setBank
      g.active.other { g.inactiveBank with state := .active } with active := g.active.other }

/-- The PARKED SWITCH of a line, if it has one: the oldest (R124). -/
def Line.parkedSwitch (x : Line) : List Entry := (x.entries.find? (fun p => decide (p.state = .parked))).toList

/-- The line after a switch: the PARKED SWITCH has completed. -/
def Line.switched (x : Line) : Line :=
  { x.completed x.parkedSwitch.length with engine := x.engine.switched, entries := x.entries.eraseP (fun p => decide (p.state = .parked)) }

/-- The completions, with status OK, of these entries of a line. -/
def Line.doneOk (x : Line) (es : List Entry) : List Completion := es.map (fun e => e.completion x ⟨.ok, 0, false, false⟩)

/-- What a switch writes: its event's record, the cycle record, and the completion of the PARKED SWITCH (R124). -/
def State.switchWrites (s : State) (l : LineId) : List PortOp :=
  s.newWrites (raiseEvent (.scheduleSwitched l (s.line l).engine.cycle (s.line l).engine.active.other) s) ++
    [s.cycleRecordWrite l (s.line l).engine.switched] ++
    s.completionWrites l (s.line l).completion.producer ((s.line l).doneOk (s.line l).parkedSwitch)

theorem Line.doneOk_congr {x y : Line} (h : y.stations = x.stations) (es : List Entry) : y.doneOk es = x.doneOk es :=
  List.map_congr_left fun e _ => e.completion_congr h _

theorem switchBanks_part (l : LineId) (s : State) :
    State.Part l s (switchBanks l s) (s.line l).switched
      [.scheduleSwitched l (s.line l).engine.cycle (s.line l).engine.active.other] ((s.line l).doneOk (s.line l).parkedSwitch) (s.switchWrites l) := by
  have hbank := updEngine_part l (fun _ => (s.line l).engine.switched) s
  have hevent := hbank.raiseEvent (.scheduleSwitched l (s.line l).engine.cycle (s.line l).engine.active.other)
  rw [hbank.newWrites_first] at hevent
  exact hevent.writeCycleRecord.finishFirst (fun p => decide (p.state = .parked)) ⟨.ok, 0, false, false⟩

/-- The line after a switch, if its inactive bank is COMMITTED. -/
def Line.switchedIf (x : Line) : Line := if x.engine.inactiveBank.state = .committed then x.switched else x

/-- The SCHEDULE_SWITCHED of a switch, if there is one (R124). -/
def Engine.switchEvents (g : Engine) (l : LineId) : List Event :=
  if g.inactiveBank.state = .committed then [.scheduleSwitched l g.cycle g.active.other] else []

/-- The PARKED SWITCH that completes at a switch, if there is one. -/
def Line.parkedIf (x : Line) : List Entry := if x.engine.inactiveBank.state = .committed then x.parkedSwitch else []

theorem switchIfCommitted_part (l : LineId) (s : State) :
    State.Part l s (switchIfCommitted l s) (s.line l).switchedIf ((s.line l).engine.switchEvents l) ((s.line l).doneOk (s.line l).parkedIf)
      (if (s.line l).engine.inactiveBank.state = .committed then s.switchWrites l else []) := by
  unfold switchIfCommitted Line.switchedIf Engine.switchEvents Line.parkedIf
  by_cases h : (s.line l).engine.inactiveBank.state = .committed
  · simp only [if_pos h]
    exact switchBanks_part l s
  · simp only [if_neg h]
    exact .refl l s

theorem State.Part.switchIfCommitted {l : LineId} {s t : State} {y : Line} {es : List Event} {cs : List Completion} {ws : List PortOp}
    (h : State.Part l s t y es cs ws) :
    State.Part l s (switchIfCommitted l t) y.switchedIf (es ++ y.engine.switchEvents l) (cs ++ y.doneOk y.parkedIf)
      (ws ++ if y.engine.inactiveBank.state = .committed then t.switchWrites l else []) := by
  have k := h.trans (switchIfCommitted_part l t)
  rwa [h.line] at k

theorem State.Part.switchWrites {l : LineId} {s t : State} {y : Line} {es : List Event} {cs : List Completion} {ws : List PortOp}
    (h : State.Part l s t y es cs ws) : t.switchWrites l =
      t.newWrites (Machine.raiseEvent (.scheduleSwitched l y.engine.cycle y.engine.active.other) t) ++ [s.cycleRecordWrite l y.engine.switched] ++
        s.completionWrites l y.completion.producer (y.doneOk y.parkedSwitch) := by
  rw [State.switchWrites, h.line, h.cycleRecordWrite, h.completionWrites]

@[simp] theorem Line.switchedIf_stations (x : Line) : x.switchedIf.stations = x.stations := by
  unfold Line.switchedIf
  split <;> rfl

@[simp] theorem Line.switchedIf_job (x : Line) : x.switchedIf.job = x.job := by
  unfold Line.switchedIf
  split <;> rfl

@[simp] theorem Line.switchedIf_lastGrantee (x : Line) : x.switchedIf.lastGrantee = x.lastGrantee := by
  unfold Line.switchedIf
  split <;> rfl

@[simp] theorem Engine.switched_active (g : Engine) : g.switched.active = g.active.other := rfl
@[simp] theorem Engine.switched_cycle (g : Engine) : g.switched.cycle = g.cycle := by simp [switched]
@[simp] theorem Engine.switched_state (g : Engine) : g.switched.state = g.state := by simp [switched]
@[simp] theorem Engine.switched_stage (g : Engine) : g.switched.stage = g.stage := by simp [switched]
@[simp] theorem Engine.switched_stopRequested (g : Engine) : g.switched.stopRequested = g.stopRequested := by simp [switched]
@[simp] theorem Engine.switched_lastCompleted (g : Engine) : g.switched.lastCompleted = g.lastCompleted := by simp [switched]
@[simp] theorem Engine.switched_overruns (g : Engine) : g.switched.overruns = g.overruns := by simp [switched]
@[simp] theorem Engine.switched_lateStarts (g : Engine) : g.switched.lateStarts = g.lateStarts := by simp [switched]
@[simp] theorem Engine.switched_mergedStarts (g : Engine) : g.switched.mergedStarts = g.mergedStarts := by simp [switched]
@[simp] theorem Engine.switched_source (g : Engine) : g.switched.source = g.source := by simp [switched]
@[simp] theorem Engine.switched_timer (g : Engine) : g.switched.timer = g.timer := by simp [switched]
@[simp] theorem Engine.switched_pendingStart (g : Engine) : g.switched.pendingStart = g.pendingStart := by simp [switched]

theorem Engine.switched_activeBank (g : Engine) : g.switched.activeBank = { g.inactiveBank with state := .active } :=
  Engine.bank_setBank_same _ _ _

theorem Engine.switched_bank_old (g : Engine) :
    g.switched.bank g.active = { g.activeBank with state := if g.activeBank.state = .active then .loaded else g.activeBank.state } :=
  (Engine.bank_other_setBank _ _ _).trans (Engine.bank_setBank_same _ _ _)

theorem Engine.switched_inactiveBank (g : Engine) :
    g.switched.inactiveBank = { g.activeBank with state := if g.activeBank.state = .active then .loaded else g.activeBank.state } := by
  rw [Engine.inactiveBank, Engine.switched_active, BankId.other_other, Engine.switched_bank_old]

theorem Line.switchedIf_fields (x : Line) : x.switchedIf = { x.completed x.parkedIf.length with
    engine := if x.engine.inactiveBank.state = .committed then x.engine.switched else x.engine
    entries := if x.engine.inactiveBank.state = .committed then x.entries.eraseP (fun p => decide (p.state = .parked)) else x.entries } := by
  unfold Line.switchedIf Line.parkedIf
  by_cases h : x.engine.inactiveBank.state = .committed
  · rw [if_pos h, if_pos h, if_pos h, if_pos h]
    rfl
  · rw [if_neg h, if_neg h, if_neg h, if_neg h, List.length_nil, Line.completed_zero]

/-- What a switch leaves as it was (R124). -/
theorem Line.switchedIf_engine (x : Line) :
    x.switchedIf.engine.state = x.engine.state ∧ x.switchedIf.engine.cycle = x.engine.cycle ∧ x.switchedIf.engine.stage = x.engine.stage ∧
      x.switchedIf.engine.lastCompleted = x.engine.lastCompleted ∧ x.switchedIf.engine.overruns = x.engine.overruns ∧
      x.switchedIf.engine.lateStarts = x.engine.lateStarts ∧ x.switchedIf.engine.source = x.engine.source ∧
      x.switchedIf.engine.active = (if x.engine.inactiveBank.state = .committed then x.engine.active.other else x.engine.active) ∧
      x.switchedIf.engine.activeBank.slots =
        (if x.engine.inactiveBank.state = .committed then x.engine.inactiveBank else x.engine.activeBank).slots := by
  rw [x.switchedIf_fields]
  dsimp only
  split
  · refine ⟨Engine.switched_state _, Engine.switched_cycle _, Engine.switched_stage _, Engine.switched_lastCompleted _, ?_, ?_,
      Engine.switched_source _, rfl, ?_⟩
    · simp [Engine.switched]
    · simp [Engine.switched]
    · rw [Engine.switched_activeBank]
  · exact ⟨rfl, rfl, rfl, rfl, rfl, rfl, rfl, rfl, rfl⟩

/-! ## The engine becomes STOPPED (R125) -/

/-- The engine as it becomes STOPPED, before a COMMITTED bank becomes active. -/
def Engine.halt (g : Engine) : Engine := { g with state := .stopped, stopRequested := false, stage := .idle }

/-- The line as its engine becomes STOPPED, before the STOPs that waited complete. -/
def Line.halted (x : Line) : Line := ({ x with engine := x.engine.halt } : Line).switchedIf

/-- The STOPs of a line that wait for its engine (R125). -/
def Line.waitingStops (x : Line) : List Entry := x.entries.filter (fun e => e.isDoing .stopWait)

theorem State.Part.becomeStopped {l : LineId} {s t : State} {y : Line} {es : List Event} {cs : List Completion} {ws : List PortOp}
    (h : State.Part l s t y es cs ws) : ∃ vs,
      State.Part l s (becomeStopped l t) { y.halted.completed y.halted.waitingStops.length with
          entries := y.halted.entries.filter (fun e => !e.isDoing .stopWait) }
        (es ++ y.engine.switchEvents l) (cs ++ y.doneOk y.parkedIf ++ y.doneOk y.halted.waitingStops) vs ∧
      ws <+: vs ∧ s.cycleRecordWrite l y.halted.engine ∈ vs := by
  have hwritten := (h.updEngine Engine.halt).switchIfCommitted.writeCycleRecord
  have hstopped := hwritten.finishAll (fun p => p.isDoing .stopWait) (fun _ => ⟨.ok, 0, false, false⟩)
  have hdone : y.halted.doneOk y.halted.waitingStops = y.doneOk y.halted.waitingStops :=
    Line.doneOk_congr (Line.switchedIf_stations _) _
  rw [← hdone]
  refine ⟨_, hstopped, ?_, ?_⟩
  · rw [List.append_assoc, List.append_assoc]
    exact List.prefix_append _ _
  · exact List.mem_append_left _ (List.mem_append_right _ (List.mem_singleton.mpr rfl))

theorem filter_eraseP_of_disjoint {α : Type} {p q : α → Bool} (h : ∀ a, p a = true → q a = false) (xs : List α) :
    (xs.eraseP p).filter q = xs.filter q := by
  induction xs with
  | nil => rfl
  | cons a rest ih =>
    cases hp : p a with
    | true => rw [List.eraseP_cons_of_pos hp, List.filter_cons_of_neg (by simp [h a hp])]
    | false =>
      rw [List.eraseP_cons_of_neg (by simp [hp]), List.filter_cons, List.filter_cons, ih]

theorem length_eraseP_add_find? {α : Type} (p : α → Bool) (xs : List α) : (xs.eraseP p).length + (xs.find? p).toList.length = xs.length := by
  induction xs with
  | nil => rfl
  | cons a rest ih =>
    cases hp : p a with
    | true => rw [List.eraseP_cons_of_pos hp, List.find?_cons_of_pos hp]; rfl
    | false =>
      rw [List.eraseP_cons_of_neg (by simp [hp]), List.find?_cons_of_neg (by simp [hp]), List.length_cons, List.length_cons, ← ih]
      omega

theorem Entry.isDoing_of_parked {e : Entry} (h : decide (e.state = .parked) = true) (w : Work) : e.isDoing w = false := by
  simp [Entry.isDoing, of_decide_eq_true h]

theorem Line.halted_waitingStops (x : Line) : x.halted.waitingStops = x.waitingStops := by
  unfold Line.halted Line.switchedIf Line.waitingStops
  split
  · exact filter_eraseP_of_disjoint (fun e he => Entry.isDoing_of_parked he _) x.entries
  · rfl

theorem Line.halted_length (x : Line) :
    (x.halted.entries.filter (fun e => !e.isDoing .stopWait)).length + x.parkedIf.length + x.waitingStops.length = x.entries.length := by
  have hsplit : x.halted.entries.length + x.parkedIf.length = x.entries.length := by
    unfold Line.halted Line.switchedIf Line.parkedIf Line.parkedSwitch
    by_cases h : x.engine.inactiveBank.state = .committed
    · rw [if_pos (show x.engine.halt.inactiveBank.state = .committed from h), if_pos h]
      exact length_eraseP_add_find? _ x.entries
    · rw [if_neg (show ¬x.engine.halt.inactiveBank.state = .committed from h), if_neg h]
      rfl
  have hfilter : x.halted.entries.length = (x.halted.entries.filter (fun e => e.isDoing .stopWait)).length +
      (x.halted.entries.filter (fun e => !e.isDoing .stopWait)).length := List.length_eq_length_filter_add _
  rw [← x.halted_waitingStops, Line.waitingStops]
  omega

theorem Line.halted_fields (x : Line) : x.halted = { x.completed x.parkedIf.length with
    engine := if x.engine.inactiveBank.state = .committed then x.engine.halt.switched else x.engine.halt
    entries := if x.engine.inactiveBank.state = .committed then x.entries.eraseP (fun p => decide (p.state = .parked)) else x.entries } :=
  Line.switchedIf_fields { x with engine := x.engine.halt }

/-- The engine of a line that becomes STOPPED (R125). -/
theorem Line.halted_engine (x : Line) :
    x.halted.engine.state = .stopped ∧ x.halted.engine.stopRequested = false ∧ x.halted.engine.stage = .idle ∧
      x.halted.engine.lastCompleted = x.engine.lastCompleted ∧ x.halted.engine.cycle = x.engine.cycle ∧
      x.halted.engine.active = (if x.engine.inactiveBank.state = .committed then x.engine.active.other else x.engine.active) ∧
      x.halted.engine.source = x.engine.source ∧ x.halted.engine.timer = x.engine.timer ∧
      x.halted.engine.pendingStart = x.engine.pendingStart := by
  rw [Line.halted_fields]
  dsimp only
  split <;> simp [Engine.halt]

/-- The bank that was active keeps its slots as the engine becomes STOPPED. -/
theorem Line.halted_slots (x : Line) : (x.halted.engine.bank x.engine.active).slots = x.engine.activeBank.slots := by
  rw [x.halted_fields]
  dsimp only
  split
  · rw [show x.engine.active = x.engine.halt.active from rfl, x.engine.halt.switched_bank_old]
    rfl
  · rfl

/-- What a line keeps up to the moment in which its engine becomes STOPPED. -/
structure Line.StopsAs (x y : Line) : Prop where
  entries : y.entries = x.entries
  stations : y.stations = x.stations
  inactive : y.engine.inactiveBank.state = x.engine.inactiveBank.state
  cycle : y.engine.cycle = x.engine.cycle
  active : y.engine.active = x.engine.active
  lastCompleted : y.engine.lastCompleted = x.engine.lastCompleted

/-- The engine becomes STOPPED after parts that raised and completed nothing (R125). -/
theorem State.Part.becomesStopped {l : LineId} {s t : State} {y : Line} {ws : List PortOp} (h : State.Part l s t y [] [] ws)
    (hsame : (s.line l).StopsAs y) : s.BecomesStopped (Machine.becomeStopped l t) l [] := by
  obtain ⟨vs, hpart, -, hrecord⟩ := h.becomeStopped
  obtain ⟨hstate, hrequested, hstage, hlast, hcycle, hactive, -, -, -⟩ := y.halted_engine
  have hparked : (if decide ((s.line l).engine.inactiveBank.state = .committed) = true
      then ((s.line l).entries.find? (fun e => decide (e.state = .parked))).toList else []) = y.parkedIf := by
    rw [Line.parkedIf, Line.parkedSwitch, hsame.inactive, hsame.entries]
    simp
  have hwaited : (s.line l).entries.filter (fun e => e.isDoing .stopWait) = y.waitingStops := by
    rw [Line.waitingStops, hsame.entries]
  have hline := hpart.line
  unfold State.BecomesStopped
  dsimp only
  rw [hparked, hwaited, hline]
  refine ⟨hstate, hrequested, hstage, hlast.trans hsame.lastCompleted, hcycle.trans hsame.cycle, ?_, fun hnone => ?_, ?_, ?_, ?_, ?_⟩
  · refine hactive.trans ?_
    rw [hsame.inactive, hsame.active]
    simp
  · refine congrArg (List.filter _) ?_
    rw [y.halted_fields, ← hsame.entries]
    dsimp only
    split
    · next hc =>
      rw [Line.parkedIf, if_pos hc, Line.parkedSwitch, Option.toList_eq_nil_iff, List.find?_eq_none] at hnone
      exact List.eraseP_of_forall_not hnone
    · rfl
  · rw [← hsame.entries]
    exact y.halted_length
  · have hevents : y.engine.switchEvents l = if decide ((s.line l).engine.inactiveBank.state = .committed) = true
        then [.scheduleSwitched l (s.line l).engine.cycle (s.line l).engine.active.other] else [] := by
      rw [Engine.switchEvents, hsame.inactive, hsame.cycle, hsame.active]
      simp
    rw [← hevents]
    exact hpart.raises
  · have hdone : (y.parkedIf ++ y.waitingStops ++ []).map (fun e : Entry => e.completion (s.line l) ⟨.ok, 0, false, false⟩) =
        [] ++ y.doneOk y.parkedIf ++ y.doneOk y.halted.waitingStops := by
      rw [List.nil_append, List.append_nil, y.halted_waitingStops, Line.doneOk_congr hsame.stations, Line.doneOk_congr hsame.stations,
        List.map_append]
      rfl
    rw [hdone]
    exact hpart.completes
  · rw [hpart.wrote.newWrites]
    exact hrecord

/-- One more STOP completes behind those that waited. -/
theorem State.BecomesStopped.completeEntry {l : LineId} {s t : State} (h : s.BecomesStopped t l []) (htouch : State.Touches l s t)
    (hstations : (t.line l).stations = (s.line l).stations) (e : Entry) :
    s.BecomesStopped (Machine.completeEntry l ⟨.ok, 0, false, false⟩ t e) l [e] := by
  obtain ⟨hstate, hrequested, hstage, hlast, hcycle, hactive, hnone, hlength, hraises, hcompletes, hrecord⟩ := h
  have hpart := completeEntry_part l ⟨.ok, 0, false, false⟩ t e
  have hwrites := State.newWrites_trans htouch.port hpart.touches.port
  unfold State.BecomesStopped
  rw [hpart.line]
  refine ⟨hstate, hrequested, hstage, hlast, hcycle, hactive, hnone, hlength, ?_, ?_, ?_⟩
  · have k := hraises.trans hpart.raises htouch.context_eq htouch.port hpart.touches.port
    rwa [List.append_nil] at k
  · have k := hcompletes.trans hpart.completes htouch.context_eq htouch.port hpart.touches.port
    rw [Entry.completion_congr e hstations] at k
    rw [List.append_nil] at k
    rwa [List.map_append]
  · rw [hwrites]
    exact List.mem_append_left _ hrecord

end Sys2Proof.Machine
end

section
/-! PROOFS. The schedule requests START, STOP and SWITCH (R109, R123 to R125). -/

set_option Elab.async false

namespace Sys2Proof.Machine

theorem State.Part.updLine {l : LineId} {s t : State} {y : Line} {es : List Event} {cs : List Completion} {ws : List PortOp}
    (h : State.Part l s t y es cs ws) {f : Line → Line} (hf : (f y).completion.producer = y.completion.producer) :
    State.Part l s (t.updLine l f) (f y) es cs ws := by
  have k := h.trans (State.updLine_part (by rw [h.line, hf]))
  rw [h.line] at k
  simpa using k

theorem Line.started_completion (x : Line) : x.started.completion = x.completion := by
  unfold Line.started
  split <;> rfl

theorem State.Part.newWrites {l : LineId} {s t : State} {y : Line} {es : List Event} {cs : List Completion} {ws : List PortOp}
    (h : State.Part l s t y es cs ws) : s.newWrites t = ws := h.wrote.newWrites

/-! ## START (R109) -/

/-- The period that a start source gives to the cycle timer. -/
def StartSource.period : StartSource → Option Nat
  | .timer period => some period
  | _ => none

/-- The engine as a START makes it WAITING (R109). -/
def Engine.startedBy (g : Engine) (source : StartSource) : Engine :=
  { g with state := .waiting, source := some source, timer := source.period, pendingStart := false, startLate := false, due := []
           cursor := 1, stage := .idle }

theorem actStart_of_accepted {l : LineId} {e : Entry} {source : StartSource} {s : State} (hruns : (s.line l).engine.runs = false)
    (hstate : (s.line l).state = .active) (hbank : (s.line l).engine.activeBank.state ≠ .empty) :
    actStart l e source s = (if source.period.isSome then (State.updLine · l Line.started) else id)
      (writeCycleRecord l (completeEntry l ⟨.ok, 0, false, false⟩ (updEngine l (fun g => g.startedBy source) s) e)) := by
  unfold actStart
  dsimp only
  rw [if_neg (by simp [hruns]), if_neg (by simp [hstate]), if_neg (by simp [hstate]), if_neg hbank]
  simp only [startEvent_eq_updLine]
  cases source <;> rfl

theorem actStart_part {l : LineId} {e : Entry} {source : StartSource} {s : State} (hruns : (s.line l).engine.runs = false)
    (hstate : (s.line l).state = .active) (hbank : (s.line l).engine.activeBank.state ≠ .empty) :
    State.Part l s (actStart l e source s)
      { (s.line l).completed 1 with engine := { (s.line l).engine.startedBy source with
          pendingStart := source.period.isSome, startLate := source.period.isSome && (s.line l).job.isSome } }
      [] [e.completion (s.line l) ⟨.ok, 0, false, false⟩]
      [s.completionWrite l (e.completion (s.line l) ⟨.ok, 0, false, false⟩), s.cycleRecordWrite l ((s.line l).engine.startedBy source)] := by
  have h := ((updEngine_part l (fun g => g.startedBy source) s).completeEntry ⟨.ok, 0, false, false⟩ e).writeCycleRecord
  rw [actStart_of_accepted hruns hstate hbank]
  cases hperiod : source.period with
  | none => exact h
  | some period => exact h.updLine (Line.started_completion _ ▸ rfl)

/-! ## STOP (R125) -/

@[simp] theorem Engine.clearStart_activeBank (g : Engine) : g.clearStart.activeBank = g.activeBank := rfl
@[simp] theorem Engine.clearStart_inactiveBank (g : Engine) : g.clearStart.inactiveBank = g.inactiveBank := rfl
@[simp] theorem Engine.clearStart_cycle (g : Engine) : g.clearStart.cycle = g.cycle := rfl
@[simp] theorem Engine.clearStart_lastCompleted (g : Engine) : g.clearStart.lastCompleted = g.lastCompleted := rfl

theorem Engine.inactiveBank_setBank_active (g : Engine) (b : Bank) : (g.setBank g.active b).inactiveBank = g.inactiveBank := by
  rw [Engine.inactiveBank, Engine.setBank_active, Engine.bank_setBank_other]
  rfl

theorem Engine.activeBank_setBank_active (g : Engine) (b : Bank) : (g.setBank g.active b).activeBank = b := by
  rw [Engine.activeBank, Engine.setBank_active, Engine.bank_setBank_same]

/-- The slots that a STOP, or the begin of a device stop, records SKIPPED_STOP (R125, R127). -/
def Engine.stopSkips (g : Engine) : List Nat := if g.state = .inCycle then g.remainingIdle else []

theorem Engine.nodup_stopSkips {g : Engine} (h : g.due = dueSlots g.cycle 1 g.activeBank.slots) : g.stopSkips.Nodup := by
  unfold Engine.stopSkips Engine.remainingIdle
  split
  · split
    · exact (Engine.nodup_remaining h).sublist (List.drop_sublist _ _)
    · exact Engine.nodup_remaining h
  · exact .nil

theorem Engine.stopSkips_of_idle {g : Engine} (h : g.stage ≠ .inFlight) : g.stopSkips = if g.state = .inCycle then g.remaining else [] := by
  rw [Engine.stopSkips, Engine.remainingIdle, if_neg h]

theorem Engine.stopSkips_of_inFlight {g : Engine} (h : g.stage = .inFlight) :
    g.stopSkips = if g.state = .inCycle then g.remaining.drop 1 else [] := by
  rw [Engine.stopSkips, Engine.remainingIdle, if_pos h]

theorem actStop_of_stopped {l : LineId} {e : Entry} {s : State} (h : (s.line l).engine.state = .stopped) :
    actStop l e s = completeEntry l ⟨.ok, 0, false, false⟩ s e := by
  unfold actStop
  dsimp only
  rw [h]
  rfl

theorem actStop_of_halted {l : LineId} {e : Entry} {s : State} (h : (s.line l).engine.state = .halted) :
    actStop l e s = completeEntry l ⟨.ok, 0, false, false⟩ (writeCycleRecord l (updEngine l (fun g => { g with state := .stopped }) s)) e := by
  unfold actStop
  dsimp only
  rw [h]
  rfl

theorem actStop_of_runs {l : LineId} {e : Entry} {s : State} (h : (s.line l).engine.runs = true) :
    actStop l e s =
      if (s.line l).engine.stopRequested then appendEntry l { e with state := .inFlight .stopWait } s
      else if (s.line l).engine.stage = .inFlight then
        appendEntry l { e with state := .inFlight .stopWait } (updEngine l (fun g => { g with stopRequested := true })
          (recordSlots l .skippedStop (s.line l).engine.stopSkips (updEngine l Engine.clearStart s)))
      else completeEntry l ⟨.ok, 0, false, false⟩
        (becomeStopped l (recordSlots l .skippedStop (s.line l).engine.stopSkips (updEngine l Engine.clearStart s))) e := by
  unfold actStop
  dsimp only
  obtain hstate | hstate := ((s.line l).engine.runs_iff).mp h
  all_goals
    rw [Engine.stopSkips, hstate]
    rfl

/-- The engine without its start source, and the slots skipped by a STOP recorded (R125). -/
theorem stopSkips_part (l : LineId) (s : State) : ∃ b vs,
    State.Part l s (recordSlots l .skippedStop (s.line l).engine.stopSkips (updEngine l Engine.clearStart s))
      { s.line l with engine := (s.line l).engine.clearStart.setBank (s.line l).engine.active b } [] [] vs ∧
    ((s.line l).engine.due = dueSlots (s.line l).engine.cycle 1 (s.line l).engine.activeBank.slots →
      b = (s.line l).engine.activeBank.ended (s.line l).engine.cycle .skippedStop (s.line l).engine.stopSkips ∧
      vs = (s.line l).engine.activeBank.statusWrites (s.line l).engine.cycle .skippedStop (s.line l).engine.stopSkips) := by
  obtain ⟨b, vs, hpart, -, hexact⟩ := (updEngine_part l Engine.clearStart s).recordSlots_any .skippedStop (s.line l).engine.stopSkips
  exact ⟨b, vs, hpart, fun h => hexact (Engine.nodup_stopSkips h)⟩

/-- Settles O60: START by its checks and its part; STOP by the engine's state; SWITCH by the state of the inactive bank. -/
theorem scheduleControlActsAtIntake : Obligations.ScheduleControlActsAtIntake := by
  refine ⟨fun l e source s hbody => ?_, fun l e s => ⟨fun hbody => ?_, fun hbody => ?_⟩⟩
  · have hact : actSchedule l e s = actStart l e source s := by rw [actSchedule, hbody]
    rw [hact]
    refine ⟨fun hruns => ?_, fun hruns hstate => ?_, fun hruns hstate => ?_, fun hruns hstate hbank => ?_, fun hruns hstate hbank => ?_⟩
    · unfold actStart
      exact if_pos hruns
    · unfold actStart
      exact (if_neg (by simp [hruns])).trans (if_pos hstate)
    · unfold actStart
      refine (if_neg (by simp [hruns])).trans ((if_neg ?_).trans (if_pos ?_))
      all_goals obtain h | h | h := hstate <;> simp [h]
    · unfold actStart
      exact (if_neg (by simp [hruns])).trans ((if_neg (by simp [hstate])).trans ((if_neg (by simp [hstate])).trans (if_pos hbank)))
    · have hpart := actStart_part (e := e) (source := source) hruns hstate hbank
      dsimp only
      rw [hpart.line, hpart.newWrites]
      refine ⟨?_, rfl, hpart.raises.1, ?_⟩
      all_goals cases source <;> rfl
  · have hact : actSchedule l e s = actStop l e s := by rw [actSchedule, hbody]
    dsimp only
    rw [hact]
    refine ⟨fun hstate => actStop_of_stopped hstate, fun hstate => ?_, fun hruns hrequested hstage => ?_, fun hruns hrequested hstage => ?_,
      fun hruns hrequested => ?_⟩
    · have hpart := ((updEngine_part l (fun g => { g with state := .stopped }) s).writeCycleRecord).completeEntry ⟨.ok, 0, false, false⟩ e
      rw [actStop_of_halted hstate, hpart.line, hpart.newWrites]
      exact ⟨rfl, rfl⟩
    all_goals obtain ⟨b, vs, hpart, hexact⟩ := stopSkips_part l s
    · rw [actStop_of_runs hruns, if_neg (by simp [hrequested]), if_neg hstage]
      obtain ⟨us, hbecome, hprefix, -⟩ := hpart.becomeStopped
      have hdone := hbecome.completeEntry ⟨.ok, 0, false, false⟩ e
      have hstop := hpart.becomesStopped ⟨rfl, rfl, congrArg Bank.state (Engine.inactiveBank_setBank_active _ b), by simp, by simp, by simp⟩
      obtain ⟨-, -, -, -, -, -, hsource, htimer, hpending⟩ :=
        Line.halted_engine { s.line l with engine := (s.line l).engine.clearStart.setBank (s.line l).engine.active b }
      have hslots := Line.halted_slots { s.line l with engine := (s.line l).engine.clearStart.setBank (s.line l).engine.active b }
      rw [show ((s.line l).engine.clearStart.setBank (s.line l).engine.active b).active = (s.line l).engine.active from Engine.setBank_active _ _ _,
        show ((s.line l).engine.clearStart.setBank (s.line l).engine.active b).activeBank = b from Engine.activeBank_setBank_active _ _] at hslots
      have hfields := Line.halted_fields { s.line l with engine := (s.line l).engine.clearStart.setBank (s.line l).engine.active b }
      rw [hdone.line, hdone.newWrites]
      refine ⟨?_, ?_, ?_, ?_, ?_, hstop.completeEntry hbecome.touches ?_ e, fun hdue => ⟨?_, ?_⟩⟩
      · exact hsource.trans (by simp [Engine.clearStart])
      · exact htimer.trans (by simp [Engine.clearStart])
      · exact hpending.trans (by simp [Engine.clearStart])
      · rw [hfields]
        rfl
      · rw [hfields]
        rfl
      · rw [hbecome.line, hfields]
        rfl
      · change (Engine.bank (Line.halted _).engine (s.line l).engine.active).slots = _
        refine hslots.trans ?_
        rw [(hexact hdue).1, Engine.stopSkips_of_idle hstage]
      · refine List.IsPrefix.trans ?_ (hprefix.trans (List.prefix_append us _))
        rw [(hexact hdue).2, Engine.stopSkips_of_idle hstage]
    · have hdone := (hpart.updEngine (fun g => { g with stopRequested := true })).updLine
        (f := fun x => { x with entries := x.entries ++ [{ e with state := .inFlight .stopWait }] }) rfl
      rw [actStop_of_runs hruns, if_neg (by simp [hrequested]), if_pos hstage]
      unfold appendEntry
      rw [hdone.line, hdone.newWrites]
      refine ⟨?_, ?_, ?_, ?_, rfl, ?_, rfl, rfl, rfl, fun hdue => ⟨?_, ?_⟩⟩
      · simp [Engine.clearStart]
      · simp [Engine.clearStart]
      · simp [Engine.clearStart]
      · simp [Engine.clearStart]
      · simpa [Engine.clearStart] using hstage
      · refine (congrArg Bank.slots (Engine.bank_setBank_same (s.line l).engine.clearStart _ b)).trans ?_
        rw [(hexact hdue).1, Engine.stopSkips_of_inFlight hstage]
      · rw [(hexact hdue).2, Engine.stopSkips_of_inFlight hstage]
    · rw [actStop_of_runs hruns, if_pos hrequested]
      rfl
  · have hact : actSchedule l e s = actSwitch l e s := by rw [actSchedule, hbody]
    dsimp only
    rw [hact]
    refine ⟨fun hbank => ?_, fun hbank => ?_, fun hbank hruns => ?_, fun hbank hruns => ?_⟩
    · rw [actSwitch, hbank]
      rfl
    · rw [actSwitch]
      obtain h | h := hbank
      all_goals
        rw [h]
        rfl
    · rw [actSwitch, hbank]
      dsimp only
      rw [if_pos hruns, appendEntry, setInactiveState, updEngine, State.updLine_updLine]
      rfl
    · have hparked := (switchBanks_part l s).completeEntry ⟨.ok, 0, false, false⟩ e
      rw [actSwitch, hbank]
      dsimp only
      rw [if_neg (by simp [hruns]), endSchedule, hparked.line, hparked.newWrites]
      refine ⟨rfl, Engine.switched_activeBank _, Engine.switched_inactiveBank _, Engine.switched_state _, hparked.raises, fun hnone => ?_⟩
      have hfind : (s.line l).entries.find? (fun p => decide (p.state = .parked)) = none := by
        rw [List.find?_eq_none]
        exact fun p hp => by simpa using hnone p hp
      have herase : (s.line l).entries.eraseP (fun p => decide (p.state = .parked)) = (s.line l).entries :=
        List.eraseP_of_forall_not fun p hp => by simpa using hnone p hp
      refine ⟨herase, ?_, ?_⟩
      · have hcompletes := hparked.completes
        rw [Line.parkedSwitch, hfind] at hcompletes
        exact hcompletes
      · exact List.mem_append_left _ (List.mem_append_left _ (List.mem_append_right _ (List.mem_singleton.mpr rfl)))

end Sys2Proof.Machine
end

section
/-! PROOFS. Cycle starts, overruns, and the ends of slots (R112 to R122). -/

set_option Elab.async false

namespace Sys2Proof.Machine

/-! ## Reaching slots changes the working values of the engine only (R115, R116, R121) -/

/-- The engine with what a cycle changes as it runs: the active bank, the state, the last completed number, the cursor and the stage. -/
def Engine.ran (g : Engine) (b : Bank) (state : EngineState) (last : Word) (cursor : Nat) (stage : SlotStage) : Engine :=
  { g.setBank g.active b with state := state, lastCompleted := last, cursor := cursor, stage := stage }

theorem Engine.ran_ran (g : Engine) (b b' : Bank) (state state' : EngineState) (last last' : Word) (cursor cursor' : Nat) (stage stage' : SlotStage) :
    (g.ran b state last cursor stage).ran b' state' last' cursor' stage' = g.ran b' state' last' cursor' stage' := by
  obtain ⟨st, active, b0, b1⟩ := g
  cases active <;> rfl

/-- From `x` to `y` only what a cycle changes as it runs has changed. -/
def Line.RunsOn (x y : Line) : Prop := ∃ b state last cursor stage, y = { x with engine := x.engine.ran b state last cursor stage }

theorem Line.RunsOn.of_engine (x : Line) (state : EngineState) (last : Word) (cursor : Nat) (stage : SlotStage) :
    x.RunsOn { x with engine := { x.engine with state := state, lastCompleted := last, cursor := cursor, stage := stage } } :=
  ⟨x.engine.activeBank, state, last, cursor, stage, by rw [Engine.ran, Engine.setBank_activeBank]⟩

theorem Line.RunsOn.of_bank (x : Line) (b : Bank) (cursor : Nat) (stage : SlotStage) :
    x.RunsOn { x with engine := { x.engine.setBank x.engine.active b with cursor := cursor, stage := stage } } :=
  ⟨b, x.engine.state, x.engine.lastCompleted, cursor, stage, by cases h : x.engine.active <;> simp only [Engine.ran, h] <;> rfl⟩

theorem Line.RunsOn.trans {x y z : Line} (h : x.RunsOn y) (k : y.RunsOn z) : x.RunsOn z := by
  obtain ⟨b, state, last, cursor, stage, rfl⟩ := h
  obtain ⟨b', state', last', cursor', stage', rfl⟩ := k
  exact ⟨b', state', last', cursor', stage', by rw [Engine.ran_ran]⟩

theorem issueRead_part (l : LineId) (reader : Reader) (a : Addr) (n : Nat) (s : State) :
    State.Part l s (s.issueRead reader a n) (s.line l) [] [] [] :=
  ⟨.of_touches (s.issueRead_touches l reader a n) rfl (by rw [State.issueRead_line]), s.issueRead_line reader a n l, s.issueRead_wrote reader a n⟩

section
variable {l : LineId} {s t : State} {y : Line} {es : List Event} {cs : List Completion} {ws : List PortOp} (h : State.Part l s t y es cs ws)
include h

theorem State.Part.passSlot : State.Part l s (passSlot l t) { y with engine := { y.engine with cursor := y.engine.cursor + 1, stage := .idle } } es cs ws :=
  h.updEngine _

theorem State.Part.endCycle :
    State.Part l s (endCycle l t) { y with engine := { y.engine with lastCompleted := y.engine.cycle, state := .waiting } } es cs
      (ws ++ [s.cycleRecordWrite l { y.engine with lastCompleted := y.engine.cycle, state := .waiting }]) :=
  (h.updEngine _).writeCycleRecord

theorem State.Part.prepareSlot (c : SlotCell) : ∃ stage,
    State.Part l s (prepareSlot l c t) { y with engine := { y.engine with stage := stage } } es cs ws := by
  unfold Machine.prepareSlot
  dsimp only
  split
  · exact ⟨_, h.updEngine _⟩
  · have hread := (h.updEngine (fun e => { e with stage := .outputRead t.nextRead })).trans (issueRead_part l (.slotOutput l)
      (addrPlus (t.line l).engine.activeBank.imageBase c.slot.outOffset) c.slot.outLength _)
    rw [State.Part.line (h.updEngine _), List.append_nil, List.append_nil, List.append_nil] at hread
    exact ⟨_, hread⟩

/-- Reaching the slots of a list raises nothing and completes nothing (R115). -/
theorem State.Part.reachSlots (ns : List Nat) : ∃ z vs, State.Part l s (reachSlots l ns t) z es cs (ws ++ vs) ∧ y.RunsOn z := by
  induction ns generalizing t y ws with
  | nil => exact ⟨_, _, h.endCycle, .of_engine y _ _ _ _⟩
  | cons n rest ih =>
    unfold Machine.reachSlots
    split
    · obtain ⟨z, vs, hpart, hruns⟩ := ih h.passSlot
      exact ⟨z, vs, hpart, (Line.RunsOn.of_engine y _ _ _ _).trans hruns⟩
    · next c hcell =>
      split
      · next result hjudge =>
        obtain ⟨z, vs, hpart, hruns⟩ := ih (h.recordSlots result (List.nodup_singleton n)).passSlot
        rw [List.append_assoc] at hpart
        exact ⟨z, _, hpart, .trans (.of_bank y _ _ _) hruns⟩
      · obtain ⟨stage, hpart⟩ := h.prepareSlot c
        exact ⟨_, [], by rwa [List.append_nil], .of_engine y _ _ _ _⟩

end

/-! ## A start is taken (R112 to R114, R121, R124) -/

/-- The engine as a new cycle has its due list (R113, R114). -/
def Engine.begun (g : Engine) (due : List Nat) : Engine :=
  { g with cycle := g.cycle + 1, pendingStart := false, startLate := false, due := due, cursor := 1
           state := if due = [] then g.state else .inCycle }

/-- What follows the overrun of a start: the switch, the number, the due list, the state and the record, and the first due slot. -/
def finishStart (l : LineId) (cycle : Word) (s : State) : State :=
  let s := switchIfCommitted l s
  let due := dueSlots (cycle + 1) 1 (s.line l).engine.activeBank.slots
  let s := updEngine l (fun e => { e with cycle := e.cycle + 1, pendingStart := false, startLate := false, due := due, cursor := 1 }) s
  if due = [] then endCycle l s
  else reachSlots l due (writeCycleRecord l (updEngine l (fun e => { e with state := .inCycle }) s))

theorem finishStart_part {l : LineId} {s v : State} {y : Line} {es : List Event} {cs : List Completion} {ws : List PortOp}
    (h : State.Part l s v y es cs ws) (cycle : Word) {due : List Nat} (hdue : dueSlots (cycle + 1) 1 y.switchedIf.engine.activeBank.slots = due) :
    ∃ u, (if due = [] then finishStart l cycle v = endCycle l u else finishStart l cycle v = reachSlots l due u) ∧
      State.Part l s u { y.switchedIf with engine := y.switchedIf.engine.begun due } (es ++ y.engine.switchEvents l)
        (cs ++ y.doneOk y.parkedIf) (ws ++ (if y.engine.inactiveBank.state = .committed then v.switchWrites l else []) ++
          if due = [] then [] else [s.cycleRecordWrite l (y.switchedIf.engine.begun due)]) := by
  have hswitched := h.switchIfCommitted
  have hline := hswitched.line
  let numbered := fun e : Engine => { e with cycle := e.cycle + 1, pendingStart := false, startLate := false, due := due, cursor := 1 }
  have hnumbered := hswitched.updEngine numbered
  by_cases hempty : due = []
  · refine ⟨updEngine l numbered (switchIfCommitted l v), ?_, ?_⟩
    rotate_left
    · rw [if_pos hempty, List.append_nil, Engine.begun, if_pos hempty]
      exact hnumbered
    · rw [if_pos hempty, finishStart]
      rw [hline, hdue, if_pos hempty]
  · refine ⟨writeCycleRecord l (updEngine l (fun e => { e with state := .inCycle }) (updEngine l numbered (switchIfCommitted l v))), ?_, ?_⟩
    rotate_left
    · rw [if_neg hempty, Engine.begun, if_neg hempty]
      exact (hnumbered.updEngine (fun e => { e with state := .inCycle })).writeCycleRecord
    · rw [if_neg hempty, finishStart]
      rw [hline, hdue, if_neg hempty]

/-- The engine as a start is taken: a late start is counted (R112). -/
def Engine.taken (g : Engine) : Engine :=
  { g with lateStarts := if g.startLate then g.lateStarts + 1 else g.lateStarts, stage := .idle }

theorem takeStart_of_waiting {l : LineId} {s : State} (h : (s.line l).engine.state ≠ .inCycle) :
    takeStart l s = finishStart l (s.line l).engine.cycle (updEngine l Engine.taken s) := by
  unfold takeStart finishStart
  dsimp only
  rw [if_neg h]
  rfl

theorem takeStart_of_inCycle {l : LineId} {s : State} (h : (s.line l).engine.state = .inCycle) :
    takeStart l s = finishStart l (s.line l).engine.cycle
      (raiseEvent (.cycleOverrun l ((s.line l).engine.cycle + 1) (s.line l).engine.remaining.length)
        (updEngine l (fun e => { e with overruns := e.overruns + 1 })
          (recordSlots l .skippedOverrun (s.line l).engine.remaining (updEngine l Engine.taken s)))) := by
  unfold takeStart finishStart
  dsimp only
  rw [if_pos h]
  rfl

/-! ## The cases of O54 -/

theorem Engine.eq_of_ran {g : Engine} (b : Bank) (state : EngineState) (last : Word) (cursor : Nat) (stage : SlotStage) :
    g = { g.ran b state last cursor stage with
      state := g.state, bank0 := g.bank0, bank1 := g.bank1, lastCompleted := g.lastCompleted, cursor := g.cursor, stage := g.stage } := by
  obtain ⟨st, active, b0, b1⟩ := g
  cases active <;> rfl

@[simp] theorem Engine.ran_active (g : Engine) (b : Bank) (st : EngineState) (w : Word) (k : Nat) (sg : SlotStage) :
    (g.ran b st w k sg).active = g.active := Engine.setBank_active _ _ _
@[simp] theorem Engine.ran_cycle (g : Engine) (b : Bank) (st : EngineState) (w : Word) (k : Nat) (sg : SlotStage) :
    (g.ran b st w k sg).cycle = g.cycle := Engine.setBank_cycle _ _ _
@[simp] theorem Engine.ran_pendingStart (g : Engine) (b : Bank) (st : EngineState) (w : Word) (k : Nat) (sg : SlotStage) :
    (g.ran b st w k sg).pendingStart = g.pendingStart := Engine.setBank_pendingStart _ _ _
@[simp] theorem Engine.ran_due (g : Engine) (b : Bank) (st : EngineState) (w : Word) (k : Nat) (sg : SlotStage) :
    (g.ran b st w k sg).due = g.due := Engine.setBank_due _ _ _
@[simp] theorem Engine.ran_lateStarts (g : Engine) (b : Bank) (st : EngineState) (w : Word) (k : Nat) (sg : SlotStage) :
    (g.ran b st w k sg).lateStarts = g.lateStarts := Engine.setBank_lateStarts _ _ _
@[simp] theorem Engine.ran_overruns (g : Engine) (b : Bank) (st : EngineState) (w : Word) (k : Nat) (sg : SlotStage) :
    (g.ran b st w k sg).overruns = g.overruns := Engine.setBank_overruns _ _ _
@[simp] theorem Engine.ran_source (g : Engine) (b : Bank) (st : EngineState) (w : Word) (k : Nat) (sg : SlotStage) :
    (g.ran b st w k sg).source = g.source := Engine.setBank_source _ _ _
theorem Engine.ran_bank_other (g : Engine) (b : Bank) (st : EngineState) (w : Word) (k : Nat) (sg : SlotStage) :
    (g.ran b st w k sg).bank g.active.other = g.bank g.active.other := Engine.bank_setBank_other _ _ _

/-- The cycle record holds the counts, the number of the active bank and the state, and nothing else (R121). -/
theorem Engine.cycleRecord_congr {g h : Engine} (hcycle : h.cycle = g.cycle) (hlast : h.lastCompleted = g.lastCompleted)
    (hoverruns : h.overruns = g.overruns) (hmerged : h.mergedStarts = g.mergedStarts) (hlate : h.lateStarts = g.lateStarts)
    (hactive : h.active = g.active) (hstate : h.state = g.state) : h.cycleRecord = g.cycleRecord := by
  simp only [Engine.cycleRecord, hcycle, hlast, hoverruns, hmerged, hlate, hactive, hstate]

theorem exec_lineGrant_start {l : LineId} {s : State} (hrun : s.run = .running) (hstate : (s.line l).state = .active)
    (hjob : (s.line l).job = none) (hpending : (s.line l).engine.pendingStart = true) : exec (.lineGrant l) s = .next (takeStart l s) :=
  exec_lineGrant hrun hstate hjob ((s.line l).choose_spec.1 hpending)

theorem reachSlots_nil (l : LineId) (s : State) :
    reachSlots l [] s = (s.updLine l (fun y => { y with engine :=
      { (s.line l).engine with lastCompleted := (s.line l).engine.cycle, state := .waiting } })).issue (.write (s.context.indexPage +
        BitVec.ofNat 64 (cycleRecordOffset l)) { (s.line l).engine with lastCompleted := (s.line l).engine.cycle, state := .waiting }.cycleRecord) := by
  have hline : updEngine l (fun e => { e with lastCompleted := e.cycle, state := .waiting }) s = s.updLine l (fun y => { y with engine :=
      { (s.line l).engine with lastCompleted := (s.line l).engine.cycle, state := .waiting } }) := State.updLine_congr rfl
  rw [reachSlots, endCycle, hline, writeCycleRecord, State.indexWrite, State.updLine_line_same, State.updLine_context]
  rfl

/-- A slot that is skipped is recorded, and the engine reaches on (R115). -/
theorem reachSlots_of_skipped {l : LineId} {n : Nat} {more : List Nat} {c : SlotCell} {s : State} {result : SlotResult}
    (hcell : (s.line l).engine.activeBank.cell n = some c) (hjudge : (s.line l).judgeSlot c.slot = some result) :
    reachSlots l (n :: more) s = reachSlots l more (passSlot l (recordSlot l result none s n)) := by
  rw [reachSlots, hcell]
  dsimp only
  rw [hjudge]

/-- A slot that runs is prepared (R115, R116). -/
theorem reachSlots_of_runs {l : LineId} {n : Nat} {more : List Nat} {c : SlotCell} {s : State}
    (hcell : (s.line l).engine.activeBank.cell n = some c) (hjudge : (s.line l).judgeSlot c.slot = none) :
    reachSlots l (n :: more) s = prepareSlot l c s := by
  rw [reachSlots, hcell]
  dsimp only
  rw [hjudge]

/-- A taken start, from its switch on: what the state of the first due slot is. -/
theorem takeStart_of_part {l : LineId} {s v : State} {y : Line} {es : List Event} {ws : List PortOp} (h : State.Part l s v y es [] ws)
    (htake : takeStart l s = finishStart l (s.line l).engine.cycle v) {due : List Nat}
    (hdue : dueSlots ((s.line l).engine.cycle + 1) 1 y.switchedIf.engine.activeBank.slots = due) :
    ∃ u, (if due = [] then takeStart l s = endCycle l u else takeStart l s = reachSlots l due u) ∧
      State.Part l s u { y.switchedIf with engine := y.switchedIf.engine.begun due } (es ++ y.engine.switchEvents l) (y.doneOk y.parkedIf)
        (ws ++ (if y.engine.inactiveBank.state = .committed then v.switchWrites l else []) ++
          if due = [] then [] else [s.cycleRecordWrite l (y.switchedIf.engine.begun due)]) ∧
      ∃ b state last cursor stage vs, State.Part l s (takeStart l s)
        { y.switchedIf with engine := (y.switchedIf.engine.begun due).ran b state last cursor stage } (es ++ y.engine.switchEvents l)
        (y.doneOk y.parkedIf) (ws ++ (if y.engine.inactiveBank.state = .committed then v.switchWrites l else []) ++
          (if due = [] then [] else [s.cycleRecordWrite l (y.switchedIf.engine.begun due)]) ++ vs) := by
  obtain ⟨u, hcont, hpart⟩ := finishStart_part h (s.line l).engine.cycle hdue
  rw [← htake] at hcont
  have hreach : takeStart l s = reachSlots l due u := by
    by_cases hempty : due = []
    · rw [if_pos hempty] at hcont
      rw [hempty]
      exact hcont
    · rwa [if_neg hempty] at hcont
  obtain ⟨z, vs, htaken, b, state, last, cursor, stage, rfl⟩ := hpart.reachSlots due
  rw [← hreach] at htaken
  exact ⟨u, hcont, hpart, b, state, last, cursor, stage, vs, htaken⟩

/-- The line of a taken start, before its switch (R112). -/
def Line.taken (x : Line) : Line := { x with engine := x.engine.taken }

/-- Settles O54: the parts of a taken start one behind the other; the due list by its recursion; reaching by the judgement of the slot. -/
theorem cycleStartIsTaken : Obligations.CycleStartIsTaken := by
  refine ⟨fun l s hrun hstate hjob hpending hwaiting => ?_, fun cycle cells => ⟨fun n => mem_dueSlots, dueSlots_pairwise cycle 1 cells⟩,
    fun l n more c s => ⟨reachSlots_nil l s, fun hcell hn => ?_⟩⟩
  · intro e switched bank due
    have hbegin : State.Part l s (updEngine l Engine.taken s) (s.line l).taken [] [] [] := updEngine_part l Engine.taken s
    obtain ⟨hsstate, hscycle, hsstage, hslast, hsover, hslate, hssource, hsactive, hsslots⟩ := (s.line l).taken.switchedIf_engine
    have hdue : dueSlots (e.cycle + 1) 1 (s.line l).taken.switchedIf.engine.activeBank.slots = due := by
      rw [hsslots]
      rfl
    obtain ⟨u, hcont, hpart, b, state, last, cursor, stage, vs, htaken⟩ :=
      takeStart_of_part hbegin (takeStart_of_waiting (by rw [hwaiting]; decide)) hdue
    have huengine : (u.line l).engine = (s.line l).taken.switchedIf.engine.begun due := by rw [hpart.line]
    have hengine : ((takeStart l s).line l).engine = ((s.line l).taken.switchedIf.engine.begun due).ran b state last cursor stage := by
      rw [htaken.line]
    have hubegun : (s.line l).taken.switchedIf.engine.begun due =
        { ((s.line l).taken.switchedIf.engine.begun due).ran b state last cursor stage with
          state := if due = [] then .waiting else .inCycle, bank0 := ((s.line l).taken.switchedIf.engine.begun due).bank0
          bank1 := ((s.line l).taken.switchedIf.engine.begun due).bank1, lastCompleted := e.lastCompleted, cursor := 1, stage := .idle } := by
      refine (Engine.eq_of_ran b state last cursor stage).trans ?_
      rw [show ((s.line l).taken.switchedIf.engine.begun due).state = if due = [] then .waiting else .inCycle by
          rw [← hwaiting, ← show (s.line l).taken.switchedIf.engine.state = (s.line l).engine.state from hsstate]; rfl,
        show ((s.line l).taken.switchedIf.engine.begun due).lastCompleted = e.lastCompleted from hslast,
        show ((s.line l).taken.switchedIf.engine.begun due).stage = .idle from hsstage]
      rfl
    refine ⟨takeStart l s, exec_lineGrant_start hrun hstate hjob hpending, ?_⟩
    dsimp only
    rw [hengine]
    refine ⟨?_, ?_, ?_, ?_, ?_, ?_, ?_, fun hempty => ?_, ?_, fun hno => ?_, ?_, ⟨u, hcont, ?_, ?_, ?_⟩, ?_, ?_, ?_⟩
    · exact (Engine.ran_cycle ..).trans (congrArg (· + 1) hscycle)
    · exact Engine.ran_pendingStart ..
    · exact Engine.ran_due ..
    · exact (Engine.ran_active ..).trans hsactive
    · exact (Engine.ran_lateStarts ..).trans hslate
    · exact (Engine.ran_overruns ..).trans hsover
    · exact (Engine.ran_source ..).trans hssource
    · rw [if_pos hempty] at hcont
      rw [← hengine, hcont, hpart.endCycle.line]
      exact ⟨rfl, congrArg (· + 1) hscycle⟩
    · rw [htaken.line]
      exact congrArg Line.entries (s.line l).taken.switchedIf_fields
    · have hnone : (s.line l).taken.engine.switchEvents l = [] := if_neg hno
      have hevents := htaken.raises.1
      rw [hnone] at hevents
      exact hevents
    · exact htaken.raises
    · rw [huengine]
      exact hubegun
    · rw [huengine]
      exact hsslots
    · rw [hpart.newWrites, huengine, hbegin.switchWrites, hbegin.newWrites_first]
      refine congrArg (· ++ _) (if_congr Iff.rfl ?_ rfl)
      have hrecord : s.cycleRecordWrite l (s.line l).taken.engine.switched = .write (s.context.indexPage + BitVec.ofNat 64 (cycleRecordOffset l))
          { e with lateStarts := (((s.line l).taken.switchedIf.engine.begun due).ran b state last cursor stage).lateStarts
                   active := e.active.other }.cycleRecord := by
        have hlate := (Engine.ran_lateStarts ((s.line l).taken.switchedIf.engine.begun due) b state last cursor stage).trans hslate
        refine congrArg (PortOp.write _) (Engine.cycleRecord_congr ?_ ?_ ?_ ?_ ((Engine.switched_lateStarts _).trans hlate.symm) rfl ?_)
        all_goals simp [Line.taken, Engine.taken, e]
      rw [hrecord]
      rfl
    · rw [htaken.line]
      exact (s.line l).taken.switchedIf_lastGrantee
    · rw [htaken.line]
      exact (s.line l).taken.switchedIf_stations
    · rw [htaken.line]
      exact (s.line l).taken.switchedIf_job.trans hjob
  · have hcell' : (s.line l).engine.activeBank.cell n = some c := by rwa [Bank.cell, if_neg (by omega)]
    obtain ⟨hdisabled, hoffline, hpass⟩ := (s.line l).judgeSlot_eq c.slot
    have hskip {result : SlotResult} (hjudge : (s.line l).judgeSlot c.slot = some result) := reachSlots_of_skipped (more := more) hcell' hjudge
    have hruns (hjudge : (s.line l).judgeSlot c.slot = none) := reachSlots_of_runs (more := more) hcell' hjudge
    refine ⟨fun ha hdis => hskip (hdisabled ha hdis), fun hnot hen => hskip (hoffline hnot hen), fun hr hlen => ?_, fun hr hlen => ?_⟩
    · rw [hruns (hpass hr), prepareSlot]
      exact if_pos hlen
    · rw [hruns (hpass hr), prepareSlot]
      exact if_neg hlen

end Sys2Proof.Machine
end

section
/-! PROOFS. Overruns and the ends of slots (R113, R117, R119 to R122). -/

set_option Elab.async false

namespace Sys2Proof.Machine

/-! ## An overrun (R113, R122) -/

/-- The line of a start that overruns its cycle, before its switch (R122). -/
def Line.overrun (x : Line) : Line :=
  { x with engine := { x.engine.taken.ended .skippedOverrun x.engine.remaining with overruns := (x.engine.taken.ended .skippedOverrun x.engine.remaining).overruns + 1 } }

/-- The state of a start that overruns its cycle, before its switch. -/
def overrunState (l : LineId) (s : State) : State :=
  raiseEvent (.cycleOverrun l ((s.line l).engine.cycle + 1) (s.line l).engine.remaining.length)
    (updEngine l (fun e => { e with overruns := e.overruns + 1 })
      (recordSlots l .skippedOverrun (s.line l).engine.remaining (updEngine l Engine.taken s)))

theorem overrunState_part {l : LineId} {s : State} (h : (s.line l).engine.remaining.Nodup) :
    State.Part l s (overrunState l s) (s.line l).overrun [.cycleOverrun l ((s.line l).engine.cycle + 1) (s.line l).engine.remaining.length] []
      ((s.line l).engine.activeBank.statusWrites (s.line l).engine.cycle .skippedOverrun (s.line l).engine.remaining ++
        s.newWrites (raiseEvent (.cycleOverrun l ((s.line l).engine.cycle + 1) (s.line l).engine.remaining.length) s)) := by
  have hrecorded := ((updEngine_part l Engine.taken s).recordSlots .skippedOverrun h).updEngine (fun e => { e with overruns := e.overruns + 1 })
  have hpart := hrecorded.raiseEvent (.cycleOverrun l ((s.line l).engine.cycle + 1) (s.line l).engine.remaining.length)
  rw [hrecorded.newWrites_first] at hpart
  exact hpart

theorem Line.overrun_engine (x : Line) :
    x.overrun.engine.active = x.engine.active ∧ x.overrun.engine.cycle = x.engine.cycle ∧ x.overrun.engine.overruns = x.engine.overruns + 1 ∧
      x.overrun.engine.lastCompleted = x.engine.lastCompleted ∧ x.overrun.engine.mergedStarts = x.engine.mergedStarts ∧
      x.overrun.engine.lateStarts = x.engine.taken.lateStarts ∧ x.overrun.engine.state = x.engine.state ∧
      x.overrun.engine.inactiveBank = x.engine.inactiveBank ∧
      x.overrun.engine.activeBank = x.engine.activeBank.ended x.engine.cycle .skippedOverrun x.engine.remaining := by
  refine ⟨?_, ?_, ?_, ?_, ?_, ?_, ?_, Engine.inactiveBank_setBank_active x.engine.taken _, Engine.activeBank_setBank_active x.engine.taken _⟩
  all_goals simp [Line.overrun, Engine.ended, Engine.taken]

theorem Bank.ended_slots {b : Bank} {n : Nat} {c : SlotCell} (hn : 1 ≤ n) (hget : b.slots[n - 1]? = some c) (cycle : Word) (r : SlotResult)
    (ns : List Nat) :
    (b.ended cycle r ns).slots[n - 1]? = some (if n ∈ ns then { c with status := c.status.after cycle r none } else c) := by
  refine List.getElem?_mapIdx.trans ?_
  rw [hget, Option.map_some, Nat.sub_add_cancel hn]

theorem recordPollOk_of_cell {l : LineId} {n : Nat} {payload : List Byte} {s : State} {c : SlotCell}
    (h : (s.line l).engine.activeBank.cell n = some c) :
    recordPollOk l n payload s = recordSlot l .ok (some (min payload.length c.slot.inLength))
      (if min payload.length c.slot.inLength = 0 then s
        else s.hostWrite ((s.line l).engine.activeBank.nextHalf c) (payload.take (min payload.length c.slot.inLength))) n := by
  unfold recordPollOk
  dsimp only
  rw [h]

theorem recordPollOk_engine (l : LineId) (n : Nat) (payload : List Byte) (s : State) :
    ∃ b, ((recordPollOk l n payload s).line l).engine = (s.line l).engine.setBank (s.line l).engine.active b := by
  cases hcell : (s.line l).engine.activeBank.cell n with
  | none =>
    refine ⟨(s.line l).engine.activeBank, ?_⟩
    unfold recordPollOk
    dsimp only
    rw [hcell, Engine.setBank_activeBank]
  | some c =>
    rw [recordPollOk_of_cell hcell]
    split
    · exact recordSlot_engine l _ _ s n
    · have h := recordSlot_engine l .ok (some (min payload.length c.slot.inLength))
        (s.hostWrite ((s.line l).engine.activeBank.nextHalf c) (payload.take (min payload.length c.slot.inLength))) n
      rwa [State.hostWrite_line] at h

theorem pollOutcome_of_success {l : LineId} {n : Nat} {more : List Nat} {attn : Bool} {function : Byte} {payload : List Byte} {s : State}
    (h : (s.line l).engine.remaining = n :: more) :
    pollOutcome l (.success attn function payload) s = afterSlot l (passSlot l (recordPollOk l n payload s)) := by
  unfold pollOutcome
  rw [h]

/-- How the engine goes on once the slot at the cursor has been recorded in `v` (R111, R115, R121, R125). -/
theorem afterSlot_goesOn {l : LineId} {s v : State} {n : Nat} {more : List Nat} (hremaining : (s.line l).engine.remaining = n :: more)
    (hcursor : 1 ≤ (s.line l).engine.cursor) (hv : ∃ b, (v.line l).engine = (s.line l).engine.setBank (s.line l).engine.active b) :
    ((s.line l).engine.stopRequested = true → (passSlot l v).BecomesStopped (afterSlot l (passSlot l v)) l []) ∧
      ((s.line l).engine.stopRequested = false → more = [] → afterSlot l (passSlot l v) = reachSlots l [] (passSlot l v)) ∧
      ((s.line l).engine.stopRequested = false → more ≠ [] → (s.line l).engine.pendingStart = true → afterSlot l (passSlot l v) = passSlot l v) ∧
      ((s.line l).engine.stopRequested = false → more ≠ [] → (s.line l).engine.pendingStart = false →
        afterSlot l (passSlot l v) = reachSlots l more (passSlot l v)) := by
  obtain ⟨b, hv⟩ := hv
  have hengine : ((passSlot l v).line l).engine =
      { (s.line l).engine.setBank (s.line l).engine.active b with
        cursor := ((s.line l).engine.setBank (s.line l).engine.active b).cursor + 1, stage := .idle } := by
    rw [passSlot, updEngine_line, hv]
  have hrequested : ((passSlot l v).line l).engine.stopRequested = (s.line l).engine.stopRequested := by simp [hengine]
  have hpending : ((passSlot l v).line l).engine.pendingStart = (s.line l).engine.pendingStart := by simp [hengine]
  have hmore : ((passSlot l v).line l).engine.remaining = more := by
    rw [hengine, Engine.remaining]
    simp only [Engine.setBank_due, Engine.setBank_cursor]
    rw [Engine.remaining] at hremaining
    have htail := congrArg List.tail hremaining
    rwa [List.tail_drop, show (s.line l).engine.cursor - 1 + 1 = (s.line l).engine.cursor + 1 - 1 by omega] at htail
  unfold afterSlot
  dsimp only
  rw [hrequested, hpending, hmore]
  refine ⟨fun h => ?_, fun h hnil => ?_, fun h hne hp => ?_, fun h hne hp => ?_⟩
  · rw [if_pos h]
    exact (State.Part.refl l _).becomesStopped ⟨rfl, rfl, rfl, rfl, rfl, rfl⟩
  · rw [if_neg (by simp [h]), if_pos hnil]
    rfl
  · rw [if_neg (by simp [h]), if_neg hne, if_pos hp]
  · rw [if_neg (by simp [h]), if_neg hne, if_neg (by simp [hp])]

/-- Settles O55: an overrun by its parts, a record by the cell of its slot, the end of a slot by what follows it, the layouts by their fields. -/
theorem overrunsAndSlotEndsWriteStatuses : Obligations.OverrunsAndSlotEndsWriteStatuses := by
  refine ⟨fun l s hrun hstate hjob hpending hcycling hdueOk => ?_, fun l n c result payload s hn => ?_,
    fun l n more attn function payload s => ?_, Engine.cycleRecord_fields, SlotStatus.fields, rfl, rfl, rfl⟩
  · intro e switched bank due
    have hover := overrunState_part (Engine.nodup_remaining hdueOk)
    obtain ⟨hactive, hcycle, hoverruns, hlast, hmerged, hlate, hostate, hinactive, hbank⟩ := (s.line l).overrun_engine
    obtain ⟨hsstate, hscycle, hsstage, hslast, hsover, hslate, hssource, hsactive, hsslots⟩ := (s.line l).overrun.switchedIf_engine
    rw [hinactive] at hsactive hsslots
    rw [hbank] at hsslots
    rw [hactive] at hsactive
    have hdue : dueSlots (e.cycle + 1) 1 (s.line l).overrun.switchedIf.engine.activeBank.slots = due := by
      rw [hsslots]
    obtain ⟨u, hcont, hpart, b, state, last, cursor, stage, vs, htaken⟩ := takeStart_of_part hover (takeStart_of_inCycle hcycling) hdue
    have hevents : (s.line l).overrun.engine.switchEvents l = if switched then [.scheduleSwitched l e.cycle e.active.other] else [] := by
      rw [Engine.switchEvents, hinactive, hcycle, hactive]
    rw [hevents] at hpart htaken
    have huengine : (u.line l).engine = (s.line l).overrun.switchedIf.engine.begun due := by rw [hpart.line]
    refine ⟨takeStart l s, exec_lineGrant_start hrun hstate hjob hpending, ?_⟩
    rw [htaken.line, htaken.newWrites]
    refine ⟨?_, ?_, ?_, ?_, htaken.raises, ?_, fun hswitched => ?_, ⟨u, hcont, ?_, ?_, ?_, ?_, ?_, ?_⟩, fun n c hn hget => ?_⟩
    · exact (Engine.ran_overruns ..).trans (hsover.trans hoverruns)
    · exact (Engine.ran_cycle ..).trans (congrArg (· + 1) (hscycle.trans hcycle))
    · exact (Engine.ran_active ..).trans hsactive
    · exact Engine.ran_due ..
    · rw [List.append_assoc, List.append_assoc, List.append_assoc]
      exact List.prefix_append _ _
    · have hold : (((s.line l).overrun.switchedIf.engine.begun due).ran b state last cursor stage).bank e.active =
          (s.line l).overrun.engine.switched.bank (s.line l).overrun.engine.active := by
        have hother := Engine.ran_bank_other ((s.line l).overrun.switchedIf.engine.begun due) b state last cursor stage
        have hswitch : (s.line l).overrun.switchedIf = (s.line l).overrun.switched :=
          if_pos (by rw [hinactive]; exact hswitched)
        rw [show ((s.line l).overrun.switchedIf.engine.begun due).active = e.active.other from hsactive.trans (if_pos hswitched),
          BankId.other_other] at hother
        rw [hother, hswitch, hactive]
        rfl
      rw [hold, Engine.switched_bank_old, hbank]
      exact ⟨rfl, rfl⟩
    · rw [huengine]
      exact hsslots
    · rw [huengine]
      exact congrArg (· + 1) (hscycle.trans hcycle)
    · rw [huengine]
      exact hslast.trans hlast
    · rw [huengine]
      exact hslate.trans hlate
    · rw [hpart.line]
      have hentries := congrArg Line.entries (s.line l).overrun.switchedIf_fields
      rw [hinactive] at hentries
      exact hentries
    · rw [hpart.newWrites, huengine]
      refine congrArg (· ++ _) ?_
      by_cases hswitched : switched
      · rw [if_pos (show (s.line l).overrun.engine.inactiveBank.state = .committed by rw [hinactive]; exact hswitched), if_pos hswitched, if_pos hswitched,
          hover.switchWrites, hcycle, hactive]
        have hraise := hover.newWrites_raiseEvent (.scheduleSwitched l e.cycle e.active.other)
        have hrecord : s.cycleRecordWrite l (s.line l).overrun.engine.switched = .write (s.context.indexPage + BitVec.ofNat 64 (cycleRecordOffset l))
            { e with lateStarts := ((s.line l).overrun.switchedIf.engine.begun due).lateStarts, overruns := e.overruns + 1
                     active := e.active.other }.cycleRecord := by
          refine congrArg (PortOp.write _) (Engine.cycleRecord_congr ?_ ?_ ?_ ?_ ?_ ?_ ?_)
          · exact (Engine.switched_cycle _).trans hcycle
          · exact (Engine.switched_lastCompleted _).trans hlast
          · exact (Engine.switched_overruns _).trans hoverruns
          · exact (Engine.switched_mergedStarts _).trans hmerged
          · exact (Engine.switched_lateStarts _).trans hslate.symm
          · exact congrArg BankId.other hactive
          · exact (Engine.switched_state _).trans hostate
        rw [hrecord]
        refine Eq.trans ?_ (congrArg (fun ws => _ ++ ws ++ _) hraise.symm)
        simp only [List.append_assoc]
        rfl
      · rw [if_neg (show ¬(s.line l).overrun.engine.inactiveBank.state = .committed by rw [hinactive]; exact hswitched), if_neg hswitched,
          if_neg hswitched]
        rfl
    · exact Bank.ended_slots hn hget _ _ _
  · intro e b hget st k written record half
    have hcell : (s.line l).engine.activeBank.cell n = some c := by rwa [Bank.cell, if_neg (by omega)]
    refine ⟨(recordSlot_of_cell hcell).trans (congrArg (State.issue · _) (State.updLine_congr rfl)), rfl, ?_⟩
    rw [recordPollOk_of_cell hcell]
    have hhalf : (s.line l).engine.activeBank.nextHalf c = b.imageBase + BitVec.ofNat 64 (c.slot.inOffset + half * c.slot.inLength) := by
      unfold Bank.nextHalf addrPlus
      by_cases h : c.status.newestHalf = 0 <;> simp [half, st, h, b, e]
    by_cases hk : min payload.length c.slot.inLength = 0
    · rw [if_pos hk, if_pos hk, recordSlot_of_cell hcell, State.issue_port, updEngine_port, List.append_nil]
      rfl
    · have hcell' : ((s.hostWrite ((s.line l).engine.activeBank.nextHalf c) (payload.take (min payload.length c.slot.inLength))).line l).engine.activeBank.cell n
          = some c := by rwa [State.hostWrite_line]
      rw [if_neg hk, if_neg hk, recordSlot_of_cell hcell', State.issue_port, updEngine_port, State.hostWrite_line, State.hostWrite_port, hhalf]
      rfl
  · intro e hremaining hcursor goesOn
    have hgoes {v : State} (hv : ∃ b, (v.line l).engine = e.setBank e.active b) : goesOn v (afterSlot l (passSlot l v)) :=
      afterSlot_goesOn hremaining hcursor hv
    have hends (result : SlotResult) : endSlot l result s = afterSlot l (passSlot l (recordSlot l result none s n)) := by
      rw [endSlot, hremaining]
    refine ⟨fun result => ?_, ?_, fun o result hmem => ?_⟩
    · rw [hends]
      exact hgoes (recordSlot_engine l result none s n)
    · rw [pollOutcome_of_success hremaining]
      exact hgoes (recordPollOk_engine l n payload s)
    · simp only [List.mem_cons, Prod.mk.injEq, List.not_mem_nil, or_false] at hmem
      obtain ⟨rfl, rfl⟩ | ⟨rfl, rfl⟩ | ⟨rfl, rfl⟩ | ⟨rfl, rfl⟩ | ⟨rfl, rfl⟩ | ⟨rfl, rfl⟩ | ⟨rfl, rfl⟩ | ⟨rfl, rfl⟩ | ⟨rfl, rfl⟩ | ⟨rfl, rfl⟩ := hmem
      all_goals rfl

end Sys2Proof.Machine
end

section
/-! PROOFS. Taken records: their checks by kind, the fields of their bodies, and their place (R60, R61, R73, R105). -/

set_option Elab.async false

namespace Sys2Proof.Machine

/-! ## Octets and bits of a record (R183) -/

theorem field_one (d : List Byte) (off : Nat) : field d off 1 = (octetAt d off).toNat := by
  have hhead : d[off]? = (d.drop off).head? := by rw [List.head?_drop]
  rw [field, octetAt, List.getD_eq_getElem?_getD, hhead]
  cases d.drop off with
  | nil => rfl
  | cons b rest => simp [leNat]

/-- A group mask without stray bits is empty exactly when its octet is 0 (R31). -/
theorem groupMask_isEmpty_iff {b : Byte} (h : b.toNat ≤ 15) :
    (⟨b.getLsbD 0, b.getLsbD 1, b.getLsbD 2, b.getLsbD 3⟩ : GroupMask).isEmpty = true ↔ b.toNat = 0 := by
  have hall : ∀ n, n ≤ 15 →
      ((⟨(BitVec.ofNat 8 n).getLsbD 0, (BitVec.ofNat 8 n).getLsbD 1, (BitVec.ofNat 8 n).getLsbD 2, (BitVec.ofNat 8 n).getLsbD 3⟩ : GroupMask).isEmpty =
        true ↔ n = 0) := by decide
  have hb := hall b.toNat h
  rwa [BitVec.ofNat_toNat, BitVec.setWidth_eq] at hb

/-! ## The bodies by kind (R60; spec/11, Request record) -/

section
variable {d : List Byte} {body : Body}

theorem parseExchange_eq_some : parseExchange d = some body ↔
    (1 ≤ field d 4 1 ∧ field d 4 1 ≤ 62 ∧ field d 5 1 ≤ 223 ∧ field d 6 2 ≤ 240) ∧
      body = .exchange (bitAt d 1 0) (bitAt d 1 1) (field d 4 1) (octetAt d 5) (field d 6 2) (addressAt d 16) (field d 8 2) (addressAt d 24) := by
  rw [parseExchange, Option.ite_none_right_eq_some, Option.some.injEq, eq_comm]

theorem parseSend_eq_some : parseSend d = some body ↔
    (field d 4 1 ≤ 62 ∧ field d 5 1 ≤ 223 ∧ field d 6 2 ≤ 240) ∧ body = .send (field d 4 1) (octetAt d 5) (field d 6 2) (addressAt d 16) := by
  rw [parseSend, Option.ite_none_right_eq_some, Option.some.injEq, eq_comm]

theorem stationRangeOk_iff {first last : Nat} : stationRangeOk first last = true ↔ 1 ≤ first ∧ first ≤ last ∧ last ≤ 62 := by
  simp [stationRangeOk, and_assoc]

theorem parseSetAction_isSome {action value : Nat} : (parseSetAction action value).isSome = true ↔
    action = 1 ∨ action = 2 ∨ action = 3 ∨ action = 4 ∧ value ≤ 1 ∨ action = 5 ∧ (value = 0 ∨ 20 ≤ value) := by
  unfold parseSetAction
  split
  · simp
  · simp
  · simp
  · simp [Option.isSome_ite]
  · simp [Option.isSome_ite]
  · next h1 h2 h3 h4 h5 =>
    refine iff_of_false nofun ?_
    rintro (h | h | h | ⟨h, -⟩ | ⟨h, -⟩)
    exacts [h1 h, h2 h, h3 h, h4 h, h5 h]

theorem parseStationSet_eq_some : parseStationSet d = some body ↔
    (1 ≤ field d 12 1 ∧ field d 12 1 ≤ field d 13 1 ∧ field d 13 1 ≤ 62) ∧
      ∃ act, parseSetAction (field d 14 1) (field d 10 2) = some act ∧ body = .stationSet (field d 12 1) (field d 13 1) act := by
  rw [parseStationSet, Option.ite_none_right_eq_some, stationRangeOk_iff, Option.map_eq_some_iff]
  simp only [eq_comm]

theorem parseStationRead_eq_some : parseStationRead d = some body ↔
    ((1 ≤ field d 12 1 ∧ field d 12 1 ≤ field d 13 1 ∧ field d 13 1 ≤ 62) ∧ 16 * (field d 13 1 - field d 12 1 + 1) ≤ field d 8 2) ∧
      body = .stationRead (field d 12 1) (field d 13 1) (bitAt d 1 3) (addressAt d 24) := by
  rw [parseStationRead, Option.ite_none_right_eq_some, stationRangeOk_iff, Option.some.injEq, eq_comm]

theorem parseLineConfig_eq_some : parseLineConfig d = some body ↔
    (field d 12 1 ≤ 15 ∧ (field d 12 1 = 0 ∨ bitAt d 1 2 = true ∨ field d 6 2 = 24) ∧ (field d 8 2 = 0 ∨ 24 ≤ field d 8 2)) ∧
      body = .lineConfig ⟨bitAt d 12 0, bitAt d 12 1, bitAt d 12 2, bitAt d 12 3⟩ (bitAt d 1 2) (addressAt d 16) (field d 8 2) (addressAt d 24) := by
  unfold parseLineConfig
  dsimp only
  by_cases hmask : 16 ≤ field d 12 1
  · rw [if_pos hmask]
    simp only [reduceCtorEq, false_iff, not_and]
    omega
  · have hempty : (⟨bitAt d 12 0, bitAt d 12 1, bitAt d 12 2, bitAt d 12 3⟩ : GroupMask).isEmpty = true ↔ field d 12 1 = 0 := by
      have h := field_one d 12
      rw [h]
      exact groupMask_isEmpty_iff (by omega)
    rw [if_neg hmask]
    by_cases hlen : (!(⟨bitAt d 12 0, bitAt d 12 1, bitAt d 12 2, bitAt d 12 3⟩ : GroupMask).isEmpty && !bitAt d 1 2 && decide (field d 6 2 ≠ 24)) = true
    · rw [if_pos hlen]
      simp only [Bool.and_eq_true, Bool.not_eq_true', decide_eq_true_eq, ← Bool.not_eq_true, hempty] at hlen
      obtain ⟨⟨h0, hdef⟩, h24⟩ := hlen
      simp [h0, hdef, h24]
    · rw [if_neg hlen, Option.ite_none_left_eq_some, Option.some.injEq, eq_comm]
      simp only [Bool.and_eq_true, Bool.not_eq_true', decide_eq_true_eq, ← Bool.not_eq_true, hempty, not_and] at hlen
      refine and_congr_left fun _ => ⟨fun h => ⟨by omega, ?_, by omega⟩, fun h => by omega⟩
      by_contra hcon
      simp only [not_or] at hcon
      exact hlen ⟨hcon.1, hcon.2.1⟩ hcon.2.2

theorem parseScheduleLoad_eq_some : parseScheduleLoad d = some body ↔
    (1 ≤ field d 4 1 ∧ field d 4 1 ≤ 64) ∧ body = .scheduleLoad (field d 4 1) (field d 6 2 + 1) (addressAt d 16) (addressAt d 8) (addressAt d 24) := by
  rw [parseScheduleLoad, Option.ite_none_right_eq_some, Option.some.injEq, eq_comm]

theorem parseStartSource_eq_some {source period : Nat} {src : StartSource} : parseStartSource source period = some src ↔
    (source = 1 ∧ (250 ≤ period ∧ period ≤ 1000000) ∧ src = .timer period) ∨ (source = 2 ∧ src = .sync) ∨ (source = 3 ∧ src = .manual) := by
  unfold parseStartSource
  split
  · rw [Option.ite_none_right_eq_some, Option.some.injEq]
    simp [eq_comm]
  · simp [eq_comm]
  · simp [eq_comm]
  · next h1 h2 h3 =>
    refine iff_of_false nofun ?_
    rintro (⟨h, -⟩ | ⟨h, -⟩ | ⟨h, -⟩)
    exacts [h1 h, h2 h, h3 h]

theorem parseScheduleControl_eq_some : parseScheduleControl d = some body ↔
    (field d 10 1 = 1 ∧ ∃ src, parseStartSource (field d 11 1) (field d 12 4) = some src ∧ body = .scheduleControl (.start src)) ∨
      (field d 10 1 = 2 ∧ body = .scheduleControl .stop) ∨ (field d 10 1 = 3 ∧ body = .scheduleControl .switch) ∨
      (field d 10 1 = 4 ∧ body = .scheduleControl .trigger) := by
  unfold parseScheduleControl
  split
  · next h => simp [h, eq_comm]
  · next h => simp [h, eq_comm]
  · next h => simp [h, eq_comm]
  · next h => simp [h, eq_comm]
  · next h1 h2 h3 h4 =>
    refine iff_of_false nofun ?_
    rintro (⟨h, -⟩ | ⟨h, -⟩ | ⟨h, -⟩ | ⟨h, -⟩)
    exacts [h1 h, h2 h, h3 h, h4 h]

theorem parseAbort_eq_some : parseAbort d = some body ↔
    (field d 12 1 = 1 ∧ body = .abort (.tag (halfAt d 10))) ∨ (field d 12 1 = 2 ∧ field d 10 2 ≤ 62 ∧ body = .abort (.station (field d 10 2))) ∨
      (field d 12 1 = 3 ∧ body = .abort .all) := by
  unfold parseAbort
  split
  · next h => simp [h, eq_comm]
  · next h => simp [h, eq_comm]
  · next h => simp [h, eq_comm]
  · next h1 h2 h3 =>
    refine iff_of_false nofun ?_
    rintro (⟨h, -⟩ | ⟨h, -⟩ | ⟨h, -⟩)
    exacts [h1 h, h2 h, h3 h]

end

/-! ## What a record passes by its kind (R60) -/

section
variable {d : List Byte}

theorem parseBody_exchange (h : field d 0 1 = 1) : parseBody d = parseExchange d := by
  rw [parseBody, h]
  rfl

theorem parseBody_send (h : field d 0 1 = 2) : parseBody d = parseSend d := by
  rw [parseBody, h]
  rfl

theorem parseBody_stationSet (h : field d 0 1 = 3) : parseBody d = parseStationSet d := by
  rw [parseBody, h]
  rfl

theorem parseBody_stationRead (h : field d 0 1 = 4) : parseBody d = parseStationRead d := by
  rw [parseBody, h]
  rfl

theorem parseBody_lineConfig (h : field d 0 1 = 5) : parseBody d = parseLineConfig d := by
  rw [parseBody, h]
  rfl

theorem parseBody_scheduleLoad (h : field d 0 1 = 10) : parseBody d = parseScheduleLoad d := by
  rw [parseBody, h]
  rfl

theorem parseBody_scheduleControl (h : field d 0 1 = 11) : parseBody d = parseScheduleControl d := by
  rw [parseBody, h]
  rfl

theorem parseBody_abort (h : field d 0 1 = 12) : parseBody d = parseAbort d := by
  rw [parseBody, h]
  rfl

theorem parseBody_rest (h : field d 0 1 = 6) : parseBody d = some .rest := by
  rw [parseBody, h]
  rfl

theorem parseBody_wake (h : field d 0 1 = 7) : parseBody d = some .wake := by
  rw [parseBody, h]
  rfl

theorem parseBody_lineRecover (h : field d 0 1 = 8) : parseBody d = some .lineRecover := by
  rw [parseBody, h]
  rfl

theorem parseBody_fence (h : field d 0 1 = 9) : parseBody d = some .fence := by
  rw [parseBody, h]
  rfl

theorem parseExchange_isSome : (parseExchange d).isSome = true ↔ 1 ≤ field d 4 1 ∧ field d 4 1 ≤ 62 ∧ field d 5 1 ≤ 223 ∧ field d 6 2 ≤ 240 := by
  simp [Option.isSome_iff_exists, parseExchange_eq_some]

theorem parseSend_isSome : (parseSend d).isSome = true ↔ field d 4 1 ≤ 62 ∧ field d 5 1 ≤ 223 ∧ field d 6 2 ≤ 240 := by
  simp [Option.isSome_iff_exists, parseSend_eq_some]

theorem parseStationSet_isSome : (parseStationSet d).isSome = true ↔
    (1 ≤ field d 12 1 ∧ field d 12 1 ≤ field d 13 1 ∧ field d 13 1 ≤ 62) ∧ (field d 14 1 = 1 ∨ field d 14 1 = 2 ∨ field d 14 1 = 3 ∨
      field d 14 1 = 4 ∧ field d 10 2 ≤ 1 ∨ field d 14 1 = 5 ∧ (field d 10 2 = 0 ∨ 20 ≤ field d 10 2)) := by
  rw [← parseSetAction_isSome]
  simp [Option.isSome_iff_exists, parseStationSet_eq_some]

theorem parseStationRead_isSome : (parseStationRead d).isSome = true ↔
    (1 ≤ field d 12 1 ∧ field d 12 1 ≤ field d 13 1 ∧ field d 13 1 ≤ 62) ∧ 16 * (field d 13 1 - field d 12 1 + 1) ≤ field d 8 2 := by
  simp only [Option.isSome_iff_exists, parseStationRead_eq_some, exists_and_left, exists_eq, and_true]

theorem parseLineConfig_isSome : (parseLineConfig d).isSome = true ↔
    field d 12 1 ≤ 15 ∧ (field d 12 1 = 0 ∨ bitAt d 1 2 = true ∨ field d 6 2 = 24) ∧ (field d 8 2 = 0 ∨ 24 ≤ field d 8 2) := by
  simp only [Option.isSome_iff_exists, parseLineConfig_eq_some, exists_and_left, exists_eq, and_true]

theorem parseScheduleLoad_isSome : (parseScheduleLoad d).isSome = true ↔ 1 ≤ field d 4 1 ∧ field d 4 1 ≤ 64 := by
  simp only [Option.isSome_iff_exists, parseScheduleLoad_eq_some, exists_and_left, exists_eq, and_true]

theorem parseScheduleControl_isSome : (parseScheduleControl d).isSome = true ↔
    field d 10 1 = 2 ∨ field d 10 1 = 3 ∨ field d 10 1 = 4 ∨
      field d 10 1 = 1 ∧ (field d 11 1 = 1 ∧ 250 ≤ field d 12 4 ∧ field d 12 4 ≤ 1000000 ∨ field d 11 1 = 2 ∨ field d 11 1 = 3) := by
  simp only [Option.isSome_iff_exists, parseScheduleControl_eq_some, parseStartSource_eq_some, exists_or, exists_and_left, exists_eq, and_true,
    or_and_right, and_assoc, exists_eq_left]
  tauto

theorem parseAbort_isSome : (parseAbort d).isSome = true ↔ field d 12 1 = 1 ∨ field d 12 1 = 2 ∧ field d 10 2 ≤ 62 ∨ field d 12 1 = 3 := by
  simp only [Option.isSome_iff_exists, parseAbort_eq_some, exists_or, exists_and_left, exists_eq, and_true]

end

/-! ## The class of a body (R61) -/

/-- Every record that passes is a traffic, barrier or schedule request, or an ABORT. -/
theorem Body.class_cases (body : Body) :
    body.isTraffic = true ∨ body.isBarrier = true ∨ body.isSchedule = true ∨ ∃ sel, body = .abort sel := by
  cases body <;> simp [isTraffic, trafficStation, isBarrier, isSchedule]

theorem Body.not_schedule {body : Body} (h : body.isTraffic = true ∨ body.isBarrier = true) : body.isSchedule = false := by
  cases body <;> simp [isTraffic, trafficStation, isBarrier, isSchedule] at h ⊢

theorem Body.not_abort {body : Body} (h : body.isTraffic = true ∨ body.isBarrier = true ∨ body.isSchedule = true) (sel : AbortSelector) :
    body ≠ .abort sel := by
  rintro rfl
  simp [isTraffic, trafficStation, isBarrier, isSchedule] at h

/-! ## Placing a record (R61, R73) -/

theorem placeEntry_of_schedule {l : LineId} {e : Entry} {s : State} (h : e.body.isSchedule = true) : placeEntry l e s = actSchedule l e s := if_pos h

theorem placeEntry_of_queued {l : LineId} {e : Entry} {s : State} (h : e.body.isTraffic = true ∨ e.body.isBarrier = true) :
    placeEntry l e s = s.updLine l (fun x => { x with entries := x.entries ++ [e] }) :=
  if_neg (by rw [Body.not_schedule h]; decide)

theorem takeRecord_of_body {l : LineId} {i : Half} {d : List Byte} {s : State} {body : Body} (hparse : parseBody d = some body)
    (habort : ∀ sel, body ≠ .abort sel) :
    takeRecord l i d s = if (s.line l).entries.length < 8 then placeEntry l (newEntry d i body) s
      else s.updLine l (fun x => { x with intake := { x.intake with staged := some (newEntry d i body) } }) := by
  rw [takeRecord, hparse]
  cases body
  case abort sel => exact absurd rfl (habort sel)
  all_goals rfl

theorem exec_stagedRecordAppend {l : LineId} {s : State} {e : Entry} (hstaged : (s.line l).intake.staged = some e) (hrun : s.run = .running)
    (hroom : (s.line l).entries.length < 8) : exec (.stagedRecordAppend l) s =
      .next (placeEntry l e (s.updLine l (fun x => { x with intake := { x.intake with staged := none } }))) := by
  change execStagedRecordAppend l s = _
  rw [execStagedRecordAppend, hstaged]
  exact if_pos ⟨hrun, hroom⟩

/-- Settles O33: the place by the class of the body; the checks and the fields by the parser of the kind. -/
theorem takenRecordIsCheckedAndPlaced : Obligations.TakenRecordIsCheckedAndPlaced := by
  refine ⟨fun l i d s => ?_, fun d => ?_, fun d body hparse => ?_⟩
  · intro entry
    refine ⟨fun hnone => ?_, fun body hparse hclass hroom => ?_, fun body hparse habort hfull => ?_, fun sel hparse => ?_,
      fun body hparse hclass hroom => ?_, fun e hstaged hrun hroom => ⟨fun hclass => ?_, fun hclass => ?_⟩, fun body _ => body.class_cases,
      fun e n size table arr base hbody => ⟨fun hbank => ?_, fun hbank => ?_⟩⟩
    · rw [takeRecord, hnone]
      rfl
    · rw [takeRecord_of_body hparse (Body.not_abort (hclass.imp id Or.inl)), if_pos hroom]
      exact placeEntry_of_queued (e := newEntry d i body) hclass
    · rw [takeRecord_of_body hparse habort]
      exact if_neg (Nat.not_lt.mpr hfull)
    · rw [takeRecord, hparse]
      rfl
    · rw [takeRecord_of_body hparse (Body.not_abort (.inr (.inr hclass))), if_pos hroom]
      exact placeEntry_of_schedule (e := newEntry d i body) hclass
    · rw [exec_stagedRecordAppend hstaged hrun hroom, placeEntry_of_queued hclass, State.updLine_updLine]
    · rw [exec_stagedRecordAppend hstaged hrun hroom, placeEntry_of_schedule hclass]
    · have hact : actSchedule l e s = actLoad l e n table s := by rw [actSchedule, hbody]
      rw [hact, actLoad]
      obtain h | h := hbank
      all_goals
        rw [h]
        dsimp only
        rw [appendEntry, updEngine, State.updLine_updLine]
        rfl
    · have hact : actSchedule l e s = actLoad l e n table s := by rw [actSchedule, hbody]
      rw [hact, actLoad]
      obtain h | h := hbank
      all_goals
        rw [h]
        rfl
  · intro passes range
    have hpasses {o : Option Body} (h : parseBody d = o) : passes ↔ o.isSome = true := by rw [← h]
    refine ⟨fun hkind => ?_, fun hkind => ?_, fun hkind => ?_, fun hkind => ?_, fun hkind => ?_, fun hkind => ?_, fun hlow hhigh => ?_, fun hkind => ?_,
      fun hkind => ?_, fun hkind => ?_⟩
    · have hnone : parseBody d = none := by
        unfold parseBody
        split
        any_goals omega
        rfl
      simp [passes, hnone]
    · exact (hpasses (parseBody_exchange hkind)).trans parseExchange_isSome
    · exact (hpasses (parseBody_send hkind)).trans parseSend_isSome
    · exact (hpasses (parseBody_stationSet hkind)).trans parseStationSet_isSome
    · exact (hpasses (parseBody_stationRead hkind)).trans parseStationRead_isSome
    · exact (hpasses (parseBody_lineConfig hkind)).trans parseLineConfig_isSome
    · obtain h | h | h | h : field d 0 1 = 6 ∨ field d 0 1 = 7 ∨ field d 0 1 = 8 ∨ field d 0 1 = 9 := by omega
      all_goals
        change (parseBody d).isSome = true
        simp only [parseBody_rest, parseBody_wake, parseBody_lineRecover, parseBody_fence, h, Option.isSome_some]
    · exact (hpasses (parseBody_scheduleLoad hkind)).trans parseScheduleLoad_isSome
    · exact (hpasses (parseBody_scheduleControl hkind)).trans parseScheduleControl_isSome
    · exact (hpasses (parseBody_abort hkind)).trans parseAbort_isSome
  · intro kind half address bit
    refine ⟨fun hkind => ?_, fun hkind => ?_, fun hkind => ?_, fun hkind => ?_, fun hkind => ?_, fun hkind => ?_, fun hkind => ?_, fun hkind => ?_,
      fun hkind => ?_, fun hkind => ?_, fun hkind => ?_, fun hkind => ?_⟩
    · exact (parseExchange_eq_some.mp (parseBody_exchange hkind ▸ hparse)).2
    · exact (parseSend_eq_some.mp (parseBody_send hkind ▸ hparse)).2
    · obtain ⟨-, act, hact, rfl⟩ := parseStationSet_eq_some.mp (parseBody_stationSet hkind ▸ hparse)
      refine ⟨act, rfl, fun h => ?_, fun h => ?_, fun h => ?_, fun h => ?_, fun h => ?_⟩
      all_goals rw [h, parseSetAction] at hact
      · exact (Option.some.inj hact).symm
      · exact (Option.some.inj hact).symm
      · exact (Option.some.inj hact).symm
      · exact (Option.some.inj (Option.ite_none_right_eq_some.mp hact).2).symm
      · exact (Option.some.inj (Option.ite_none_right_eq_some.mp hact).2).symm
    · exact (parseStationRead_eq_some.mp (parseBody_stationRead hkind ▸ hparse)).2
    · exact (parseLineConfig_eq_some.mp (parseBody_lineConfig hkind ▸ hparse)).2
    · exact (Option.some.inj (parseBody_rest hkind ▸ hparse)).symm
    · exact (Option.some.inj (parseBody_wake hkind ▸ hparse)).symm
    · exact (Option.some.inj (parseBody_lineRecover hkind ▸ hparse)).symm
    · exact (Option.some.inj (parseBody_fence hkind ▸ hparse)).symm
    · exact (parseScheduleLoad_eq_some.mp (parseBody_scheduleLoad hkind ▸ hparse)).2
    · have hcontrol := parseScheduleControl_eq_some.mp (parseBody_scheduleControl hkind ▸ hparse)
      refine ⟨fun h hsrc => ?_, fun h hsrc => ?_, fun h hsrc => ?_, fun h => ?_, fun h => ?_, fun h => ?_⟩
      all_goals simp [parseStartSource_eq_some, *] at hcontrol
      · exact hcontrol.2
      all_goals exact hcontrol
    · have habort := parseAbort_eq_some.mp (parseBody_abort hkind ▸ hparse)
      refine ⟨fun h => ?_, fun h => ?_, fun h => ?_⟩
      all_goals simp [h] at habort
      · exact habort
      · exact habort.2
      · exact habort

end Sys2Proof.Machine
end

section
/-! PROOFS. Values out of range: parameters (R34), and the checks of a start (R172, R173). -/

set_option Elab.async false

namespace Sys2Proof.Machine

/-! ## The first parameter out of range (R34) -/

/-- At place `j` of the three lists a checked value stands outside its range. -/
def OutAt (cs : List Bool) (rs : List (Nat × Nat)) (vs : List Nat) (j : Nat) : Prop :=
  ∃ r v, cs[j]? = some true ∧ rs[j]? = some r ∧ vs[j]? = some v ∧ (v < r.1 ∨ r.2 < v)

theorem outAt_zero {c : Bool} {cs : List Bool} {r : Nat × Nat} {rs : List (Nat × Nat)} {v : Nat} {vs : List Nat} :
    OutAt (c :: cs) (r :: rs) (v :: vs) 0 ↔ (c && !(decide (r.1 ≤ v) && decide (v ≤ r.2))) = true := by
  simp only [OutAt, List.getElem?_cons_zero, Option.some.injEq, Bool.and_eq_true, Bool.not_eq_true', Bool.and_eq_false_iff,
    decide_eq_false_iff_not, Nat.not_le]
  constructor
  · rintro ⟨r', v', rfl, rfl, rfl, h⟩
    exact ⟨rfl, h⟩
  · rintro ⟨rfl, h⟩
    exact ⟨r, v, rfl, rfl, rfl, h⟩

theorem outAt_succ {c : Bool} {cs : List Bool} {r : Nat × Nat} {rs : List (Nat × Nat)} {v : Nat} {vs : List Nat} {j : Nat} :
    OutAt (c :: cs) (r :: rs) (v :: vs) (j + 1) ↔ OutAt cs rs vs j := by
  simp only [OutAt, List.getElem?_cons_succ]

/-- Where one of the lists has ended, nothing stands out of range. -/
theorem not_outAt_of_nil {cs : List Bool} {rs : List (Nat × Nat)} {vs : List Nat} (h : cs = [] ∨ rs = [] ∨ vs = []) (j : Nat) : ¬OutAt cs rs vs j := by
  rintro ⟨r, v, hc, hr, hv, -⟩
  obtain rfl | rfl | rfl := h
  · cases hc
  · cases hr
  · cases hv

/-- The search answers the index of the first value out of range, or none when there is none (R34). -/
theorem firstOutOfRange_spec (i : Nat) (cs : List Bool) (rs : List (Nat × Nat)) (vs : List Nat) :
    (∃ j, firstOutOfRange i cs rs vs = some (i + j) ∧ OutAt cs rs vs j ∧ ∀ k, k < j → ¬OutAt cs rs vs k) ∨
      firstOutOfRange i cs rs vs = none ∧ ∀ j, ¬OutAt cs rs vs j := by
  induction cs generalizing i rs vs with
  | nil => exact .inr ⟨by rw [firstOutOfRange]; simp, not_outAt_of_nil (.inl rfl)⟩
  | cons c cs ih =>
    cases rs with
    | nil => exact .inr ⟨by rw [firstOutOfRange]; simp, not_outAt_of_nil (.inr (.inl rfl))⟩
    | cons r rs =>
      cases vs with
      | nil => exact .inr ⟨by rw [firstOutOfRange]; simp, not_outAt_of_nil (.inr (.inr rfl))⟩
      | cons v vs =>
        rw [firstOutOfRange]
        by_cases hout : (c && !(decide (r.1 ≤ v) && decide (v ≤ r.2))) = true
        · rw [if_pos hout]
          exact .inl ⟨0, rfl, outAt_zero.mpr hout, fun k hk => absurd hk (Nat.not_lt_zero k)⟩
        · rw [if_neg hout]
          obtain ⟨j, hfind, hj, hbefore⟩ | ⟨hnone, hno⟩ := ih (i + 1) rs vs
          · refine .inl ⟨j + 1, by rw [hfind, show i + (j + 1) = i + 1 + j by omega], outAt_succ.mpr hj, fun k hk => ?_⟩
            cases k with
            | zero => exact fun h => hout (outAt_zero.mp h)
            | succ k => exact fun h => hbefore k (by omega) (outAt_succ.mp h)
          · refine .inr ⟨hnone, fun k => ?_⟩
            cases k with
            | zero => exact fun h => hout (outAt_zero.mp h)
            | succ k => exact fun h => hno k (outAt_succ.mp h)

/-- The first named value out of range has index `j + 1` when it stands at place `j` (R24, R34). -/
theorem badParameter_eq_some {m : GroupMask} {block : List Byte} {i : Nat} : badParameter m block = some i ↔
    ∃ j, i = j + 1 ∧ OutAt m.members parameterRanges (parameterValues block) j ∧
      ∀ k, k < j → ¬OutAt m.members parameterRanges (parameterValues block) k := by
  unfold badParameter
  obtain ⟨j, hfind, hj, hbefore⟩ | ⟨hnone, hno⟩ := firstOutOfRange_spec 1 m.members parameterRanges (parameterValues block)
  · rw [hfind, Option.some.injEq]
    constructor
    · rintro rfl
      exact ⟨j, Nat.add_comm 1 j, hj, hbefore⟩
    · rintro ⟨k, rfl, hk, hfirst⟩
      obtain h | h | h := Nat.lt_trichotomy j k
      · exact absurd hj (hfirst j h)
      · omega
      · exact absurd hk (hbefore k h)
  · rw [hnone]
    exact ⟨nofun, fun ⟨k, _, hk, _⟩ => absurd hk (hno k)⟩

theorem badParameter_eq_none_iff {m : GroupMask} {block : List Byte} : badParameter m block = none ↔
    ∀ j, ¬OutAt m.members parameterRanges (parameterValues block) j := by
  unfold badParameter
  obtain ⟨j, hfind, hj, -⟩ | ⟨hnone, hno⟩ := firstOutOfRange_spec 1 m.members parameterRanges (parameterValues block)
  · rw [hfind]
    exact ⟨nofun, fun h => absurd hj (h j)⟩
  · exact ⟨fun _ => hno, fun _ => hnone⟩

/-! ## Ring sizes (R172) -/

theorem ringSizeOk_iff {lo hi n : Nat} (hlo : 4 ≤ lo) (hhi : hi ≤ 1024) : ringSizeOk lo hi n = true ↔ lo ≤ n ∧ n ≤ hi ∧ ∃ k, n = 2 ^ k := by
  simp only [ringSizeOk, Bool.and_eq_true, decide_eq_true_eq, List.contains_iff_mem, List.mem_cons, List.not_mem_nil, or_false, and_assoc]
  refine and_congr_right fun h1 => and_congr_right fun h2 => ⟨fun h => ?_, ?_⟩
  · obtain rfl | rfl | rfl | rfl | rfl | rfl | rfl | rfl | rfl := h
    exacts [⟨2, rfl⟩, ⟨3, rfl⟩, ⟨4, rfl⟩, ⟨5, rfl⟩, ⟨6, rfl⟩, ⟨7, rfl⟩, ⟨8, rfl⟩, ⟨9, rfl⟩, ⟨10, rfl⟩]
  · rintro ⟨k, rfl⟩
    have hk : k ≤ 10 := (Nat.pow_le_pow_iff_right Nat.one_lt_two).mp (h2.trans hhi : 2 ^ k ≤ 2 ^ 10)
    have hk' : 2 ≤ k := (Nat.pow_le_pow_iff_right Nat.one_lt_two).mp (hlo.trans h1 : 2 ^ 2 ≤ 2 ^ k)
    interval_cases k <;> simp

theorem aligned64_iff {a : Addr} : aligned64 a = true ↔ a.toNat % 64 = 0 := decide_eq_true_iff

/-- The rings of a context block have bounds within those of every ring (R172). -/
theorem ContextBlock.ring_bounds {c : ContextBlock} {r : RingSpec × Nat × Nat} (h : r ∈ c.rings) : 4 ≤ r.2.1 ∧ r.2.2 ≤ 1024 := by
  simp only [ContextBlock.rings, List.mem_cons, List.not_mem_nil, or_false] at h
  obtain rfl | rfl | rfl | rfl | rfl | rfl | rfl := h
  all_goals exact ⟨by norm_num, by norm_num⟩

theorem ContextBlock.sizeOk_iff {c : ContextBlock} {r : RingSpec × Nat × Nat} (h : r ∈ c.rings) :
    ringSizeOk r.2.1 r.2.2 r.1.size = true ↔ r.1.SizeOk r.2.1 r.2.2 :=
  ringSizeOk_iff (ContextBlock.ring_bounds h).1 (ContextBlock.ring_bounds h).2

/-- The first place of a list at which a test holds. -/
theorem findIdx?_of_first {α : Type} {p : α → Bool} {xs : List α} {i : Nat} {a : α} (hget : xs[i]? = some a) (ha : p a = true)
    (hbefore : ∀ j b, j < i → xs[j]? = some b → p b = false) : xs.findIdx? p = some i := by
  obtain ⟨hi, rfl⟩ := List.getElem?_eq_some_iff.mp hget
  refine List.findIdx?_eq_some_iff_getElem.mpr ⟨hi, ha, fun j hj => ?_⟩
  rw [hbefore j _ hj (List.getElem?_eq_getElem _)]
  decide

/-! ## The checks of a start in their order (R173) -/

section
variable {d : List Byte} (hsign : d.take 4 = [0x55, 0x4D, 0x32, 0x32]) (hversion : field d 4 2 = 1)
  (hpage : (parseContext d).indexPage.toNat % 64 = 0)
include hsign hversion hpage

theorem contextFault_of_size {i : Nat} (h : (parseContext d).rings.findIdx? (fun r => !ringSizeOk r.2.1 r.2.2 r.1.size) = some i) :
    contextFault d = some ⟨.badRingSize, i, 0⟩ := by
  simp only [contextFault, ne_eq, hsign, hversion, aligned64_iff.mpr hpage, not_true_eq_false, if_false, Bool.not_true, Bool.false_eq_true, h]

variable (hsizes : (parseContext d).rings.findIdx? (fun r => !ringSizeOk r.2.1 r.2.2 r.1.size) = none)
include hsizes

theorem contextFault_of_base {i : Nat} (h : (parseContext d).rings.findIdx? (fun r => !aligned64 r.1.base) = some i) :
    contextFault d = some ⟨.badAlignment, i, 0⟩ := by
  simp only [contextFault, ne_eq, hsign, hversion, aligned64_iff.mpr hpage, not_true_eq_false, if_false, Bool.not_true, Bool.false_eq_true, hsizes, h]

variable (hbases : (parseContext d).rings.findIdx? (fun r => !aligned64 r.1.base) = none)
include hbases

theorem contextFault_of_section0 {i : Nat} (h : (parseContext d).section0.badParameter = some i) :
    contextFault d = some ⟨.badParameter, i, 0⟩ := by
  simp only [contextFault, ne_eq, hsign, hversion, aligned64_iff.mpr hpage, not_true_eq_false, if_false, Bool.not_true, Bool.false_eq_true, hsizes,
    hbases, h]

variable (hsection0 : (parseContext d).section0.badParameter = none)
include hsection0

theorem contextFault_of_section1 {i : Nat} (h : (parseContext d).section1.badParameter = some i) :
    contextFault d = some ⟨.badParameter, i, 1⟩ := by
  simp only [contextFault, ne_eq, hsign, hversion, aligned64_iff.mpr hpage, not_true_eq_false, if_false, Bool.not_true, Bool.false_eq_true, hsizes,
    hbases, hsection0, h]

variable (hsection1 : (parseContext d).section1.badParameter = none)
include hsection1

theorem contextFault_of_setting {i : Nat} (h : [(parseContext d).setting0, (parseContext d).setting1, (parseContext d).setting2].findIdx?
    (fun v => decide (v.moderation = 0)) = some i) : contextFault d = some ⟨.badVectorSetting, i, 0⟩ := by
  simp only [contextFault, ne_eq, hsign, hversion, aligned64_iff.mpr hpage, not_true_eq_false, if_false, Bool.not_true, Bool.false_eq_true, hsizes,
    hbases, hsection0, hsection1, h]

theorem contextFault_of_settings (h : [(parseContext d).setting0, (parseContext d).setting1, (parseContext d).setting2].findIdx?
    (fun v => decide (v.moderation = 0)) = none) :
    contextFault d = if 1 < field d 6 1 then some ⟨.badDeliveryMode, 0, 0⟩ else none := by
  simp only [contextFault, ne_eq, hsign, hversion, aligned64_iff.mpr hpage, not_true_eq_false, if_false, Bool.not_true, Bool.false_eq_true, hsizes,
    hbases, hsection0, hsection1, h]

end

/-- A block without a fault passes every check (R173). -/
theorem contextFault_passes {d : List Byte} (h : contextFault d = none) :
    d.take 4 = [0x55, 0x4D, 0x32, 0x32] ∧ field d 4 2 = 1 ∧ (parseContext d).indexPage.toNat % 64 = 0 ∧
      (∀ r, r ∈ (parseContext d).rings → r.1.SizeOk r.2.1 r.2.2 ∧ r.1.base.toNat % 64 = 0) ∧
      (parseContext d).section0.badParameter = none ∧ (parseContext d).section1.badParameter = none ∧
      (∀ v, v ∈ [(parseContext d).setting0, (parseContext d).setting1, (parseContext d).setting2] → v.moderation ≠ 0) ∧ field d 6 1 ≤ 1 := by
  have hno {f : FaultInfo} (hf : contextFault d = some f) : False := by cases h.symm.trans hf
  have hsign : d.take 4 = [0x55, 0x4D, 0x32, 0x32] := by
    by_contra hne
    exact hno (if_pos hne)
  have hversion : field d 4 2 = 1 := by
    by_contra hne
    exact hno ((if_neg (not_not.mpr hsign)).trans (if_pos hne))
  have hpage : (parseContext d).indexPage.toNat % 64 = 0 := by
    by_contra hne
    refine hno ((if_neg (not_not.mpr hsign)).trans ((if_neg (not_not.mpr hversion)).trans (if_pos ?_)))
    rwa [Bool.not_eq_true', ← Bool.not_eq_true, aligned64_iff]
  obtain ⟨hrings, hsection0, hsection1⟩ := contextFault_eq_none h
  have hsizes : (parseContext d).rings.findIdx? (fun r => !ringSizeOk r.2.1 r.2.2 r.1.size) = none :=
    List.findIdx?_eq_none_iff.mpr fun r hr => by rw [hrings r hr, Bool.not_true]
  have hbases : (parseContext d).rings.findIdx? (fun r => !aligned64 r.1.base) = none := by
    cases hfind : (parseContext d).rings.findIdx? (fun r => !aligned64 r.1.base) with
    | none => rfl
    | some i => exact (hno (contextFault_of_base hsign hversion hpage hsizes hfind)).elim
  have hsettings : [(parseContext d).setting0, (parseContext d).setting1, (parseContext d).setting2].findIdx?
      (fun v => decide (v.moderation = 0)) = none := by
    cases hfind : [(parseContext d).setting0, (parseContext d).setting1, (parseContext d).setting2].findIdx? (fun v => decide (v.moderation = 0)) with
    | none => rfl
    | some i => exact (hno (contextFault_of_setting hsign hversion hpage hsizes hbases hsection0 hsection1 hfind)).elim
  refine ⟨hsign, hversion, hpage, fun r hr => ⟨(ContextBlock.sizeOk_iff hr).mp (hrings r hr), ?_⟩, hsection0, hsection1, fun v hv => ?_, ?_⟩
  · rw [← aligned64_iff]
    simpa using List.findIdx?_eq_none_iff.mp hbases r hr
  · exact of_decide_eq_false (List.findIdx?_eq_none_iff.mp hsettings v hv)
  · by_contra hmode
    exact hno ((contextFault_of_settings hsign hversion hpage hsizes hbases hsection0 hsection1 hsettings).trans (if_pos (by omega)))

theorem leNat_lt (d : List Byte) : leNat d < 256 ^ d.length := by
  induction d with
  | nil => decide
  | cons b rest ih =>
    rw [leNat, List.length_cons, Nat.pow_succ]
    have := b.isLt
    omega

theorem field_lt (d : List Byte) (off n : Nat) : field d off n < 256 ^ n :=
  (leNat_lt _).trans_le (Nat.pow_le_pow_right (by omega) (List.length_take_le n _))

/-- Settles O21: the index by the search; a block that passes by its checks; the first failing check by its place in the chain. -/
theorem outOfRangeValuesAreNotAccepted : Obligations.OutOfRangeValuesAreNotAccepted := by
  refine ⟨fun m block => ?_, fun d hlength hfault => ?_, fun d => ?_⟩
  · intro out
    have hout (j : Nat) : out (j + 1) ↔ OutAt m.members parameterRanges (parameterValues block) j := Iff.rfl
    refine ⟨fun i => ?_, ?_⟩
    · rw [badParameter_eq_some]
      constructor
      · rintro ⟨j, rfl, hj, hbefore⟩
        refine ⟨by omega, hj, fun k h1 hk => ?_⟩
        obtain ⟨k, rfl⟩ := Nat.exists_eq_add_of_le' h1
        exact hbefore k (by omega)
      · rintro ⟨h1, hi, hbefore⟩
        obtain ⟨j, rfl⟩ := Nat.exists_eq_add_of_le' h1
        exact ⟨j, rfl, hi, fun k hk => hbefore (k + 1) (by omega) (by omega)⟩
    · rw [badParameter_eq_none_iff]
      constructor
      · intro h i h1
        obtain ⟨j, rfl⟩ := Nat.exists_eq_add_of_le' h1
        exact h j
      · exact fun h j => h (j + 1) (by omega)
  · intro c
    obtain ⟨hsign, hversion, hpage, hrings, hsection0, hsection1, hsettings, hmode⟩ := contextFault_passes hfault
    refine ⟨hsign, hversion, hpage, hrings (c.eventRing, 16, 1024) (by simp [c, ContextBlock.rings]), fun v => ?_, ?_, fun l => ?_⟩
    · refine ⟨Nat.one_le_iff_ne_zero.mpr (hsettings _ (by cases v <;> simp [c, ContextBlock.setting])), ?_, ?_⟩
      · have hoctet (off : Nat) : field d off 1 ≤ 255 := Nat.le_of_lt_succ (field_lt d off 1)
        cases v <;> exact hoctet _
      · have hhalf (off : Nat) : field d off 2 ≤ 65535 := Nat.le_of_lt_succ (field_lt d off 2)
        cases v <;> exact hhalf _
    · have hlevel : c.level = decide (field d 6 1 = 1) := rfl
      obtain h | h : field d 6 1 = 0 ∨ field d 6 1 = 1 := by omega
      all_goals simp [hlevel, h]
    · cases l
      · obtain ⟨hrequest, hrequestBase⟩ := hrings (c.section0.requestRing, 8, 1024) (by simp [c, ContextBlock.rings])
        obtain ⟨hcompletion, hcompletionBase⟩ := hrings (c.section0.completionRing, 8, 1024) (by simp [c, ContextBlock.rings])
        obtain ⟨hbuffer, hbufferBase⟩ := hrings (c.section0.bufferRing, 4, 256) (by simp [c, ContextBlock.rings])
        exact ⟨hrequest, hrequestBase, hcompletion, hcompletionBase, hbuffer, hbufferBase, LineSection.loadedParams_inRange hsection0⟩
      · obtain ⟨hrequest, hrequestBase⟩ := hrings (c.section1.requestRing, 8, 1024) (by simp [c, ContextBlock.rings])
        obtain ⟨hcompletion, hcompletionBase⟩ := hrings (c.section1.completionRing, 8, 1024) (by simp [c, ContextBlock.rings])
        obtain ⟨hbuffer, hbufferBase⟩ := hrings (c.section1.bufferRing, 4, 256) (by simp [c, ContextBlock.rings])
        exact ⟨hrequest, hrequestBase, hcompletion, hcompletionBase, hbuffer, hbufferBase, LineSection.loadedParams_inRange hsection1⟩
  · intro c rings sized based bad counts gives p3 p4 p5 p6 p7 p8 p9
    have hsized {r : RingSpec × Nat × Nat} (hr : r ∈ rings) : (!ringSizeOk r.2.1 r.2.2 r.1.size) = true ↔ ¬sized r := by
      rw [Bool.not_eq_true', ← Bool.not_eq_true, ContextBlock.sizeOk_iff (c := c) hr]
    have hsizes (h : ∀ r, r ∈ rings → sized r) : c.rings.findIdx? (fun r => !ringSizeOk r.2.1 r.2.2 r.1.size) = none :=
      List.findIdx?_eq_none_iff.mpr fun r hr => by
        rw [← Bool.not_eq_true, hsized hr, not_not]
        exact h r hr
    have hbased (r : RingSpec × Nat × Nat) : (!aligned64 r.1.base) = true ↔ ¬based r := by
      rw [Bool.not_eq_true', ← Bool.not_eq_true, aligned64_iff]
    have hbases (h : ∀ r, r ∈ rings → based r) : c.rings.findIdx? (fun r => !aligned64 r.1.base) = none :=
      List.findIdx?_eq_none_iff.mpr fun r hr => by
        rw [← Bool.not_eq_true, hbased, not_not]
        exact h r hr
    have hcounts (h : ∀ n, n ∈ counts → n ≠ 0) : [c.setting0, c.setting1, c.setting2].findIdx? (fun v => decide (v.moderation = 0)) = none :=
      List.findIdx?_eq_none_iff.mpr fun v hv => decide_eq_false (h _ (List.mem_map_of_mem (f := VectorSetting.moderation) hv))
    refine ⟨fun h3 => ?_, fun h3 h4 => ?_, fun ⟨h3, h4⟩ h5 => ?_, fun i r ⟨⟨h3, h4⟩, h5⟩ hget hbad hbefore => ?_,
      fun i r ⟨⟨⟨h3, h4⟩, h5⟩, h6⟩ hget hbad hbefore => ?_, fun i ⟨⟨⟨⟨h3, h4⟩, h5⟩, h6⟩, h7⟩ hbad => ?_,
      fun i ⟨⟨⟨⟨h3, h4⟩, h5⟩, h6⟩, h7⟩ h0 hbad => ?_, fun i ⟨⟨⟨⟨⟨h3, h4⟩, h5⟩, h6⟩, h7⟩, h0, h1⟩ hget hbefore => ?_,
      fun ⟨⟨⟨⟨⟨⟨h3, h4⟩, h5⟩, h6⟩, h7⟩, h0, h1⟩, h9⟩ hmode => ?_, fun ⟨⟨⟨⟨⟨⟨h3, h4⟩, h5⟩, h6⟩, h7⟩, h0, h1⟩, h9⟩ hmode => ?_⟩
    · exact if_pos h3
    · exact (if_neg (not_not.mpr h3)).trans (if_pos fun h => h4 ⟨h3, h⟩)
    · refine (if_neg (not_not.mpr h3)).trans ((if_neg (not_not.mpr h4)).trans (if_pos ?_))
      rw [Bool.not_eq_true', ← Bool.not_eq_true, aligned64_iff]
      exact fun h => h5 ⟨⟨h3, h4⟩, h⟩
    · refine contextFault_of_size h3 h4 h5 (findIdx?_of_first hget ((hsized (List.mem_of_getElem? hget)).mpr hbad) fun j r' hj hget' => ?_)
      rw [← Bool.not_eq_true, hsized (List.mem_of_getElem? hget'), not_not]
      exact hbefore j r' hj hget'
    · refine contextFault_of_base h3 h4 h5 (hsizes h6) (findIdx?_of_first hget ((hbased r).mpr hbad) fun j r' hj hget' => ?_)
      rw [← Bool.not_eq_true, hbased, not_not]
      exact hbefore j r' hj hget'
    · exact contextFault_of_section0 h3 h4 h5 (hsizes h6) (hbases h7) hbad
    · exact contextFault_of_section1 h3 h4 h5 (hsizes h6) (hbases h7) h0 hbad
    · have hmap (j : Nat) : counts[j]? = ([c.setting0, c.setting1, c.setting2][j]?).map VectorSetting.moderation :=
        List.getElem?_map (l := [c.setting0, c.setting1, c.setting2]) (i := j)
      rw [hmap, Option.map_eq_some_iff] at hget
      obtain ⟨v, hv, hzero⟩ := hget
      refine contextFault_of_setting h3 h4 h5 (hsizes h6) (hbases h7) h0 h1 (findIdx?_of_first hv (decide_eq_true hzero) fun j w hj hw => ?_)
      refine decide_eq_false fun hw0 => hbefore j hj ?_
      rw [hmap, hw, Option.map_some, hw0]
    · exact (contextFault_of_settings h3 h4 h5 (hsizes h6) (hbases h7) h0 h1 (hcounts h9)).trans (if_pos hmode)
    · exact (contextFault_of_settings h3 h4 h5 (hsizes h6) (hbases h7) h0 h1 (hcounts h9)).trans (if_neg (Nat.not_lt.mpr hmode))

end Sys2Proof.Machine
end

section
/-! PROOFS. The CRC of a frame, the coding of an octet, and the receiver's checks (R1, R4, R6, R7). -/

set_option Elab.async false

namespace Sys2Proof.Machine

/-! ## The CRC (R4) -/

/-- Below the top bit a shift of the register is a doubling. -/
theorem crcShift_toNat {c : Half} (h : c.toNat < 2 ^ 15) : (crcShift c).toNat = 2 * c.toNat := by
  have hmsb : c.msb = false := by
    rw [BitVec.msb_eq_decide]
    exact decide_eq_false (by simpa using h)
  rw [crcShift, hmsb, if_neg (by decide), BitVec.toNat_shiftLeft, Nat.shiftLeft_eq]
  omega

/-- An octet that leaves only the low half of the register moves it up (R4). -/
theorem crcShift_eight_toNat {c : Half} (h : c.toNat < 256) :
    (crcShift (crcShift (crcShift (crcShift (crcShift (crcShift (crcShift (crcShift c)))))))).toNat = 256 * c.toNat := by
  have h1 := crcShift_toNat (c := c) (by omega)
  have h2 := crcShift_toNat (c := crcShift c) (by omega)
  have h3 := crcShift_toNat (c := crcShift (crcShift c)) (by omega)
  have h4 := crcShift_toNat (c := crcShift (crcShift (crcShift c))) (by omega)
  have h5 := crcShift_toNat (c := crcShift (crcShift (crcShift (crcShift c)))) (by omega)
  have h6 := crcShift_toNat (c := crcShift (crcShift (crcShift (crcShift (crcShift c))))) (by omega)
  have h7 := crcShift_toNat (c := crcShift (crcShift (crcShift (crcShift (crcShift (crcShift c)))))) (by omega)
  have h8 := crcShift_toNat (c := crcShift (crcShift (crcShift (crcShift (crcShift (crcShift (crcShift c))))))) (by omega)
  omega

/-- The register with its own high octet added keeps its low octet. -/
theorem xor_highOctet (c : Half) : c ^^^ ((byteOf (c.toNat / 256)).zeroExtend 16 <<< 8) = BitVec.ofNat 16 (c.toNat % 256) := by
  refine BitVec.eq_of_getLsbD_eq fun i hi => ?_
  have hbit : (byteOf (c.toNat / 256)).getLsbD (i - 8) = (decide (i - 8 < 8) && c.getLsbD (i - 8 + 8)) := by
    rw [byteOf, BitVec.getLsbD_ofNat, show (256 : Nat) = 2 ^ 8 by norm_num, Nat.testBit_div_two_pow, BitVec.getLsbD]
  rw [BitVec.getLsbD_xor, BitVec.getLsbD_shiftLeft, BitVec.zeroExtend, BitVec.getLsbD_setWidth, hbit, BitVec.getLsbD_ofNat,
    show (256 : Nat) = 2 ^ 8 by norm_num, Nat.testBit_mod_two_pow]
  by_cases hlow : i < 8
  · simp [hi, hlow, BitVec.getLsbD]
  · simp [hi, hlow, show i - 8 < 16 by omega, show i - 8 < 8 by omega, show i - 8 + 8 = i by omega]

theorem crcOctet_self (c : Half) : crcOctet (crcOctet c (byteOf (c.toNat / 256))) (byteOf c.toNat) = 0 := by
  have hlow : (crcOctet c (byteOf (c.toNat / 256))).toNat = 256 * (c.toNat % 256) := by
    rw [crcOctet, xor_highOctet, crcShift_eight_toNat]
    · rw [BitVec.toNat_ofNat]
      omega
    · rw [BitVec.toNat_ofNat]
      omega
  have hsame : crcOctet c (byteOf (c.toNat / 256)) = (byteOf c.toNat).zeroExtend 16 <<< 8 := by
    refine BitVec.eq_of_toNat_eq ?_
    rw [hlow, BitVec.toNat_shiftLeft, BitVec.zeroExtend, BitVec.toNat_setWidth, byteOf, BitVec.toNat_ofNat, Nat.shiftLeft_eq]
    omega
  rw [hsame, crcOctet, BitVec.xor_self]
  decide

theorem crc_append_self (d : List Byte) : crc (d ++ [byteOf ((crc d).toNat / 256), byteOf (crc d).toNat]) = 0 := by
  rw [crc, List.foldl_append]
  exact crcOctet_self (crc d)

/-! ## The levels of an octet (R1) -/

theorem manchesterBits_levels (bits : List Bool) :
    manchesterBits (bits.flatMap (fun x => if x then [.space, .mark] else [.mark, .space])) = some bits := by
  induction bits with
  | nil => rfl
  | cons x rest ih =>
    rw [List.flatMap_cons]
    cases x with
    | true => exact (congrArg (Option.map (true :: ·)) ih)
    | false => exact (congrArg (Option.map (false :: ·)) ih)

theorem ofMsbFirst_msbFirst : ∀ b : Byte, ofMsbFirst (msbFirst b) = b := by decide

theorem Coding.octet_levels (c : Coding) (b : Byte) : c.octet (c.levels b) = some b := by
  cases c with
  | nrz =>
    have hbits : ((msbFirst b).map Level.ofBit).map (fun x => decide (x = .mark)) = msbFirst b := by
      rw [List.map_map]
      refine (List.map_congr_left fun x _ => ?_).trans (List.map_id _)
      cases x <;> rfl
    exact congrArg some ((congrArg ofMsbFirst hbits).trans (ofMsbFirst_msbFirst b))
  | manchester =>
    have hbits : manchesterBits (Coding.levels .manchester b) = some (msbFirst b) := manchesterBits_levels _
    rw [Coding.octet, hbits]
    exact congrArg some (ofMsbFirst_msbFirst b)

/-! ## The six checks of a received frame (R6, R7) -/

/-- What the whole of a frame is: its second CRC octet has come (R6). -/
theorem endsWithCrc_iff (rx : Reception) : endsWithCrc rx = true ↔
    rx.codingError = false ∧ rx.octets.take 2 = [0x55, 0xD3] ∧ 8 ≤ rx.octets.length ∧ field rx.octets 7 1 ≤ 240 ∧
      10 + field rx.octets 7 1 ≤ rx.octets.length := by
  simp [endsWithCrc, and_assoc]

theorem checkReception_of_short {rx : Reception} (h : ¬endsWithCrc rx = true) : checkReception rx = .formatError := by
  unfold checkReception
  exact if_pos (by simp [h])

theorem checkReception_of_crcError {rx : Reception} (h : endsWithCrc rx = true)
    (hcrc : crc ((rx.octets.drop 2).take (8 + field rx.octets 7 1)) ≠ 0) : checkReception rx = .crcError := by
  unfold checkReception
  exact (if_neg (by simp [h])).trans (if_pos hcrc)

/-- The form of a frame whose CRC is good: checks 3 to 6 (R7). -/
def wellFormedBody (kind dest src : Nat) (payload : List Byte) : Prop :=
  (1 ≤ kind ∧ kind ≤ 7) ∧ (dest ≤ 63 ∧ src ≤ 63) ∧ payloadRuleOk kind payload = true ∧ (answerKind kind payload).isSome = true ∧ dest = 63

theorem checkReception_of_goodCrc {rx : Reception} (h : endsWithCrc rx = true)
    (hcrc : crc ((rx.octets.drop 2).take (8 + field rx.octets 7 1)) = 0) :
    (checkReception rx ≠ .crcError) ∧ ((∃ f, checkReception rx = .wellFormed f) ↔
      wellFormedBody (field rx.octets 2 1) (field rx.octets 3 1) (field rx.octets 4 1) ((rx.octets.drop 8).take (field rx.octets 7 1))) := by
  unfold checkReception wellFormedBody
  dsimp only
  rw [if_neg (by simp [h]), if_neg (not_not.mpr hcrc)]
  by_cases hkind : field rx.octets 2 1 < 1 ∨ 7 < field rx.octets 2 1
  · rw [if_pos hkind]
    exact ⟨nofun, ⟨nofun, fun ⟨hk, _⟩ => by omega⟩⟩
  rw [if_neg hkind]
  by_cases haddress : 63 < field rx.octets 3 1 ∨ 63 < field rx.octets 4 1
  · rw [if_pos haddress]
    exact ⟨nofun, ⟨nofun, fun ⟨_, ha, _⟩ => by omega⟩⟩
  rw [if_neg haddress]
  cases hrule : payloadRuleOk (field rx.octets 2 1) ((rx.octets.drop 8).take (field rx.octets 7 1)) with
  | false => exact ⟨nofun, ⟨nofun, fun ⟨_, _, hr, _⟩ => by cases hr⟩⟩
  | true =>
    cases hanswer : answerKind (field rx.octets 2 1) ((rx.octets.drop 8).take (field rx.octets 7 1)) with
    | none => exact ⟨nofun, ⟨nofun, fun ⟨_, _, _, ha, _⟩ => by cases ha⟩⟩
    | some k =>
      by_cases hdest : field rx.octets 3 1 = Config.masterAddress
      · simp only [Bool.not_true, Bool.false_eq_true, if_false, if_pos hdest]
        exact ⟨nofun, ⟨fun _ => ⟨by omega, by omega, trivial, rfl, hdest⟩, fun _ => ⟨_, rfl⟩⟩⟩
      · simp only [Bool.not_true, Bool.false_eq_true, if_false, if_neg hdest]
        exact ⟨nofun, ⟨nofun, fun ⟨_, _, _, _, hd⟩ => absurd hd hdest⟩⟩

/-- The kinds that are well formed at the master, with their payload rules (R5, R7). -/
theorem wellFormedBody_iff {kind dest src : Nat} {payload : List Byte} : wellFormedBody kind dest src payload ↔
    dest = 63 ∧ src ≤ 63 ∧ (kind = 3 ∨ kind = 4 ∧ payload.length = 1 ∧ 1 ≤ field payload 0 1 ∧ field payload 0 1 ≤ 3 ∨
      kind = 6 ∧ payload.length = 0) := by
  unfold wellFormedBody
  constructor
  · rintro ⟨⟨h1, h7⟩, ⟨-, hsrc⟩, hrule, hanswer, hdest⟩
    refine ⟨hdest, hsrc, ?_⟩
    obtain rfl | rfl | rfl | rfl | rfl | rfl | rfl : kind = 1 ∨ kind = 2 ∨ kind = 3 ∨ kind = 4 ∨ kind = 5 ∨ kind = 6 ∨ kind = 7 := by omega
    · cases hanswer
    · cases hanswer
    · exact .inl rfl
    · exact .inr (.inl ⟨rfl, by simpa [payloadRuleOk, and_assoc] using hrule⟩)
    · cases hanswer
    · exact .inr (.inr ⟨rfl, by simpa [payloadRuleOk] using hrule⟩)
    · cases hanswer
  · rintro ⟨hdest, hsrc, rfl | ⟨rfl, hlen, h1, h3⟩ | ⟨rfl, hlen⟩⟩
    · exact ⟨by omega, ⟨by omega, hsrc⟩, rfl, rfl, hdest⟩
    · exact ⟨by omega, ⟨by omega, hsrc⟩, by simp [payloadRuleOk, hlen, h1, h3], rfl, hdest⟩
    · exact ⟨by omega, ⟨by omega, hsrc⟩, by simp only [payloadRuleOk, hlen, decide_true], rfl, hdest⟩

/-- Settles O18: the CRC by its register, an octet by its levels, the receiver by its checks in their order. -/
theorem receiverChecksCrcAndForm : Obligations.ReceiverChecksCrcAndForm := by
  refine ⟨⟨crc_append_self, Coding.octet_levels⟩, fun rx => ⟨endsWithCrc_iff rx, ?_, ?_⟩⟩
  · rw [← endsWithCrc_iff rx]
    by_cases hends : endsWithCrc rx = true
    · by_cases hcrc : crc ((rx.octets.drop 2).take (8 + field rx.octets 7 1)) = 0
      · exact iff_of_false (checkReception_of_goodCrc hends hcrc).1 fun h => h.2 hcrc
      · exact iff_of_true (checkReception_of_crcError hends hcrc) ⟨hends, hcrc⟩
    · exact iff_of_false (by rw [checkReception_of_short hends]; nofun) fun h => hends h.1
  · rw [← endsWithCrc_iff rx]
    by_cases hends : endsWithCrc rx = true
    · by_cases hcrc : crc ((rx.octets.drop 2).take (8 + field rx.octets 7 1)) = 0
      · have hlength : ((rx.octets.drop 8).take (field rx.octets 7 1)).length = field rx.octets 7 1 := by
          obtain ⟨-, -, -, -, hlen⟩ := (endsWithCrc_iff rx).mp hends
          rw [List.length_take, List.length_drop]
          omega
        have hreason (h : field rx.octets 7 1 = 1) : field ((rx.octets.drop 8).take (field rx.octets 7 1)) 0 1 = field rx.octets 8 1 := by
          rw [h, field, List.drop_zero, List.take_take]
          rfl
        rw [(checkReception_of_goodCrc hends hcrc).2, wellFormedBody_iff, hlength]
        simp only [hends, hcrc, true_and]
        refine and_congr_right fun _ => and_congr_right fun _ => or_congr_right (or_congr_left (and_congr_right fun _ => and_congr_right fun h => ?_))
        rw [hreason h]
      · exact iff_of_false (by rw [checkReception_of_crcError hends hcrc]; nofun) fun h => hcrc h.2.1
    · exact iff_of_false (by rw [checkReception_of_short hends]; nofun) fun h => hends h.1

end Sys2Proof.Machine
end

section
/-! PROOFS. The entry to STOPPING: the wake sequence, the engine and the request engine of each line (R157, R176, R177, R127). -/

set_option Elab.async false

namespace Sys2Proof.Machine

/-! ## The engine (R127) -/

/-- What the entry to STOPPING leaves of an engine (R127). -/
structure Engine.TakenDown (g g' : Engine) : Prop where
  source : g'.source = none
  timer : g'.timer = none
  pendingStart : g'.pendingStart = false
  inactiveBank : g'.inactiveBank = { g.inactiveBank with state := g.inactiveBank.state.atStop }
  lastCompleted : g'.lastCompleted = g.lastCompleted
  active : g'.active = g.active
  ends : g'.state = .stopped ∨ g.state = .inCycle ∧ g.stage = .inFlight ∧ g'.stopRequested = true

/-- The slots that the entry to STOPPING records SKIPPED_STOP (R127). -/
def Engine.downSkips (g : Engine) : List Nat := if g.state = .inCycle ∧ g.stopRequested = false then g.remainingIdle else []

theorem Engine.nodup_downSkips {g : Engine} (h : g.due = dueSlots g.cycle 1 g.activeBank.slots) : g.downSkips.Nodup := by
  unfold Engine.downSkips Engine.remainingIdle
  split
  · split
    · exact (Engine.nodup_remaining h).sublist (List.drop_sublist _ _)
    · exact Engine.nodup_remaining h
  · exact .nil

/-- A stop leaves no bank COMMITTED or LOADING (R127). -/
theorem BankState.atStop_calm (b : BankState) : b.atStop ≠ .committed ∧ b.atStop ≠ .loading := by cases b <;> decide

/-- The engine without its start source, and with its inactive bank as a stop leaves it (R127). -/
def Engine.withdrawn (g : Engine) : Engine :=
  g.clearStart.setBank g.clearStart.active.other { g.inactiveBank with state := g.inactiveBank.state.atStop }

@[simp] theorem Engine.withdrawn_active (g : Engine) : g.withdrawn.active = g.active := Engine.setBank_active _ _ _
@[simp] theorem Engine.withdrawn_state (g : Engine) : g.withdrawn.state = g.state := Engine.setBank_state _ _ _
@[simp] theorem Engine.withdrawn_cycle (g : Engine) : g.withdrawn.cycle = g.cycle := Engine.setBank_cycle _ _ _
@[simp] theorem Engine.withdrawn_stage (g : Engine) : g.withdrawn.stage = g.stage := Engine.setBank_stage _ _ _
@[simp] theorem Engine.withdrawn_stopRequested (g : Engine) : g.withdrawn.stopRequested = g.stopRequested := Engine.setBank_stopRequested _ _ _
@[simp] theorem Engine.withdrawn_lastCompleted (g : Engine) : g.withdrawn.lastCompleted = g.lastCompleted := Engine.setBank_lastCompleted _ _ _
@[simp] theorem Engine.withdrawn_source (g : Engine) : g.withdrawn.source = none := Engine.setBank_source _ _ _
@[simp] theorem Engine.withdrawn_timer (g : Engine) : g.withdrawn.timer = none := Engine.setBank_timer _ _ _
@[simp] theorem Engine.withdrawn_pendingStart (g : Engine) : g.withdrawn.pendingStart = false := Engine.setBank_pendingStart _ _ _
@[simp] theorem Engine.withdrawn_activeBank (g : Engine) : g.withdrawn.activeBank = g.activeBank := by
  rw [Engine.activeBank, Engine.withdrawn_active]
  exact Engine.bank_other_setBank _ _ _

theorem Engine.withdrawn_inactiveBank (g : Engine) :
    g.withdrawn.inactiveBank = { g.inactiveBank with state := g.inactiveBank.state.atStop } := by
  rw [Engine.inactiveBank, Engine.withdrawn_active]
  exact Engine.bank_setBank_same _ _ _

theorem Engine.withdrawn_remainingIdle (g : Engine) : g.withdrawn.remainingIdle = g.remainingIdle := by
  simp [Engine.remainingIdle, Engine.remaining, Engine.withdrawn, Engine.clearStart]

/-- An engine that was withdrawn, with whatever active bank, state, stage and stop request. -/
theorem Engine.takenDown_of_withdrawn (g : Engine) (b : Bank) (state : EngineState) (stage : SlotStage) (requested : Bool)
    (hends : state = .stopped ∨ g.state = .inCycle ∧ g.stage = .inFlight ∧ requested = true) :
    g.TakenDown { g.withdrawn.setBank g.active b with state := state, stage := stage, stopRequested := requested } where
  source := by simp
  timer := by simp
  pendingStart := by simp
  inactiveBank := by
    rw [← g.withdrawn_inactiveBank, ← Engine.inactiveBank_setBank_active g.withdrawn b, g.withdrawn_active]
    rfl
  lastCompleted := by simp
  active := by simp
  ends := hends

theorem Engine.takenDown_of_stopped (g : Engine) : g.TakenDown { g.withdrawn with state := .stopped } := by
  have h := g.takenDown_of_withdrawn g.withdrawn.activeBank .stopped g.withdrawn.stage g.withdrawn.stopRequested (.inl rfl)
  rwa [← g.withdrawn_active, Engine.setBank_activeBank] at h

theorem withdrawn_line_engine (l : LineId) (s : State) : ((updEngine l Engine.withdrawn s).line l).engine = (s.line l).engine.withdrawn := by
  rw [updEngine_line]

theorem stopEngine_of_stopped {l : LineId} {s : State} (h : (s.line l).engine.state = .stopped) : stopEngine l s = updEngine l Engine.withdrawn s := by
  have hstate : ((updEngine l Engine.withdrawn s).line l).engine.state = .stopped := by
    rw [withdrawn_line_engine, Engine.withdrawn_state, h]
  unfold stopEngine
  dsimp only
  split
  · rfl
  all_goals next heq => exact absurd (hstate.symm.trans heq) (by decide)

theorem stopEngine_of_calm {l : LineId} {s : State} (h : (s.line l).engine.state = .halted ∨ (s.line l).engine.state = .waiting) :
    stopEngine l s = writeCycleRecord l (updEngine l (fun e => { e with state := .stopped }) (updEngine l Engine.withdrawn s)) := by
  have hstate : ((updEngine l Engine.withdrawn s).line l).engine.state = (s.line l).engine.state := by
    rw [withdrawn_line_engine, Engine.withdrawn_state]
  unfold stopEngine
  dsimp only
  split
  · next heq => obtain h | h := h <;> exact absurd (h.symm.trans (hstate.symm.trans heq)) (by decide)
  · rfl
  · rfl
  · next heq => obtain h | h := h <;> exact absurd (h.symm.trans (hstate.symm.trans heq)) (by decide)

theorem stopEngine_of_inCycle {l : LineId} {s : State} (h : (s.line l).engine.state = .inCycle) :
    stopEngine l s = if (s.line l).engine.stage = .inFlight
      then updEngine l (fun e => { e with stopRequested := true })
        (recordSlots l .skippedStop (s.line l).engine.downSkips (updEngine l Engine.withdrawn s))
      else writeCycleRecord l (updEngine l (fun e => { e with state := .stopped, stage := .idle })
        (recordSlots l .skippedStop (s.line l).engine.downSkips (updEngine l Engine.withdrawn s))) := by
  have hengine := withdrawn_line_engine l s
  have hstate : ((updEngine l Engine.withdrawn s).line l).engine.state = .inCycle := by
    rw [hengine, Engine.withdrawn_state, h]
  have hskips : (if ((updEngine l Engine.withdrawn s).line l).engine.stopRequested then []
      else ((updEngine l Engine.withdrawn s).line l).engine.remainingIdle) = (s.line l).engine.downSkips := by
    rw [hengine, Engine.withdrawn_stopRequested, Engine.withdrawn_remainingIdle, Engine.downSkips, h]
    cases (s.line l).engine.stopRequested <;> rfl
  have hstage : ((updEngine l Engine.withdrawn s).line l).engine.stage = (s.line l).engine.stage := by
    rw [hengine, Engine.withdrawn_stage]
  rw [← hskips, ← hstage]
  unfold stopEngine
  dsimp only
  split
  · next heq => exact absurd (hstate.symm.trans heq) (by decide)
  · next heq => exact absurd (hstate.symm.trans heq) (by decide)
  · next heq => exact absurd (hstate.symm.trans heq) (by decide)
  · rfl

theorem stopEngine_part {l : LineId} {s t : State} {y : Line} {es : List Event} {cs : List Completion} {ws : List PortOp}
    (h : State.Part l s t y es cs ws) : ∃ g vs, State.Part l s (stopEngine l t) { y with engine := g } es cs (ws ++ vs) ∧
      y.engine.TakenDown g ∧ (y.engine.state ≠ .stopped → g.state = .stopped → s.cycleRecordWrite l g ∈ vs) ∧
      (y.engine.due = dueSlots y.engine.cycle 1 y.engine.activeBank.slots →
        (g.bank y.engine.active).slots = (y.engine.activeBank.ended y.engine.cycle .skippedStop y.engine.downSkips).slots ∧
        (y.engine.activeBank.statusWrites y.engine.cycle .skippedStop y.engine.downSkips).Sublist vs) := by
  have hwithdrawn := h.updEngine Engine.withdrawn
  have hcalm (hstate : y.engine.state ≠ .inCycle) : y.engine.downSkips = [] := if_neg fun h => hstate h.1
  have hbank (st : EngineState) : ({ y.engine.withdrawn with state := st } : Engine).bank y.engine.active = y.engine.activeBank := by
    rw [← y.engine.withdrawn_activeBank, Engine.activeBank, y.engine.withdrawn_active]
    rfl
  have hquiet (hstate : y.engine.state ≠ .inCycle) (st : EngineState) (vs : List PortOp) :
      (({ y.engine.withdrawn with state := st } : Engine).bank y.engine.active).slots =
        (y.engine.activeBank.ended y.engine.cycle .skippedStop y.engine.downSkips).slots ∧
      (y.engine.activeBank.statusWrites y.engine.cycle .skippedStop y.engine.downSkips).Sublist vs := by
    rw [hcalm hstate, hbank, Bank.ended_nil]
    exact ⟨rfl, List.nil_sublist _⟩
  have hline := h.line
  by_cases hcycle : y.engine.state = .inCycle
  · obtain ⟨b, us, hpart, -, hexact⟩ := hwithdrawn.recordSlots_any .skippedStop y.engine.downSkips
    rw [Engine.withdrawn_active] at hpart
    rw [Engine.withdrawn_activeBank, Engine.withdrawn_cycle] at hexact
    rw [stopEngine_of_inCycle (by rw [hline, hcycle]), hline]
    by_cases hstage : y.engine.stage = .inFlight
    · rw [if_pos hstage]
      refine ⟨_, us, hpart.updEngine _, y.engine.takenDown_of_withdrawn b _ _ true (.inr ⟨hcycle, hstage, rfl⟩), fun _ hstopped => ?_, fun hdue => ?_⟩
      · have hstill : (y.engine.withdrawn.setBank y.engine.active b).state = .stopped := hstopped
        rw [Engine.setBank_state, Engine.withdrawn_state, hcycle] at hstill
        cases hstill
      · obtain ⟨rfl, rfl⟩ := hexact (Engine.nodup_downSkips hdue)
        exact ⟨congrArg Bank.slots (Engine.bank_setBank_same y.engine.withdrawn _ _), List.Sublist.refl _⟩
    · rw [if_neg hstage]
      have hend := (hpart.updEngine (fun e => { e with state := .stopped, stage := .idle })).writeCycleRecord
      rw [List.append_assoc] at hend
      refine ⟨_, _, hend, y.engine.takenDown_of_withdrawn b .stopped .idle _ (.inl rfl), fun _ _ => ?_, fun hdue => ?_⟩
      · exact List.mem_append_right _ (List.mem_singleton.mpr rfl)
      · obtain ⟨rfl, rfl⟩ := hexact (Engine.nodup_downSkips hdue)
        exact ⟨congrArg Bank.slots (Engine.bank_setBank_same y.engine.withdrawn _ _), List.sublist_append_left _ _⟩
  · by_cases hstopped : y.engine.state = .stopped
    · have hsame : ({ y.engine.withdrawn with state := .stopped } : Engine) = y.engine.withdrawn := by
        rw [← hstopped, ← y.engine.withdrawn_state]
      rw [stopEngine_of_stopped (by rw [hline, hstopped])]
      refine ⟨{ y.engine.withdrawn with state := .stopped }, [], ?_, y.engine.takenDown_of_stopped, fun hne => absurd hstopped hne,
        fun _ => hquiet hcycle .stopped []⟩
      rw [hsame, List.append_nil]
      exact hwithdrawn
    · have hstate : y.engine.state = .halted ∨ y.engine.state = .waiting := by
        cases h : y.engine.state <;> simp [h] at hcycle hstopped ⊢
      rw [stopEngine_of_calm (by rwa [hline])]
      exact ⟨_, _, (hwithdrawn.updEngine (fun e => { e with state := .stopped })).writeCycleRecord, y.engine.takenDown_of_stopped,
        fun _ _ => List.mem_singleton.mpr rfl, fun _ => hquiet hcycle .stopped _⟩

/-! ## The request engine's walk (R177) -/

/-- The line after the walk of a stop: what outlives it stays, and the staged record is gone. -/
def Line.walked (x : Line) : Line :=
  { x.completed ((x.entries.filter (fun e => !x.outlivesWalk e)).length + if x.intake.staged.isSome then 1 else 0) with
    entries := x.entries.filter x.outlivesWalk, intake := { x.intake with staged := none } }

/-- What the walk of a stop completes, in its order: the staged record last (R177). -/
def Line.walkGone (x : Line) : List Entry := x.entries.filter (fun e => !x.outlivesWalk e) ++ x.intake.staged.toList

theorem stopRequests_of_none {l : LineId} {s : State} (h : (s.line l).intake.staged = none) :
    stopRequests l s = finishAll l (fun e => !(s.line l).outlivesWalk e) (fun _ => stopEnding) s := by
  unfold stopRequests
  dsimp only
  rw [h]

theorem stopRequests_of_some {l : LineId} {s : State} {e : Entry} (h : (s.line l).intake.staged = some e) :
    stopRequests l s = completeEntry l stopEnding ((finishAll l (fun e => !(s.line l).outlivesWalk e) (fun _ => stopEnding) s).updLine l
      (fun x => { x with intake := { x.intake with staged := none } })) e := by
  unfold stopRequests
  dsimp only
  rw [h]

theorem stopRequests_part {l : LineId} {s t : State} {y : Line} {es : List Event} {cs : List Completion} {ws : List PortOp}
    (h : State.Part l s t y es cs ws) : ∃ vs, State.Part l s (stopRequests l t) y.walked es
      (cs ++ y.walkGone.map (fun e => e.completion y stopEnding)) (ws ++ vs) := by
  have hall := h.finishAll (fun e => !y.outlivesWalk e) (fun _ => stopEnding)
  have hkept : y.entries.filter (fun e => !!y.outlivesWalk e) = y.entries.filter y.outlivesWalk := by simp
  rw [hkept] at hall
  cases hstaged : y.intake.staged with
  | none =>
    have hintake : ({ y.intake with staged := none } : Intake) = y.intake := by rw [← hstaged]
    rw [stopRequests_of_none (by rw [h.line, hstaged]), h.line, Line.walked, Line.walkGone, hstaged, hintake, Option.toList_none, List.append_nil]
    exact ⟨_, hall⟩
  | some e =>
    have hend := (hall.updLine (f := fun x => { x with intake := { x.intake with staged := none } }) rfl).completeEntry stopEnding e
    rw [stopRequests_of_some (by rw [h.line, hstaged]), h.line]
    have hline : y.walked = Line.completed { y.completed (y.entries.filter (fun e => !y.outlivesWalk e)).length with
        entries := y.entries.filter y.outlivesWalk, intake := { y.intake with staged := none } } 1 := by
      simp [Line.walked, Line.completed, hstaged, BitVec.ofNat_add, BitVec.add_assoc]
    rw [Line.walkGone, hstaged, List.map_append, ← List.append_assoc, hline]
    rw [List.append_assoc ws] at hend
    exact ⟨_, hend⟩

/-! ## A line's blocks (R157, R176) -/

theorem Line.stopWake_fields (x : Line) : x.stopWake = { x with
    detector := if x.state = .rest ∨ x.state = .quiescing then .disarmed else x.detector
    wake := if x.state = .quiescing ∧ x.wake.phase = .quiesce then WakeSequence.fresh else x.wake } := by
  unfold Line.stopWake
  split
  · next h => simp [h]
  · next h =>
    by_cases hphase : x.wake.phase = .quiesce
    · simp [h, hphase]
    · simp [h, hphase]
  · next hrest hquiescing => rw [if_neg (by rintro (h | h); exacts [hrest h, hquiescing h]), if_neg (fun h => hquiescing h.1)]

/-- The line with the wake sequence, the order in flight and the collector's claim as a stop leaves them (R157, R177). -/
def Line.stopMarked (x : Line) : Line := { x.stopWake with job := x.job.map Job.marked, collector := { x.collector with claim := false } }

/-- What the entry to STOPPING writes for the engine of a line (R127). -/
structure Engine.StopWrites (g g' : Engine) (l : LineId) (s : State) (ws : List PortOp) : Prop where
  record : g.state ≠ .stopped → g'.state = .stopped → s.cycleRecordWrite l g' ∈ ws
  slots : g.due = dueSlots g.cycle 1 g.activeBank.slots →
    (g'.bank g.active).slots = (g.activeBank.ended g.cycle .skippedStop g.downSkips).slots ∧
      (g.activeBank.statusWrites g.cycle .skippedStop g.downSkips).Sublist ws

theorem stopLine_part (cycleFirst : Bool) (l : LineId) (s : State) : ∃ g ws,
    State.Part l s (stopLine cycleFirst l s) { (s.line l).stopMarked.walked with engine := g } []
      ((s.line l).stopMarked.walkGone.map (fun e => e.completion (s.line l).stopMarked stopEnding)) ws ∧
    (s.line l).stopMarked.engine.TakenDown g ∧ (s.line l).stopMarked.engine.StopWrites g l s ws := by
  have hmarked : State.Part l s (s.updLine l Line.stopMarked) (s.line l).stopMarked [] [] [] :=
    State.updLine_part (by rw [Line.stopMarked, Line.stopWake_fields])
  unfold stopLine
  dsimp only
  split
  · obtain ⟨g, vs, hengine, hdown, hrecord, hslots⟩ := stopEngine_part hmarked
    obtain ⟨us, hwalk⟩ := stopRequests_part hengine
    refine ⟨g, _, hwalk, hdown, fun h1 h2 => List.mem_append_left _ (hrecord h1 h2), fun hdue => ?_⟩
    exact ⟨(hslots hdue).1, (hslots hdue).2.trans (List.sublist_append_left _ _)⟩
  · obtain ⟨us, hwalk⟩ := stopRequests_part hmarked
    obtain ⟨g, vs, hengine, hdown, hrecord, hslots⟩ := stopEngine_part hwalk
    refine ⟨g, _, hengine, hdown, fun h1 h2 => List.mem_append_right _ (hrecord h1 h2), fun hdue => ?_⟩
    exact ⟨(hslots hdue).1, (hslots hdue).2.trans (List.sublist_append_right _ _)⟩

/-- Each line is stopped at one point of the entry to STOPPING; what stands before and behind it is the other line's (R176). -/
theorem beginStop_at (line1First cycleFirst : Bool) (s : State) (l : LineId) : ∃ a, a.line l = s.line l ∧ a.context = s.context ∧ s.port <+: a.port ∧
    ((beginStop line1First cycleFirst s).line l = (stopLine cycleFirst l a).line l) ∧
    (stopLine cycleFirst l a).port <+: (beginStop line1First cycleFirst s).port := by
  have hother (k : LineId) (u : State) : (stopLine cycleFirst k u).line k.other = u.line k.other := (stopLine_touches cycleFirst k u).other
  have hport (k : LineId) (u : State) : u.port <+: (stopLine cycleFirst k u).port := (stopLine_touches cycleFirst k u).port
  have hcontext (k : LineId) (u : State) : (stopLine cycleFirst k u).context = u.context := (stopLine_touches cycleFirst k u).context_eq
  unfold beginStop
  dsimp only
  split
  · cases l with
    | line0 => exact ⟨stopLine cycleFirst .line1 { s with run := .stopping }, hother .line1 _, hcontext .line1 _, hport .line1 { s with run := .stopping }, rfl, List.prefix_refl _⟩
    | line1 => exact ⟨{ s with run := .stopping }, rfl, rfl, List.prefix_refl _, hother .line0 _, hport .line0 _⟩
  · cases l with
    | line0 => exact ⟨{ s with run := .stopping }, rfl, rfl, List.prefix_refl _, hother .line1 _, hport .line1 _⟩
    | line1 => exact ⟨stopLine cycleFirst .line0 { s with run := .stopping }, hother .line0 _, hcontext .line0 _, hport .line0 { s with run := .stopping }, rfl, List.prefix_refl _⟩

theorem Line.stopMarked_fields (x : Line) : x.stopMarked = { x with
    detector := if x.state = .rest ∨ x.state = .quiescing then .disarmed else x.detector
    wake := if x.state = .quiescing ∧ x.wake.phase = .quiesce then WakeSequence.fresh else x.wake
    job := x.job.map Job.marked, collector := { x.collector with claim := false } } := by
  rw [Line.stopMarked, Line.stopWake_fields]

/-- The walk asks the wake sequence only. -/
theorem outlivesWalk_stopMarked (x : Line) : x.stopMarked.outlivesWalk = x.stopWake.outlivesWalk := rfl

theorem Line.walkGone_stopMarked (x : Line) :
    x.stopMarked.walkGone = x.entries.filter (fun e => !x.stopWake.outlivesWalk e) ++ x.intake.staged.toList := by
  rw [Line.walkGone, outlivesWalk_stopMarked, Line.stopMarked_fields]

/-- The line as the entry to STOPPING leaves it, but for its engine (R157, R176, R177). -/
theorem Line.walked_stopMarked (x : Line) : x.stopMarked.walked =
    { x.completed ((x.entries.filter (fun e => !x.stopWake.outlivesWalk e)).length + if x.intake.staged.isSome then 1 else 0) with
      entries := x.entries.filter x.stopWake.outlivesWalk, intake := { x.intake with staged := none }
      detector := if x.state = .rest ∨ x.state = .quiescing then .disarmed else x.detector
      wake := if x.state = .quiescing ∧ x.wake.phase = .quiesce then WakeSequence.fresh else x.wake
      job := x.job.map Job.marked, collector := { x.collector with claim := false } } := by
  rw [Line.walked, outlivesWalk_stopMarked, Line.stopMarked_fields]
  rfl

/-- What outlives the walk of a stop, by what the entry does and the wake sequence's phase before the stop (R157, R177). -/
theorem outlivesWalk_stopWake_iff (x : Line) (e : Entry) : x.stopWake.outlivesWalk e = true ↔
    (e.state = .inFlight .onLine ∧ e.body.isTraffic = true) ∨
      (e.state = .inFlight .quiescing ∧ (x.wake.phase = .quiet1 ∨ x.wake.phase = .quiet2)) ∨
      (e.state = .inFlight .waking ∧ x.wake.phase ≠ .none ∧ ¬(x.state = .quiescing ∧ x.wake.phase = .quiesce)) := by
  rw [Line.stopWake_fields]
  unfold Line.outlivesWalk
  dsimp only
  split
  · next h => simp [h]
  · next h =>
    by_cases hq : x.state = .quiescing ∧ x.wake.phase = .quiesce
    · simp [h, hq, WakeSequence.fresh]
    · rw [if_neg hq]
      simp [h]
  · next h =>
    by_cases hq : x.state = .quiescing ∧ x.wake.phase = .quiesce
    · simp [h, hq, WakeSequence.fresh]
    · rw [if_neg hq]
      simp [h, hq]
  · next h1 h2 h3 =>
    refine iff_of_false (by decide) ?_
    rintro (⟨h, -⟩ | ⟨h, -⟩ | ⟨h, -⟩)
    exacts [h1 h, h2 h, h3 h]

/-- Settles O24: each line is stopped at one point of the entry, and the parts of its engine and of its request engine are put together. -/
theorem entryToStoppingTakesTheBlocksDown : Obligations.EntryToStoppingTakesTheBlocksDown := by
  intro s line1First cycleFirst hrun
  obtain ⟨hstopping, -, hdrain⟩ := beginStop_fields line1First cycleFirst s
  have hexec : exec (.dctlEnableClear line1First cycleFirst) s = .next (beginStop line1First cycleFirst s) := by
    change execDctlEnableClear line1First cycleFirst s = _
    rw [execDctlEnableClear, hrun]
  refine ⟨_, hexec, hstopping, hdrain, fun l => ?_⟩
  obtain ⟨a, haline, hacontext, haport, hline, hport⟩ := beginStop_at line1First cycleFirst s l
  obtain ⟨g, ws, hpart, hdown, hwrites⟩ := stopLine_part cycleFirst l a
  rw [haline] at hpart hdown hwrites
  have hengine : (s.line l).stopMarked.engine = (s.line l).engine := by rw [Line.stopMarked, Line.stopWake_fields]
  rw [hengine] at hdown hwrites
  have hpartLine := hpart.line
  have hsplit : s.newWrites (beginStop line1First cycleFirst s) =
      s.newWrites a ++ ws ++ (stopLine cycleFirst l a).newWrites (beginStop line1First cycleFirst s) := by
    rw [State.newWrites_trans (haport.trans hpart.touches.port) hport, State.newWrites_trans haport hpart.touches.port, hpart.newWrites]
  have hwithin : ws.Sublist (s.newWrites (beginStop line1First cycleFirst s)) := by
    rw [hsplit]
    exact (List.sublist_append_right _ _).trans (List.sublist_append_left _ _)
  have hrecord : s.cycleRecordWrite l g = a.cycleRecordWrite l g := by
    rw [State.cycleRecordWrite, State.cycleRecordWrite, hacontext]
  rw [Line.walked_stopMarked] at hpartLine
  dsimp only
  rw [hline, hpartLine]
  refine ⟨rfl, rfl, rfl, rfl, rfl, rfl, rfl, rfl, fun hne hstopped => ?_, hdown.source, hdown.timer, hdown.pendingStart, ?_, ?_, rfl, rfl, rfl,
    outlivesWalk_stopWake_iff (s.line l), ?_, fun hdue => ⟨?_, ?_⟩, hdown.lastCompleted, hdown.active, hdown.ends⟩
  · have hmem := hwithin.subset (hwrites.record hne hstopped)
    rwa [← hrecord] at hmem
  · rw [hdown.inactiveBank]
    exact (BankState.atStop_calm _).1
  · rw [hdown.inactiveBank]
    exact (BankState.atStop_calm _).2
  · obtain ⟨hproducer, hcompletes⟩ := hpart.completes
    have hstations : (s.line l).stopMarked.stations = (s.line l).stations := by rw [Line.stopMarked_fields]
    simp only [Entry.completion_congr _ hstations, Line.walkGone_stopMarked, haline, State.completionWrites_congr hacontext, hpart.newWrites]
      at hproducer hcompletes
    refine ⟨?_, hcompletes.trans hwithin⟩
    rw [hline]
    exact hproducer
  · exact (hwrites.slots hdue).1
  · exact (hwrites.slots hdue).2.trans hwithin

end Sys2Proof.Machine
end

section
/-! PROOFS. The entry to FAULTED: the cut of the wire, the engine halted, the requests completed, the rotation moved (R126, R159 to R164). -/

set_option Elab.async false

namespace Sys2Proof.Machine

/-! ## The engine (R126) -/

/-- Whether an entry is the PARKED SWITCH of a bank that the engine switches to as the line enters FAULTED. -/
def Line.parks (x : Line) (e : Entry) : Bool :=
  x.engine.runs && decide (x.engine.inactiveBank.state = .committed) && decide (e.state = .parked)

/-- Whether an entry is a STOP that completes as the line enters FAULTED. -/
def Line.waitsStop (x : Line) (e : Entry) : Bool := x.engine.runs && x.engine.stopRequested && e.isDoing .stopWait

/-- What the engine completes as the line enters FAULTED, in its order (R126). -/
def Line.freed (x : Line) : List Entry := (x.entries.find? x.parks).toList ++ x.entries.filter x.waitsStop

/-- What the engine leaves in the list as the line enters FAULTED. -/
def Line.unfreed (x : Line) : List Entry := (x.entries.eraseP x.parks).filter (fun e => !x.waitsStop e)

theorem Line.state_of_parks {x : Line} {e : Entry} (h : x.parks e = true) : e.state = .parked := by
  simp only [Line.parks, Bool.and_eq_true, decide_eq_true_eq] at h
  exact h.2

theorem Line.not_waitsStop_of_parks {x : Line} {e : Entry} (h : x.parks e = true) : x.waitsStop e = false := by
  have hdoing := Entry.isDoing_of_parked (decide_eq_true (Line.state_of_parks h)) .stopWait
  simp [Line.waitsStop, hdoing]

theorem Line.unfreed_length (x : Line) : x.freed.length + x.unfreed.length = x.entries.length := by
  have herase := length_eraseP_add_find? x.parks x.entries
  have hfilter : (x.entries.eraseP x.parks).length = ((x.entries.eraseP x.parks).filter x.waitsStop).length +
      ((x.entries.eraseP x.parks).filter (fun e => !x.waitsStop e)).length := List.length_eq_length_filter_add _
  have hkept : ((x.entries.eraseP x.parks).filter x.waitsStop).length = (x.entries.filter x.waitsStop).length :=
    congrArg _ (filter_eraseP_of_disjoint (fun e => Line.not_waitsStop_of_parks) x.entries)
  rw [Line.freed, Line.unfreed, List.length_append]
  omega

theorem Line.mem_unfreed {x : Line} {e : Entry} (he : e ∈ x.entries) (hparked : e.state ≠ .parked) (hstop : e.isDoing .stopWait = false) :
    e ∈ x.unfreed := by
  have hnot : x.parks e = false := Bool.eq_false_iff.mpr fun h => hparked (Line.state_of_parks h)
  refine List.mem_filter.mpr ⟨(List.mem_eraseP_of_neg (by simp [hnot])).mpr he, ?_⟩
  simp [Line.waitsStop, hstop]

/-- What is left of the list once the PARKED SWITCH of a switch, if there is one, has completed. -/
theorem Line.switchedIf_entries (x : Line) :
    x.switchedIf.entries = if x.engine.inactiveBank.state = .committed then x.entries.eraseP (fun p => decide (p.state = .parked)) else x.entries := by
  rw [x.switchedIf_fields]

/-- The engine after a switch, if its inactive bank is COMMITTED. -/
def Engine.switchedIf (g : Engine) : Engine := if g.inactiveBank.state = .committed then g.switched else g

/-- A switch with an engine that keeps the inactive bank of the line's own. -/
theorem Line.switchedIf_of_engine {x : Line} {k : Engine} (h : k.inactiveBank = x.engine.inactiveBank) :
    ({ x with engine := k } : Line).switchedIf = { x.completed x.parkedIf.length with engine := k.switchedIf, entries := x.switchedIf.entries } := by
  rw [Line.switchedIf_fields, Line.switchedIf_entries, Line.parkedIf, Line.parkedIf, Engine.switchedIf]
  dsimp only
  rw [h]
  rfl

theorem Line.parkedIf_of_engine {x : Line} {k : Engine} (h : k.inactiveBank = x.engine.inactiveBank) :
    ({ x with engine := k } : Line).parkedIf = x.parkedIf := by
  rw [Line.parkedIf, Line.parkedIf, ← h]
  rfl

theorem Engine.switchEvents_congr {g k : Engine} (hinactive : k.inactiveBank = g.inactiveBank) (hcycle : k.cycle = g.cycle)
    (hactive : k.active = g.active) (l : LineId) : k.switchEvents l = g.switchEvents l := by
  rw [Engine.switchEvents, Engine.switchEvents, hinactive, hcycle, hactive]

theorem Line.completed_completed (x : Line) (m n : Nat) : (x.completed m).completed n = x.completed (m + n) := by
  simp only [Line.completed, BitVec.ofNat_add, BitVec.add_assoc]

theorem Line.find?_parks {x : Line} (h : x.engine.runs = true) : (x.entries.find? x.parks).toList = x.parkedIf := by
  by_cases hc : x.engine.inactiveBank.state = .committed
  · rw [Line.parkedIf, if_pos hc, Line.parkedSwitch, show x.parks = fun e => decide (e.state = .parked) from funext fun e => by simp [Line.parks, h, hc]]
  · rw [Line.parkedIf, if_neg hc, show x.parks = fun _ => false from funext fun e => by simp [Line.parks, hc]]
    simp

theorem Line.eraseP_parks {x : Line} (h : x.engine.runs = true) : x.entries.eraseP x.parks = x.switchedIf.entries := by
  rw [x.switchedIf_entries]
  by_cases hc : x.engine.inactiveBank.state = .committed
  · rw [if_pos hc, show x.parks = fun e => decide (e.state = .parked) from funext fun e => by simp [Line.parks, h, hc]]
  · rw [if_neg hc, show x.parks = fun _ => false from funext fun e => by simp [Line.parks, hc]]
    exact List.eraseP_of_forall_not (by simp)

theorem Line.filter_waitsStop_of_stops {x : Line} (h : x.engine.runs = true) (hs : x.engine.stopRequested = true) :
    x.waitsStop = fun e => e.isDoing .stopWait := funext fun e => by simp [Line.waitsStop, h, hs]

theorem Line.waitsStop_of_halts {x : Line} (hs : x.engine.stopRequested = false) : x.waitsStop = fun _ => false :=
  funext fun e => by simp [Line.waitsStop, hs]

/-- What the entry to FAULTED leaves of an engine that ran, whose active bank was then `b` (R126). -/
structure Engine.Halts (g g' : Engine) (b : Bank) : Prop where
  halted : g.stopRequested = false → g'.state = .halted
  stopped : g.stopRequested = true → g'.state = .stopped
  active : g'.active = if g.inactiveBank.state = .committed then g.active.other else g.active
  lastCompleted : g'.lastCompleted = g.lastCompleted
  slots : (g'.bank g.active).slots = b.slots

/-- The CYCLE_HALTED of the entry to FAULTED, if there is one (R126). -/
def Engine.haltEvents (g : Engine) (l : LineId) : List Event :=
  if g.runs && !g.stopRequested then [.cycleHalted l g.cycle (if g.state = .inCycle then g.remaining else []).length] else []

/-- The slots that end SKIPPED_FAULT (R126). -/
def Engine.faultSkips (g : Engine) : List Nat :=
  if g.state = .inCycle then (if g.stopRequested then g.remaining.take 1 else g.remaining) else []

theorem Engine.nodup_faultSkips {g : Engine} (h : g.due = dueSlots g.cycle 1 g.activeBank.slots) : g.faultSkips.Nodup := by
  have hall := Engine.nodup_remaining h
  unfold Engine.faultSkips
  split
  · split
    · exact hall.sublist (List.take_sublist _ _)
    · exact hall
  · exact .nil

theorem Engine.halts_of_switched {g k : Engine} {b : Bank} (hactive : k.active = g.active) (hinactive : k.inactiveBank = g.inactiveBank)
    (hslots : k.activeBank.slots = b.slots) (hlast : k.lastCompleted = g.lastCompleted) (hhalted : g.stopRequested = false → k.state = .halted)
    (hstopped : g.stopRequested = true → k.state = .stopped) : g.Halts k.switchedIf b := by
  rw [Engine.switchedIf, hinactive]
  by_cases hc : g.inactiveBank.state = .committed
  · rw [if_pos hc]
    refine ⟨fun h => k.switched_state.trans (hhalted h), fun h => k.switched_state.trans (hstopped h), ?_, k.switched_lastCompleted.trans hlast, ?_⟩
    · rw [if_pos hc, k.switched_active, hactive]
    · rw [← hactive, k.switched_bank_old]
      exact hslots
  · rw [if_neg hc]
    refine ⟨hhalted, hstopped, ?_, hlast, ?_⟩
    · rw [if_neg hc, hactive]
    · rw [← hactive]
      exact hslots

section
variable {l : LineId} {s t : State} {y : Line} {k : Engine} {es : List Event} {cs : List Completion} {ws : List PortOp}

/-- An engine that only its active bank tells from the line's own becomes STOPPED (R125). -/
theorem State.Part.becomeStopped_of_engine (h : State.Part l s t { y with engine := k } es cs ws) (hinactive : k.inactiveBank = y.engine.inactiveBank)
    (hcycle : k.cycle = y.engine.cycle) (hactive : k.active = y.engine.active) : ∃ vs,
      State.Part l s (Machine.becomeStopped l t) { y.completed (y.parkedIf.length + y.waitingStops.length) with
          engine := k.halt.switchedIf, entries := y.switchedIf.entries.filter (fun e => !e.isDoing .stopWait) }
        (es ++ y.engine.switchEvents l) (cs ++ (y.doneOk y.parkedIf ++ y.doneOk y.waitingStops)) (ws ++ vs) := by
  obtain ⟨_, hend, ⟨rest, rfl⟩, -⟩ := h.becomeStopped
  have hline : ({ y with engine := k } : Line).halted =
      { y.completed y.parkedIf.length with engine := k.halt.switchedIf, entries := y.switchedIf.entries } :=
    Line.switchedIf_of_engine (k := k.halt) hinactive
  have hstops : ({ y with engine := k } : Line).waitingStops = y.waitingStops := rfl
  have hevents : ({ y with engine := k } : Line).engine.switchEvents l = y.engine.switchEvents l := Engine.switchEvents_congr hinactive hcycle hactive l
  rw [Line.halted_waitingStops, hline, Line.parkedIf_of_engine hinactive, hstops, hevents, List.append_assoc cs] at hend
  refine ⟨rest, ?_⟩
  rw [← Line.completed_completed]
  exact hend

/-- An engine that only its active bank tells from the line's own switches (R124). -/
theorem State.Part.switchIfCommitted_of_engine (h : State.Part l s t { y with engine := k } es cs ws)
    (hinactive : k.inactiveBank = y.engine.inactiveBank) (hcycle : k.cycle = y.engine.cycle) (hactive : k.active = y.engine.active) : ∃ vs,
      State.Part l s (Machine.switchIfCommitted l t) { y.completed y.parkedIf.length with
          engine := k.switchedIf, entries := y.switchedIf.entries } (es ++ y.engine.switchEvents l) (cs ++ y.doneOk y.parkedIf) (ws ++ vs) := by
  have hend := h.switchIfCommitted
  have hevents : ({ y with engine := k } : Line).engine.switchEvents l = y.engine.switchEvents l := Engine.switchEvents_congr hinactive hcycle hactive l
  rw [Line.switchedIf_of_engine hinactive, Line.parkedIf_of_engine hinactive, hevents] at hend
  exact ⟨_, hend⟩

end

/-- The events of an engine that switches and halts as its line enters FAULTED, in their order (R126). -/
def Engine.faultEvents (g : Engine) (l : LineId) : List Event := (if g.runs then g.switchEvents l else []) ++ g.haltEvents l

/-- What the entry to FAULTED makes of an engine and writes for it (R126). -/
structure Engine.HaltsOnLine (g g' : Engine) (ws : List PortOp) : Prop where
  same : g.runs = false → g' = g
  halted : g.runs = true → g.stopRequested = false → g'.state = .halted
  stopped : g.runs = true → g.stopRequested = true → g'.state = .stopped
  slots : g.runs = true → g.due = dueSlots g.cycle 1 g.activeBank.slots → (g.stopRequested = true → g.state = .inCycle) →
    (g'.bank g.active).slots = (g.activeBank.ended g.cycle .skippedFault g.faultSkips).slots ∧
      (g.activeBank.statusWrites g.cycle .skippedFault g.faultSkips).Sublist ws ∧
      g'.active = (if g.inactiveBank.state = .committed then g.active.other else g.active) ∧ g'.lastCompleted = g.lastCompleted

theorem Engine.HaltsOnLine.mono {g g' : Engine} {ws vs : List PortOp} (h : g.HaltsOnLine g' ws) (hsub : ws.Sublist vs) : g.HaltsOnLine g' vs where
  same := h.same
  halted := h.halted
  stopped := h.stopped
  slots := fun hruns hdue hstop => by
    obtain ⟨hslots, hwrites, hactive, hlast⟩ := h.slots hruns hdue hstop
    exact ⟨hslots, hwrites.trans hsub, hactive, hlast⟩

theorem Engine.Halts.onLine {g g' : Engine} {b : Bank} {ns : List Nat} {ws : List PortOp} (h : g.Halts g' b) (hruns : g.runs = true)
    (hexact : ns.Nodup → b = g.activeBank.ended g.cycle .skippedFault ns ∧ (g.activeBank.statusWrites g.cycle .skippedFault ns).Sublist ws)
    (hskips : (g.stopRequested = true → g.state = .inCycle) → ns = g.faultSkips) : g.HaltsOnLine g' ws where
  same := fun hno => absurd (hruns.symm.trans hno) (by decide)
  halted := fun _ => h.halted
  stopped := fun _ => h.stopped
  slots := fun _ hdue hstop => by
    obtain rfl := hskips hstop
    obtain ⟨rfl, hwrites⟩ := hexact (Engine.nodup_faultSkips hdue)
    exact ⟨h.slots, hwrites, h.active, h.lastCompleted⟩

theorem haltEngine_part_of_stops {l : LineId} {s t : State} {y : Line} {es : List Event} {cs : List Completion} {ws : List PortOp}
    (h : State.Part l s t y es cs ws) (hruns : y.engine.runs = true) (hstop : y.engine.stopRequested = true) : ∃ g b vs,
      State.Part l s (haltEngine l t) { y.completed y.freed.length with engine := g, entries := y.unfreed } (es ++ y.engine.faultEvents l)
        (cs ++ y.doneOk y.freed) (ws ++ vs) ∧ y.engine.Halts g b ∧ ((y.engine.remaining.take 1).Nodup →
          b = y.engine.activeBank.ended y.engine.cycle .skippedFault (y.engine.remaining.take 1) ∧
          (y.engine.activeBank.statusWrites y.engine.cycle .skippedFault (y.engine.remaining.take 1)).Sublist vs) := by
  have hhalt : haltEngine l t = becomeStopped l (passSlot l (recordSlots l .skippedFault (y.engine.remaining.take 1) t)) := by
    rw [haltEngine, h.line, if_neg (by simp [hruns]), if_pos hstop]
  obtain ⟨b, us, hpart, -, hexact⟩ := h.recordSlots_any .skippedFault (y.engine.remaining.take 1)
  have hinactive := y.engine.inactiveBank_setBank_active b
  obtain ⟨vs, hend⟩ := State.Part.becomeStopped_of_engine (y := y) hpart.passSlot hinactive (Engine.setBank_cycle _ _ _) (Engine.setBank_active _ _ _)
  have hfreed : y.freed = y.parkedIf ++ y.waitingStops := by
    rw [Line.freed, Line.find?_parks hruns, Line.filter_waitsStop_of_stops hruns hstop, Line.waitingStops]
  have hkept : y.unfreed = y.switchedIf.entries.filter (fun e => !e.isDoing .stopWait) := by
    rw [Line.unfreed, Line.eraseP_parks hruns, Line.filter_waitsStop_of_stops hruns hstop]
  have hevents : y.engine.faultEvents l = y.engine.switchEvents l := by
    simp [Engine.faultEvents, Engine.haltEvents, hruns, hstop]
  have hdone : y.doneOk y.freed = y.doneOk y.parkedIf ++ y.doneOk y.waitingStops := by
    rw [hfreed, Line.doneOk, List.map_append]
    rfl
  rw [hhalt, hdone, hfreed, List.length_append, hkept, hevents]
  rw [List.append_assoc] at hend
  refine ⟨_, b, us ++ vs, hend, ?_, fun hn => ?_⟩
  · exact Engine.halts_of_switched (Engine.setBank_active _ _ _) hinactive (congrArg _ (y.engine.activeBank_setBank_active b))
      (Engine.setBank_lastCompleted _ _ _) (fun h => absurd (h.symm.trans hstop) (by decide)) fun _ => rfl
  · obtain ⟨rfl, rfl⟩ := hexact hn
    exact ⟨rfl, List.sublist_append_left _ _⟩

theorem haltEngine_part_of_halts {l : LineId} {s t : State} {y : Line} {es : List Event} {cs : List Completion} {ws : List PortOp}
    (h : State.Part l s t y es cs ws) (hruns : y.engine.runs = true) (hstop : y.engine.stopRequested = false) : ∃ g b vs,
      State.Part l s (haltEngine l t) { y.completed y.freed.length with engine := g, entries := y.unfreed } (es ++ y.engine.faultEvents l)
        (cs ++ y.doneOk y.freed) (ws ++ vs) ∧ y.engine.Halts g b ∧ (y.engine.faultSkips.Nodup →
          b = y.engine.activeBank.ended y.engine.cycle .skippedFault y.engine.faultSkips ∧
          (y.engine.activeBank.statusWrites y.engine.cycle .skippedFault y.engine.faultSkips).Sublist vs) := by
  have hskips : (if y.engine.state = .inCycle then y.engine.remaining else []) = y.engine.faultSkips := by
    rw [Engine.faultSkips, hstop]
    rfl
  have hhalt : haltEngine l t = writeCycleRecord l (raiseEvent (.cycleHalted l y.engine.cycle y.engine.faultSkips.length) (switchIfCommitted l
      (updEngine l (fun e => { e.clearStart with state := .halted, stage := .idle }) (recordSlots l .skippedFault y.engine.faultSkips t)))) := by
    rw [haltEngine, h.line, if_neg (by simp [hruns]), if_neg (by simp [hstop]), hskips]
  obtain ⟨b, us, hpart, -, hexact⟩ := h.recordSlots_any .skippedFault y.engine.faultSkips
  have hinactive := y.engine.inactiveBank_setBank_active b
  obtain ⟨vs, hswitched⟩ := State.Part.switchIfCommitted_of_engine (y := y)
    (hpart.updEngine (fun e => { e.clearStart with state := .halted, stage := .idle })) hinactive (Engine.setBank_cycle _ _ _) (Engine.setBank_active _ _ _)
  have hend := (hswitched.raiseEvent (.cycleHalted l y.engine.cycle y.engine.faultSkips.length)).writeCycleRecord
  have hfreed : y.freed = y.parkedIf := by
    rw [Line.freed, Line.find?_parks hruns, Line.waitsStop_of_halts hstop]
    simp
  have hkept : y.unfreed = y.switchedIf.entries := by
    rw [Line.unfreed, Line.eraseP_parks hruns, Line.waitsStop_of_halts hstop]
    simp
  have hevents : y.engine.faultEvents l = y.engine.switchEvents l ++ [.cycleHalted l y.engine.cycle y.engine.faultSkips.length] := by
    simp [Engine.faultEvents, Engine.haltEvents, hruns, hstop, hskips]
  rw [hhalt, hfreed, hkept, hevents]
  simp only [List.append_assoc] at hend
  refine ⟨_, b, _, hend, ?_, fun hn => ?_⟩
  · exact Engine.halts_of_switched (Engine.setBank_active _ _ _) hinactive (congrArg _ (y.engine.activeBank_setBank_active b))
      (Engine.setBank_lastCompleted _ _ _) (fun _ => rfl) (fun h => absurd (hstop.symm.trans h) (by decide))
  · obtain ⟨rfl, rfl⟩ := hexact hn
    exact ⟨rfl, List.sublist_append_left _ _⟩

theorem haltEngine_part {l : LineId} {s t : State} {y : Line} {es : List Event} {cs : List Completion} {ws : List PortOp}
    (h : State.Part l s t y es cs ws) : ∃ g vs,
      State.Part l s (haltEngine l t) { y.completed y.freed.length with engine := g, entries := y.unfreed } (es ++ y.engine.faultEvents l)
        (cs ++ y.doneOk y.freed) (ws ++ vs) ∧ y.engine.HaltsOnLine g vs := by
  cases hruns : y.engine.runs with
  | false =>
    have hfreed : y.freed = [] := by simp [Line.freed, Line.parks, Line.waitsStop, hruns]
    have hkept : y.unfreed = y.entries := by
      have hparks : y.parks = fun _ => false := funext fun e => by simp [Line.parks, hruns]
      simp [Line.unfreed, Line.waitsStop, hruns, hparks]
    have hevents : y.engine.faultEvents l = [] := by simp [Engine.faultEvents, Engine.haltEvents, hruns]
    have hhalt : haltEngine l t = t := by rw [haltEngine, h.line, if_pos (by simp [hruns])]
    refine ⟨y.engine, [], ?_, fun _ => rfl, fun hyes => ?_, fun hyes => ?_, fun hyes => ?_⟩
    · rw [hhalt, hfreed, hkept, hevents, List.length_nil, Line.completed_zero, Line.doneOk, List.map_nil, List.append_nil, List.append_nil, List.append_nil]
      exact h
    all_goals exact absurd (hruns.symm.trans hyes) (by decide)
  | true =>
    cases hstop : y.engine.stopRequested with
    | true =>
      obtain ⟨g, b, vs, hpart, hhalts, hexact⟩ := haltEngine_part_of_stops h hruns hstop
      exact ⟨g, vs, hpart, hhalts.onLine hruns hexact fun hcycle => by rw [Engine.faultSkips, if_pos (hcycle hstop), if_pos hstop]⟩
    | false =>
      obtain ⟨g, b, vs, hpart, hhalts, hexact⟩ := haltEngine_part_of_halts h hruns hstop
      exact ⟨g, vs, hpart, hhalts.onLine hruns hexact fun _ => rfl⟩

/-! ## The requests and the collector (R163, R164) -/

/-- An entry with what the order cut on the wire adds to it. -/
def Entry.cutBy (cut : Option Job) (e : Entry) : Entry := if e.isDoing .onLine then e.addCut cut else e

@[simp] theorem Entry.cutBy_body (cut : Option Job) (e : Entry) : (e.cutBy cut).body = e.body := by
  unfold Entry.cutBy Entry.addCut Entry.addAttempts
  repeat' split
  all_goals rfl

@[simp] theorem Entry.cutBy_state (cut : Option Job) (e : Entry) : (e.cutBy cut).state = e.state := by
  unfold Entry.cutBy Entry.addCut Entry.addAttempts
  repeat' split
  all_goals rfl

@[simp] theorem Entry.cutBy_abortMark (cut : Option Job) (e : Entry) : (e.cutBy cut).abortMark = e.abortMark := by
  unfold Entry.cutBy Entry.addCut Entry.addAttempts
  repeat' split
  all_goals rfl

theorem Entry.cutBy_of_not_onLine (cut : Option Job) {e : Entry} (h : e.isDoing .onLine = false) : e.cutBy cut = e := by
  rw [Entry.cutBy, h]
  rfl

/-- A list whose entries changed, seen through a test that the change does not touch and that holds only where nothing changed. -/
theorem find?_map_of_fixed {α : Type} {p : α → Bool} {f : α → α} (hp : ∀ a, p (f a) = p a) (hf : ∀ a, p a = true → f a = a) (xs : List α) :
    (xs.map f).find? p = xs.find? p := by
  rw [List.find?_map, show p ∘ f = p from funext hp]
  cases h : xs.find? p with
  | none => rfl
  | some a => exact congrArg some (hf a (List.find?_some h))

theorem filter_map_of_fixed {α : Type} {p : α → Bool} {f : α → α} (hp : ∀ a, p (f a) = p a) (hf : ∀ a, p a = true → f a = a) (xs : List α) :
    (xs.map f).filter p = xs.filter p := by
  rw [List.filter_map, show p ∘ f = p from funext hp]
  exact (List.map_congr_left fun a ha => hf a (List.mem_filter.mp ha).2).trans (List.map_id _)

theorem faultRequests_part {l : LineId} {s t : State} {y : Line} {es : List Event} {cs : List Completion} {ws : List PortOp}
    (h : State.Part l s t y es cs ws) (cut : Option Job) : ∃ vs, State.Part l s (faultRequests l cut t)
      { y.completed (y.entries.filter (fun e => e.body.endsOnFault)).length with
        entries := (y.entries.filter (fun e => !e.body.endsOnFault)).map (Entry.cutBy cut) } es
      (cs ++ (y.entries.filter (fun e => e.body.endsOnFault)).map (fun e => (e.cutBy cut).completion y (faultEnding s e))) (ws ++ vs) := by
  have hcut := h.updLine (f := fun x => { x with entries := x.entries.map (Entry.cutBy cut) }) rfl
  have hend := hcut.finishAll (fun e => e.body.endsOnFault) (faultEnding s)
  have hending : faultEnding (t.updLine l (fun x => { x with entries := x.entries.map (Entry.cutBy cut) })) = faultEnding s := by
    funext e
    rw [faultEnding, faultEnding, State.updLine_run, h.touches.run_eq]
  have hfault : faultRequests l cut t = finishAll l (fun e => e.body.endsOnFault) (faultEnding s)
      (t.updLine l (fun x => { x with entries := x.entries.map (Entry.cutBy cut) })) := by
    rw [← hending]
    rfl
  have hmarked (e : Entry) : faultEnding s (e.cutBy cut) = faultEnding s e := by
    rw [faultEnding, faultEnding, Entry.cutBy_abortMark]
  have hends : (fun e : Entry => e.body.endsOnFault) ∘ Entry.cutBy cut = fun e => e.body.endsOnFault := funext fun e => by simp
  have hstays : (fun e : Entry => !e.body.endsOnFault) ∘ Entry.cutBy cut = fun e => !e.body.endsOnFault := funext fun e => by simp
  rw [hfault]
  simp only [List.filter_map, List.map_map, List.length_map, hends, hstays, Function.comp_def, hmarked] at hend
  exact ⟨_, hend⟩

/-- The rotation pointer moves past the station of a FETCH that is cut (R139, R164). -/
def Collector.passCut (c : Collector) (cut : Option Job) : Collector :=
  match cut with
  | some ⟨.exchange x, _⟩ => if x.claimant = .collector then { c with rotation := if x.station = 62 then 1 else x.station + 1 } else c
  | _ => c

theorem faultCollector_part {l : LineId} {s t : State} {y : Line} {es : List Event} {cs : List Completion} {ws : List PortOp}
    (h : State.Part l s t y es cs ws) (cut : Option Job) :
    State.Part l s (faultCollector l cut t) { y with collector := y.collector.passCut cut } es cs ws := by
  unfold faultCollector Collector.passCut
  obtain _ | ⟨kind, stage⟩ := cut
  · exact h
  · cases kind with
    | exchange x =>
      dsimp only
      split
      · exact h.updLine rfl
      · exact h
    | data d => exact h
    | quiet => exact h
    | wack a => exact h
    | tone n => exact h

/-! ## The engine and the requests, in either order (log entry 7) -/

/-- What of a list the request engine completes as the line enters FAULTED (R163). -/
def State.faultDone (s : State) (x : Line) (cut : Option Job) (es : List Entry) : List Completion :=
  (es.filter (fun e => e.body.endsOnFault)).map (fun e => (e.cutBy cut).completion x (faultEnding s e))

/-- What the engine completes when the list is this one. -/
def Line.freedDone (x : Line) (es : List Entry) : List Completion := x.doneOk ({ x with entries := es } : Line).freed

/-- What the list of a line is after its entry to FAULTED, when `n` entries have left it (R163). -/
structure Line.KeptOnFault (x : Line) (es : List Entry) (n : Nat) : Prop where
  stays : ∀ e ∈ es, e.body.endsOnFault = false
  length : n + es.length = x.entries.length
  keeps : ∀ e ∈ x.entries, e.body.endsOnFault = false → e.state ≠ .parked → e.isDoing .stopWait = false → e.isDoing .onLine = false → e ∈ es

theorem Entry.mem_map_cutBy (cut : Option Job) {e : Entry} {es : List Entry} (he : e ∈ es) (h : e.isDoing .onLine = false) :
    e ∈ es.map (Entry.cutBy cut) := List.mem_map.mpr ⟨e, he, e.cutBy_of_not_onLine cut h⟩

theorem Line.keptOnFault_of_cycleFirst (x : Line) (cut : Option Job) :
    x.KeptOnFault ((x.unfreed.filter (fun e => !e.body.endsOnFault)).map (Entry.cutBy cut))
      (x.freed.length + (x.unfreed.filter (fun e => e.body.endsOnFault)).length) where
  stays := fun e he => by
    obtain ⟨a, ha, rfl⟩ := List.mem_map.mp he
    simpa using (List.mem_filter.mp ha).2
  length := by
    have hfreed := x.unfreed_length
    have hends : x.unfreed.length = (x.unfreed.filter (fun e => e.body.endsOnFault)).length + (x.unfreed.filter (fun e => !e.body.endsOnFault)).length :=
      List.length_eq_length_filter_add _
    rw [List.length_map]
    omega
  keeps := fun e he hbody hparked hstop hline =>
    Entry.mem_map_cutBy cut (List.mem_filter.mpr ⟨Line.mem_unfreed he hparked hstop, by simp [hbody]⟩) hline

theorem Line.keptOnFault_of_requestsFirst (x : Line) (cut : Option Job) :
    let y : Line := { x with entries := (x.entries.filter (fun e => !e.body.endsOnFault)).map (Entry.cutBy cut) }
    x.KeptOnFault y.unfreed ((x.entries.filter (fun e => e.body.endsOnFault)).length + y.freed.length) where
  stays := fun e he => by
    obtain ⟨a, ha, rfl⟩ := List.mem_map.mp (List.mem_of_mem_eraseP (List.mem_filter.mp he).1)
    simpa using (List.mem_filter.mp ha).2
  length := by
    have hfreed := ({ x with entries := (x.entries.filter (fun e => !e.body.endsOnFault)).map (Entry.cutBy cut) } : Line).unfreed_length
    have hends : x.entries.length = (x.entries.filter (fun e => e.body.endsOnFault)).length + (x.entries.filter (fun e => !e.body.endsOnFault)).length :=
      List.length_eq_length_filter_add _
    rw [List.length_map] at hfreed
    omega
  keeps := fun e he hbody hparked hstop hline =>
    Line.mem_unfreed (Entry.mem_map_cutBy cut (List.mem_filter.mpr ⟨he, by simp [hbody]⟩) hline) hparked hstop

theorem Line.freed_map_cutBy (x : Line) (cut : Option Job) (es : List Entry) :
    ({ x with entries := es.map (Entry.cutBy cut) } : Line).freed = ({ x with entries := es } : Line).freed := by
  have hparks (e : Entry) : x.parks (e.cutBy cut) = x.parks e := by simp [Line.parks]
  have hwaits (e : Entry) : x.waitsStop (e.cutBy cut) = x.waitsStop e := by simp [Line.waitsStop, Entry.isDoing]
  have hparked (e : Entry) (h : x.parks e = true) : e.cutBy cut = e :=
    e.cutBy_of_not_onLine cut (Entry.isDoing_of_parked (decide_eq_true (Line.state_of_parks h)) _)
  have hwaiting (e : Entry) (h : x.waitsStop e = true) : e.cutBy cut = e := by
    simp only [Line.waitsStop, Entry.isDoing, Bool.and_eq_true, decide_eq_true_eq] at h
    exact e.cutBy_of_not_onLine cut (by simp [Entry.isDoing, h.2])
  change ((es.map (Entry.cutBy cut)).find? x.parks).toList ++ (es.map (Entry.cutBy cut)).filter x.waitsStop = _
  rw [find?_map_of_fixed hparks hparked, filter_map_of_fixed hwaits hwaiting]
  rfl

/-- What the engine and the request engine do as the line enters FAULTED, in the order that the command says. -/
def faultWork (l : LineId) (cut : Option Job) (cycleFirst : Bool) (s : State) : State :=
  if cycleFirst then faultRequests l cut (haltEngine l s) else haltEngine l (faultRequests l cut s)

theorem faultWork_part {l : LineId} {s t : State} {y : Line} {es : List Event} {cs : List Completion} {ws : List PortOp}
    (h : State.Part l s t y es cs ws) (cut : Option Job) (cycleFirst : Bool) : ∃ g kept n vs,
      State.Part l s (faultWork l cut cycleFirst t) { y.completed n with engine := g, entries := kept } (es ++ y.engine.faultEvents l)
        (cs ++ if cycleFirst then y.freedDone y.entries ++ s.faultDone y cut y.unfreed
          else s.faultDone y cut y.entries ++ y.freedDone (y.entries.filter (fun e => !e.body.endsOnFault))) (ws ++ vs) ∧
      y.engine.HaltsOnLine g vs ∧ y.KeptOnFault kept n := by
  unfold faultWork
  cases cycleFirst with
  | true =>
    obtain ⟨g, vs, hengine, hhalts⟩ := haltEngine_part h
    obtain ⟨us, hend⟩ := faultRequests_part hengine cut
    refine ⟨g, _, _, vs ++ us, ?_, hhalts.mono (List.sublist_append_left _ _), y.keptOnFault_of_cycleFirst cut⟩
    rw [if_pos rfl, if_pos rfl, ← List.append_assoc, ← List.append_assoc, ← Line.completed_completed]
    exact hend
  | false =>
    obtain ⟨us, hrequests⟩ := faultRequests_part h cut
    obtain ⟨g, vs, hend, hhalts⟩ := haltEngine_part hrequests
    refine ⟨g, _, _, us ++ vs, ?_, hhalts.mono (List.sublist_append_right _ _), y.keptOnFault_of_requestsFirst cut⟩
    rw [if_neg Bool.false_ne_true, if_neg Bool.false_ne_true, ← List.append_assoc, ← List.append_assoc, ← Line.completed_completed, Line.freedDone,
      ← Line.freed_map_cutBy y cut (y.entries.filter (fun e => !e.body.endsOnFault))]
    exact hend

/-! ## The entry (R162) -/

/-- The line as it is cut, counted and FAULTED, before its engine and its requests act (R162). -/
def Line.cut (x : Line) : Line :=
  { x.cutForFault with state := .faulted, counters := { x.counters with faultsEntered := x.counters.faultsEntered + 1 } }

/-- The state in which the engine and the requests of the line act (R162). -/
def cutState (l : LineId) (reason : LineReason) (s : State) : State :=
  raiseEvent (.lineState l (s.line l).state .faulted reason) (writeCounters l (s.updLine l Line.cut))

theorem enterFaulted_eq (l : LineId) (reason : LineReason) (cycleFirst : Bool) (s : State) : enterFaulted l reason cycleFirst s =
    faultCollector l (s.line l).job (faultWork l (s.line l).job cycleFirst (cutState l reason s)) := rfl

theorem writeCounters_part (l : LineId) (s : State) : State.Part l s (writeCounters l s) (s.line l) [] []
    [.write (s.context.indexPage + BitVec.ofNat 64 (counterBlockOffset l)) (s.line l).counters.octets] := hostWrite_part l _ _ s

theorem cutState_part {l : LineId} {s t : State} {y : Line} {es : List Event} {cs : List Completion} {ws : List PortOp}
    (h : State.Part l s t y es cs ws) (reason : LineReason) :
    ∃ vs, State.Part l s (cutState l reason t) y.cut (es ++ [.lineState l y.state .faulted reason]) cs (ws ++ vs) := by
  have hcut := h.updLine (f := Line.cut) rfl
  have hcounted := hcut.trans (writeCounters_part l _)
  rw [hcut.line, List.append_nil, List.append_nil] at hcounted
  have hend := hcounted.raiseEvent (.lineState l y.state .faulted reason)
  have hstate : cutState l reason t = raiseEvent (.lineState l y.state .faulted reason) (writeCounters l (t.updLine l Line.cut)) := by
    rw [cutState, h.line]
  rw [List.append_assoc] at hend
  rw [hstate]
  exact ⟨_, hend⟩

/-- The counter block is the first write of the entry (R162, R168). -/
theorem enterFaulted_port (l : LineId) (reason : LineReason) (cycleFirst : Bool) (s : State) :
    (s.port ++ [.write (s.context.indexPage + BitVec.ofNat 64 (counterBlockOffset l)) (s.line l).cut.counters.octets]) <+:
      (enterFaulted l reason cycleFirst s).port := by
  obtain ⟨_, _, _, _, hwork, -⟩ := faultWork_part (.refl l (cutState l reason s)) (s.line l).job cycleFirst
  have hend := faultCollector_part hwork (s.line l).job
  have hblock : (writeCounters l (s.updLine l Line.cut)).port =
      s.port ++ [.write (s.context.indexPage + BitVec.ofNat 64 (counterBlockOffset l)) (s.line l).cut.counters.octets] := by
    simp [writeCounters, State.indexWrite, addrPlus]
  rw [← hblock, enterFaulted_eq]
  exact (raiseEvent_reports _ _).port.trans hend.touches.port

/-- The entry to FAULTED, in one piece (R126, R162 to R164). -/
theorem enterFaulted_part {l : LineId} {s t : State} {y : Line} {ws : List PortOp}
    (h : State.Part l s t y [] [] ws) (reason : LineReason) (cycleFirst : Bool) : ∃ g kept n vs,
      State.Part l s (enterFaulted l reason cycleFirst t)
        { y.cut.completed n with engine := g, entries := kept, collector := y.collector.passCut y.job }
        ([.lineState l y.state .faulted reason] ++ y.engine.faultEvents l)
        (if cycleFirst then y.freedDone y.entries ++ s.faultDone y y.job y.unfreed
          else s.faultDone y y.job y.entries ++ y.freedDone (y.entries.filter (fun e => !e.body.endsOnFault))) vs ∧
      y.engine.HaltsOnLine g vs ∧ y.KeptOnFault kept n := by
  obtain ⟨us, hcut⟩ := cutState_part h reason
  obtain ⟨g, kept, n, vs, hwork, hhalts, hkept⟩ := faultWork_part hcut y.job cycleFirst
  have hend := faultCollector_part hwork y.job
  rw [enterFaulted_eq, h.line]
  refine ⟨g, kept, n, _, hend, hhalts.mono (List.sublist_append_right _ _), hkept.stays, hkept.length, hkept.keeps⟩

theorem Body.endsOnFault_eq (b : Body) : b.endsOnFault = (b.isTraffic || decide (b = .rest) || decide (b = .wake)) := by
  cases b <;> simp [Body.endsOnFault, Body.isTraffic]

theorem Body.endsOnFault_eq_false_iff (b : Body) : b.endsOnFault = false ↔ b.isTraffic = false ∧ b ≠ .rest ∧ b ≠ .wake := by
  rw [b.endsOnFault_eq]
  simp [and_assoc]

/-- Settles O51: the three causes enter FAULTED with the line as it was, but for the counts of a collision. -/
theorem entryToFaultedCutsTheLine : Obligations.EntryToFaultedCutsTheLine := by
  intro l cycleFirst s y entered
  have hentered (a : State) (counted : Counters) (n : Nat) (why : LineReason)
      (ha : State.Part l s a { y with counters := counted, consecutiveCollisions := n } [] [] []) (hport : a.port = s.port) :
      entered (enterFaulted l why cycleFirst a) counted why ∧ ((enterFaulted l why cycleFirst a).line l).consecutiveCollisions = n := by
    obtain ⟨g, kept, m, vs, hpart, hhalts, hkept⟩ := enterFaulted_part ha why cycleFirst
    have hblock := enterFaulted_port l why cycleFirst a
    rw [hport, ha.line, ha.context] at hblock
    have hcompletes := hpart.completes
    have hraises := hpart.raises
    have hlength : m = y.entries.length - kept.length := by have := hkept.length; dsimp only at this; omega
    dsimp -zeta only [entered]
    rw [hpart.line]
    refine ⟨⟨rfl, rfl, rfl, rfl, rfl, rfl, rfl, rfl, rfl, fun e he => ?_, ?_, ?_, fun e he htraffic hrest hwake hparked hstop hline => ?_,
      fun hruns hno => hhalts.halted hruns hno, fun hruns hyes => hhalts.stopped hruns hyes, fun hno => hhalts.same hno, hblock, ?_, ?_, ?_, ?_⟩, rfl⟩
    · exact e.body.endsOnFault_eq_false_iff.mp (hkept.stays e he)
    · exact Nat.le_of_add_left_le (Nat.le_of_eq hkept.length)
    · rw [← hlength]
      rfl
    · exact hkept.keeps e he (e.body.endsOnFault_eq_false_iff.mpr ⟨htraffic, hrest, hwake⟩) hparked hstop hline
    · intro cut g ends parked waited released gone left
      have hends : ends = fun e => e.body.endsOnFault := funext fun e => e.body.endsOnFault_eq.symm
      have hcut : cut = Entry.cutBy y.job := by
        funext e
        dsimp only [cut, Entry.cutBy, Entry.addCut]
        obtain _ | ⟨kind, stage⟩ := y.job
        · rfl
        · cases kind <;> cases stage <;> rfl
      have hgone : gone = s.faultDone y y.job := by
        funext es
        change (es.filter ends).map (fun e => (cut e).completion y (faultEnding s e)) = _
        rw [hends, hcut]
        rfl
      have hreleased : released = y.freedDone := rfl
      rw [hgone, hreleased, hends]
      exact hcompletes
    · change y.collector.passCut y.job = _
      unfold Collector.passCut
      obtain _ | ⟨kind, stage⟩ := y.job
      · rfl
      · cases kind <;> rfl
    · intro g left hruns hdue hstop
      rw [hpart.newWrites]
      exact hhalts.slots hruns hdue hstop
    · intro g left halted switched
      have hevents : y.engine.faultEvents l = switched ++ halted := by
        simp only [Engine.faultEvents, Engine.switchEvents, Engine.haltEvents, switched, halted, left, g]
        cases y.engine.runs <;> simp
      rw [List.append_assoc, ← hevents]
      exact hraises
  refine ⟨fun kind frame octets hjob hlimit => ?_, fun hwatch => ?_, fun hseen hphase => ?_⟩
  · have hcounted : State.Part l s (s.updLine l (fun x => { x with
        consecutiveCollisions := (s.line l).consecutiveCollisions + 1, counters := { x.counters with collisions := x.counters.collisions + 1 } }))
        { y with counters := { y.counters with collisions := y.counters.collisions + 1 }, consecutiveCollisions := y.consecutiveCollisions + 1 }
        [] [] [] := State.updLine_part rfl
    obtain ⟨hfaulted, hcount⟩ := hentered _ _ _ .collisionLimit hcounted (s.updLine_port l _)
    refine ⟨_, ?_, hfaulted, hcount⟩
    change execCollision l cycleFirst s = _
    unfold execCollision
    rw [show (s.line l).job = _ from hjob]
    dsimp only
    rw [if_pos (by rw [State.updLine_line_same]; exact hlimit)]
  · refine ⟨_, ?_, hentered s y.counters y.consecutiveCollisions .stuckLine (.refl l s) rfl |>.1⟩
    change execStuckLine l cycleFirst s = _
    rw [execStuckLine, if_pos hwatch]
  · refine ⟨_, ?_, hentered s y.counters y.consecutiveCollisions .overlongTone (.refl l s) rfl |>.1⟩
    change execOverlongTone l cycleFirst s = _
    rw [execOverlongTone, if_pos ⟨hseen, hphase⟩]

end Sys2Proof.Machine
end
